-- ==== Sys2Proof/Word.lean ====
section
/-! DEFINITION. The widths of the machine's words (spec/00_scope.md R14, R15): names only. All arithmetic on them
is in Sys2Proof/Machine/. -/

namespace Sys2Proof

/-- One byte, the smallest unit of every memory of the machine. -/
abbrev Byte := BitVec 8

/-- A 16-bit value: a vector lane (spec/10_state.md R66) or a halfword of memory. -/
abbrev Half := BitVec 16

/-- A 32-bit value: an instruction word, a peripheral register, a VectorUnit scalar register. -/
abbrev Word := BitVec 32

/-- A 64-bit value: a CPU general register, a virtual address, an FPU register, a DisplayProcessor command word. -/
abbrev Dword := BitVec 64

/-- A register number: five bits in every encoding of the three instruction sets (spec/30_encoding.md R241). -/
abbrev Reg := BitVec 5

end Sys2Proof
end

