-- ==== Sys2Proof/Syntax.lean ====
section
/-! DEFINITION. The instructions of the three decode spaces of spec/opcode_table.json: the CPU's (spec/30_encoding.md),
the VectorUnit's (spec/46_vector_unit.md, spec/47_vector_ops.md; constructors `rsp…`) and the DisplayProcessor's
commands (spec/48_rasterizer.md; constructors `rdp…`). One constructor per row of the table, in the table's order.

Operands are named as spec/30_encoding.md R241 and R242 name the fields, destination first as in assembler (R270).
A field that the decoder ignores (R243) is no operand: two words that differ only there are the same instruction. -/

namespace Sys2Proof

/-- The three decode spaces (spec/30_encoding.md R242): each has its own instruction stream and its own decoder. -/
inductive Agent where
  | cpu
  | vectorUnit
  | displayProcessor
  deriving DecidableEq, Repr

/-- An instruction of the CPU, an instruction of the VectorUnit or a command of the DisplayProcessor. -/
inductive Instr where
  /-- ADD (R302). -/
  | add (rd rs rt : Reg)
  /-- ADDU (R303). -/
  | addu (rd rs rt : Reg)
  /-- SUB (R304). -/
  | sub (rd rs rt : Reg)
  /-- SUBU (R305). -/
  | subu (rd rs rt : Reg)
  /-- ADDI (R306). -/
  | addi (rt rs : Reg) (imm : BitVec 16)
  /-- ADDIU (R307). -/
  | addiu (rt rs : Reg) (imm : BitVec 16)
  /-- DADD (R308). -/
  | dadd (rd rs rt : Reg)
  /-- DADDU (R309). -/
  | daddu (rd rs rt : Reg)
  /-- DSUB (R310). -/
  | dsub (rd rs rt : Reg)
  /-- DSUBU (R311). -/
  | dsubu (rd rs rt : Reg)
  /-- DADDI (R312). -/
  | daddi (rt rs : Reg) (imm : BitVec 16)
  /-- DADDIU (R313). -/
  | daddiu (rt rs : Reg) (imm : BitVec 16)
  /-- AND (R314). -/
  | and (rd rs rt : Reg)
  /-- OR (R315). -/
  | or (rd rs rt : Reg)
  /-- XOR (R316). -/
  | xor (rd rs rt : Reg)
  /-- NOR (R317). -/
  | nor (rd rs rt : Reg)
  /-- ANDI (R318). -/
  | andi (rt rs : Reg) (imm : BitVec 16)
  /-- ORI (R319). -/
  | ori (rt rs : Reg) (imm : BitVec 16)
  /-- XORI (R320). -/
  | xori (rt rs : Reg) (imm : BitVec 16)
  /-- LUI (R321). -/
  | lui (rt : Reg) (imm : BitVec 16)
  /-- SLT (R322). -/
  | slt (rd rs rt : Reg)
  /-- SLTU (R323). -/
  | sltu (rd rs rt : Reg)
  /-- SLTI (R324). -/
  | slti (rt rs : Reg) (imm : BitVec 16)
  /-- SLTIU (R325). -/
  | sltiu (rt rs : Reg) (imm : BitVec 16)
  /-- SLL (R326). -/
  | sll (rd rt : Reg) (sa : BitVec 5)
  /-- SRL (R327). -/
  | srl (rd rt : Reg) (sa : BitVec 5)
  /-- SRA (R328). -/
  | sra (rd rt : Reg) (sa : BitVec 5)
  /-- SLLV (R329). -/
  | sllv (rd rt rs : Reg)
  /-- SRLV (R330). -/
  | srlv (rd rt rs : Reg)
  /-- SRAV (R331). -/
  | srav (rd rt rs : Reg)
  /-- DSLL (R332). -/
  | dsll (rd rt : Reg) (sa : BitVec 5)
  /-- DSRL (R333). -/
  | dsrl (rd rt : Reg) (sa : BitVec 5)
  /-- DSRA (R334). -/
  | dsra (rd rt : Reg) (sa : BitVec 5)
  /-- DSLL32 (R335). -/
  | dsll32 (rd rt : Reg) (sa : BitVec 5)
  /-- DSRL32 (R336). -/
  | dsrl32 (rd rt : Reg) (sa : BitVec 5)
  /-- DSRA32 (R337). -/
  | dsra32 (rd rt : Reg) (sa : BitVec 5)
  /-- DSLLV (R338). -/
  | dsllv (rd rt rs : Reg)
  /-- DSRLV (R339). -/
  | dsrlv (rd rt rs : Reg)
  /-- DSRAV (R340). -/
  | dsrav (rd rt rs : Reg)
  /-- MULT (R381). -/
  | mult (rs rt : Reg)
  /-- MULTU (R382). -/
  | multu (rs rt : Reg)
  /-- DMULT (R383). -/
  | dmult (rs rt : Reg)
  /-- DMULTU (R384). -/
  | dmultu (rs rt : Reg)
  /-- DIV (R386). -/
  | div (rs rt : Reg)
  /-- DIVU (R387). -/
  | divu (rs rt : Reg)
  /-- DDIV (R388). -/
  | ddiv (rs rt : Reg)
  /-- DDIVU (R389). -/
  | ddivu (rs rt : Reg)
  /-- MFHI (R391). -/
  | mfhi (rd : Reg)
  /-- MFLO (R392). -/
  | mflo (rd : Reg)
  /-- MTHI (R393). -/
  | mthi (rs : Reg)
  /-- MTLO (R394). -/
  | mtlo (rs : Reg)
  /-- BEQ (R420). -/
  | beq (rs rt : Reg) (imm : BitVec 16)
  /-- BNE (R421). -/
  | bne (rs rt : Reg) (imm : BitVec 16)
  /-- BLEZ (R422). -/
  | blez (rs : Reg) (imm : BitVec 16)
  /-- BGTZ (R423). -/
  | bgtz (rs : Reg) (imm : BitVec 16)
  /-- BLTZ (R424). -/
  | bltz (rs : Reg) (imm : BitVec 16)
  /-- BGEZ (R425). -/
  | bgez (rs : Reg) (imm : BitVec 16)
  /-- BLTZAL (R426). -/
  | bltzal (rs : Reg) (imm : BitVec 16)
  /-- BGEZAL (R427). -/
  | bgezal (rs : Reg) (imm : BitVec 16)
  /-- BEQL (R428). -/
  | beql (rs rt : Reg) (imm : BitVec 16)
  /-- BNEL (R429). -/
  | bnel (rs rt : Reg) (imm : BitVec 16)
  /-- BLEZL (R430). -/
  | blezl (rs : Reg) (imm : BitVec 16)
  /-- BGTZL (R431). -/
  | bgtzl (rs : Reg) (imm : BitVec 16)
  /-- BLTZL (R432). -/
  | bltzl (rs : Reg) (imm : BitVec 16)
  /-- BGEZL (R433). -/
  | bgezl (rs : Reg) (imm : BitVec 16)
  /-- BLTZALL (R434). -/
  | bltzall (rs : Reg) (imm : BitVec 16)
  /-- BGEZALL (R435). -/
  | bgezall (rs : Reg) (imm : BitVec 16)
  /-- J (R436). -/
  | j (target : BitVec 26)
  /-- JAL (R437). -/
  | jal (target : BitVec 26)
  /-- JR (R438). -/
  | jr (rs : Reg)
  /-- JALR (R439). -/
  | jalr (rd rs : Reg)
  /-- LB (R463). -/
  | lb (rt : Reg) (offset : BitVec 16) (base : Reg)
  /-- LBU (R464). -/
  | lbu (rt : Reg) (offset : BitVec 16) (base : Reg)
  /-- LH (R465). -/
  | lh (rt : Reg) (offset : BitVec 16) (base : Reg)
  /-- LHU (R466). -/
  | lhu (rt : Reg) (offset : BitVec 16) (base : Reg)
  /-- LW (R467). -/
  | lw (rt : Reg) (offset : BitVec 16) (base : Reg)
  /-- LWU (R468). -/
  | lwu (rt : Reg) (offset : BitVec 16) (base : Reg)
  /-- LD (R469). -/
  | ld (rt : Reg) (offset : BitVec 16) (base : Reg)
  /-- SB (R470). -/
  | sb (rt : Reg) (offset : BitVec 16) (base : Reg)
  /-- SH (R471). -/
  | sh (rt : Reg) (offset : BitVec 16) (base : Reg)
  /-- SW (R472). -/
  | sw (rt : Reg) (offset : BitVec 16) (base : Reg)
  /-- SD (R473). -/
  | sd (rt : Reg) (offset : BitVec 16) (base : Reg)
  /-- LWL (R480). -/
  | lwl (rt : Reg) (offset : BitVec 16) (base : Reg)
  /-- LWR (R481). -/
  | lwr (rt : Reg) (offset : BitVec 16) (base : Reg)
  /-- LDL (R482). -/
  | ldl (rt : Reg) (offset : BitVec 16) (base : Reg)
  /-- LDR (R483). -/
  | ldr (rt : Reg) (offset : BitVec 16) (base : Reg)
  /-- SWL (R484). -/
  | swl (rt : Reg) (offset : BitVec 16) (base : Reg)
  /-- SWR (R485). -/
  | swr (rt : Reg) (offset : BitVec 16) (base : Reg)
  /-- SDL (R486). -/
  | sdl (rt : Reg) (offset : BitVec 16) (base : Reg)
  /-- SDR (R487). -/
  | sdr (rt : Reg) (offset : BitVec 16) (base : Reg)
  /-- LL (R490). -/
  | ll (rt : Reg) (offset : BitVec 16) (base : Reg)
  /-- LLD (R491). -/
  | lld (rt : Reg) (offset : BitVec 16) (base : Reg)
  /-- SC (R492). -/
  | sc (rt : Reg) (offset : BitVec 16) (base : Reg)
  /-- SCD (R493). -/
  | scd (rt : Reg) (offset : BitVec 16) (base : Reg)
  /-- SYSCALL (R520). -/
  | syscall (code : BitVec 20)
  /-- BREAK (R521). -/
  | brk (code : BitVec 20)
  /-- TGE (R522). -/
  | tge (rs rt : Reg) (code : BitVec 10)
  /-- TGEU (R523). -/
  | tgeu (rs rt : Reg) (code : BitVec 10)
  /-- TLT (R524). -/
  | tlt (rs rt : Reg) (code : BitVec 10)
  /-- TLTU (R525). -/
  | tltu (rs rt : Reg) (code : BitVec 10)
  /-- TEQ (R526). -/
  | teq (rs rt : Reg) (code : BitVec 10)
  /-- TNE (R527). -/
  | tne (rs rt : Reg) (code : BitVec 10)
  /-- TGEI (R528). -/
  | tgei (rs : Reg) (imm : BitVec 16)
  /-- TGEIU (R529). -/
  | tgeiu (rs : Reg) (imm : BitVec 16)
  /-- TLTI (R530). -/
  | tlti (rs : Reg) (imm : BitVec 16)
  /-- TLTIU (R531). -/
  | tltiu (rs : Reg) (imm : BitVec 16)
  /-- TEQI (R532). -/
  | teqi (rs : Reg) (imm : BitVec 16)
  /-- TNEI (R533). -/
  | tnei (rs : Reg) (imm : BitVec 16)
  /-- MFC0 (R535). -/
  | mfc0 (rt rd : Reg)
  /-- DMFC0 (R536). -/
  | dmfc0 (rt rd : Reg)
  /-- MTC0 (R537). -/
  | mtc0 (rt rd : Reg)
  /-- DMTC0 (R538). -/
  | dmtc0 (rt rd : Reg)
  /-- ERET (R540). -/
  | eret
  /-- TLBR (R545). -/
  | tlbr
  /-- TLBWI (R546). -/
  | tlbwi
  /-- TLBWR (R547). -/
  | tlbwr
  /-- TLBP (R548). -/
  | tlbp
  /-- SYNC (R550). -/
  | sync
  /-- CACHE (R551). -/
  | cache (op : BitVec 5) (offset : BitVec 16) (base : Reg)
  /-- CFC1 (R576). -/
  | cfc1 (rt fs : Reg)
  /-- CTC1 (R577). -/
  | ctc1 (rt fs : Reg)
  /-- MFC1 (R578). -/
  | mfc1 (rt fs : Reg)
  /-- DMFC1 (R579). -/
  | dmfc1 (rt fs : Reg)
  /-- MTC1 (R580). -/
  | mtc1 (rt fs : Reg)
  /-- DMTC1 (R581). -/
  | dmtc1 (rt fs : Reg)
  /-- LWC1 (R582). -/
  | lwc1 (ft : Reg) (offset : BitVec 16) (base : Reg)
  /-- LDC1 (R583). -/
  | ldc1 (ft : Reg) (offset : BitVec 16) (base : Reg)
  /-- SWC1 (R584). -/
  | swc1 (ft : Reg) (offset : BitVec 16) (base : Reg)
  /-- SDC1 (R585). -/
  | sdc1 (ft : Reg) (offset : BitVec 16) (base : Reg)
  /-- BC1F (R586). -/
  | bc1f (imm : BitVec 16)
  /-- BC1T (R587). -/
  | bc1t (imm : BitVec 16)
  /-- BC1FL (R588). -/
  | bc1fl (imm : BitVec 16)
  /-- BC1TL (R589). -/
  | bc1tl (imm : BitVec 16)
  /-- ADD.S (R590). -/
  | addS (fd fs ft : Reg)
  /-- ADD.D (R590). -/
  | addD (fd fs ft : Reg)
  /-- SUB.S (R591). -/
  | subS (fd fs ft : Reg)
  /-- SUB.D (R591). -/
  | subD (fd fs ft : Reg)
  /-- MUL.S (R592). -/
  | mulS (fd fs ft : Reg)
  /-- MUL.D (R592). -/
  | mulD (fd fs ft : Reg)
  /-- DIV.S (R593). -/
  | divS (fd fs ft : Reg)
  /-- DIV.D (R593). -/
  | divD (fd fs ft : Reg)
  /-- SQRT.S (R594). -/
  | sqrtS (fd fs : Reg)
  /-- SQRT.D (R594). -/
  | sqrtD (fd fs : Reg)
  /-- ABS.S (R595). -/
  | absS (fd fs : Reg)
  /-- ABS.D (R595). -/
  | absD (fd fs : Reg)
  /-- MOV.S (R596). -/
  | movS (fd fs : Reg)
  /-- MOV.D (R596). -/
  | movD (fd fs : Reg)
  /-- NEG.S (R597). -/
  | negS (fd fs : Reg)
  /-- NEG.D (R597). -/
  | negD (fd fs : Reg)
  /-- ROUND.L.S (R598). -/
  | roundLS (fd fs : Reg)
  /-- ROUND.L.D (R598). -/
  | roundLD (fd fs : Reg)
  /-- TRUNC.L.S (R599). -/
  | truncLS (fd fs : Reg)
  /-- TRUNC.L.D (R599). -/
  | truncLD (fd fs : Reg)
  /-- CEIL.L.S (R600). -/
  | ceilLS (fd fs : Reg)
  /-- CEIL.L.D (R600). -/
  | ceilLD (fd fs : Reg)
  /-- FLOOR.L.S (R601). -/
  | floorLS (fd fs : Reg)
  /-- FLOOR.L.D (R601). -/
  | floorLD (fd fs : Reg)
  /-- ROUND.W.S (R602). -/
  | roundWS (fd fs : Reg)
  /-- ROUND.W.D (R602). -/
  | roundWD (fd fs : Reg)
  /-- TRUNC.W.S (R603). -/
  | truncWS (fd fs : Reg)
  /-- TRUNC.W.D (R603). -/
  | truncWD (fd fs : Reg)
  /-- CEIL.W.S (R604). -/
  | ceilWS (fd fs : Reg)
  /-- CEIL.W.D (R604). -/
  | ceilWD (fd fs : Reg)
  /-- FLOOR.W.S (R605). -/
  | floorWS (fd fs : Reg)
  /-- FLOOR.W.D (R605). -/
  | floorWD (fd fs : Reg)
  /-- CVT.S.D (R606). -/
  | cvtSD (fd fs : Reg)
  /-- CVT.S.W (R606). -/
  | cvtSW (fd fs : Reg)
  /-- CVT.S.L (R606). -/
  | cvtSL (fd fs : Reg)
  /-- CVT.D.S (R607). -/
  | cvtDS (fd fs : Reg)
  /-- CVT.D.W (R607). -/
  | cvtDW (fd fs : Reg)
  /-- CVT.D.L (R607). -/
  | cvtDL (fd fs : Reg)
  /-- CVT.W.S (R608). -/
  | cvtWS (fd fs : Reg)
  /-- CVT.W.D (R608). -/
  | cvtWD (fd fs : Reg)
  /-- CVT.L.S (R609). -/
  | cvtLS (fd fs : Reg)
  /-- CVT.L.D (R609). -/
  | cvtLD (fd fs : Reg)
  /-- C.F.S (R610). -/
  | cFS (fs ft : Reg)
  /-- C.F.D (R610). -/
  | cFD (fs ft : Reg)
  /-- C.UN.S (R610). -/
  | cUnS (fs ft : Reg)
  /-- C.UN.D (R610). -/
  | cUnD (fs ft : Reg)
  /-- C.EQ.S (R610). -/
  | cEqS (fs ft : Reg)
  /-- C.EQ.D (R610). -/
  | cEqD (fs ft : Reg)
  /-- C.UEQ.S (R610). -/
  | cUeqS (fs ft : Reg)
  /-- C.UEQ.D (R610). -/
  | cUeqD (fs ft : Reg)
  /-- C.OLT.S (R610). -/
  | cOltS (fs ft : Reg)
  /-- C.OLT.D (R610). -/
  | cOltD (fs ft : Reg)
  /-- C.ULT.S (R610). -/
  | cUltS (fs ft : Reg)
  /-- C.ULT.D (R610). -/
  | cUltD (fs ft : Reg)
  /-- C.OLE.S (R610). -/
  | cOleS (fs ft : Reg)
  /-- C.OLE.D (R610). -/
  | cOleD (fs ft : Reg)
  /-- C.ULE.S (R610). -/
  | cUleS (fs ft : Reg)
  /-- C.ULE.D (R610). -/
  | cUleD (fs ft : Reg)
  /-- C.SF.S (R610). -/
  | cSfS (fs ft : Reg)
  /-- C.SF.D (R610). -/
  | cSfD (fs ft : Reg)
  /-- C.NGLE.S (R610). -/
  | cNgleS (fs ft : Reg)
  /-- C.NGLE.D (R610). -/
  | cNgleD (fs ft : Reg)
  /-- C.SEQ.S (R610). -/
  | cSeqS (fs ft : Reg)
  /-- C.SEQ.D (R610). -/
  | cSeqD (fs ft : Reg)
  /-- C.NGL.S (R610). -/
  | cNglS (fs ft : Reg)
  /-- C.NGL.D (R610). -/
  | cNglD (fs ft : Reg)
  /-- C.LT.S (R610). -/
  | cLtS (fs ft : Reg)
  /-- C.LT.D (R610). -/
  | cLtD (fs ft : Reg)
  /-- C.NGE.S (R610). -/
  | cNgeS (fs ft : Reg)
  /-- C.NGE.D (R610). -/
  | cNgeD (fs ft : Reg)
  /-- C.LE.S (R610). -/
  | cLeS (fs ft : Reg)
  /-- C.LE.D (R610). -/
  | cLeD (fs ft : Reg)
  /-- C.NGT.S (R610). -/
  | cNgtS (fs ft : Reg)
  /-- C.NGT.D (R610). -/
  | cNgtD (fs ft : Reg)
  /-- RSP.SLL (R642). -/
  | rspSll (rd rt : Reg) (sa : BitVec 5)
  /-- RSP.SRL (R643). -/
  | rspSrl (rd rt : Reg) (sa : BitVec 5)
  /-- RSP.SRA (R644). -/
  | rspSra (rd rt : Reg) (sa : BitVec 5)
  /-- RSP.SLLV (R645). -/
  | rspSllv (rd rt rs : Reg)
  /-- RSP.SRLV (R646). -/
  | rspSrlv (rd rt rs : Reg)
  /-- RSP.SRAV (R647). -/
  | rspSrav (rd rt rs : Reg)
  /-- RSP.ADD (R648). -/
  | rspAdd (rd rs rt : Reg)
  /-- RSP.ADDU (R649). -/
  | rspAddu (rd rs rt : Reg)
  /-- RSP.SUB (R650). -/
  | rspSub (rd rs rt : Reg)
  /-- RSP.SUBU (R651). -/
  | rspSubu (rd rs rt : Reg)
  /-- RSP.AND (R652). -/
  | rspAnd (rd rs rt : Reg)
  /-- RSP.OR (R653). -/
  | rspOr (rd rs rt : Reg)
  /-- RSP.XOR (R654). -/
  | rspXor (rd rs rt : Reg)
  /-- RSP.NOR (R655). -/
  | rspNor (rd rs rt : Reg)
  /-- RSP.SLT (R656). -/
  | rspSlt (rd rs rt : Reg)
  /-- RSP.SLTU (R657). -/
  | rspSltu (rd rs rt : Reg)
  /-- RSP.JR (R666). -/
  | rspJr (rs : Reg)
  /-- RSP.JALR (R667). -/
  | rspJalr (rd rs : Reg)
  /-- RSP.BREAK (R637). -/
  | rspBreak (code : BitVec 20)
  /-- RSP.ADDI (R658). -/
  | rspAddi (rt rs : Reg) (imm : BitVec 16)
  /-- RSP.ADDIU (R659). -/
  | rspAddiu (rt rs : Reg) (imm : BitVec 16)
  /-- RSP.SLTI (R660). -/
  | rspSlti (rt rs : Reg) (imm : BitVec 16)
  /-- RSP.SLTIU (R661). -/
  | rspSltiu (rt rs : Reg) (imm : BitVec 16)
  /-- RSP.ANDI (R662). -/
  | rspAndi (rt rs : Reg) (imm : BitVec 16)
  /-- RSP.ORI (R663). -/
  | rspOri (rt rs : Reg) (imm : BitVec 16)
  /-- RSP.XORI (R664). -/
  | rspXori (rt rs : Reg) (imm : BitVec 16)
  /-- RSP.LUI (R665). -/
  | rspLui (rt : Reg) (imm : BitVec 16)
  /-- RSP.BEQ (R670). -/
  | rspBeq (rs rt : Reg) (imm : BitVec 16)
  /-- RSP.BNE (R671). -/
  | rspBne (rs rt : Reg) (imm : BitVec 16)
  /-- RSP.BLEZ (R672). -/
  | rspBlez (rs : Reg) (imm : BitVec 16)
  /-- RSP.BGTZ (R673). -/
  | rspBgtz (rs : Reg) (imm : BitVec 16)
  /-- RSP.J (R668). -/
  | rspJ (target : BitVec 26)
  /-- RSP.JAL (R669). -/
  | rspJal (target : BitVec 26)
  /-- RSP.BLTZ (R674). -/
  | rspBltz (rs : Reg) (imm : BitVec 16)
  /-- RSP.BGEZ (R675). -/
  | rspBgez (rs : Reg) (imm : BitVec 16)
  /-- RSP.BLTZAL (R676). -/
  | rspBltzal (rs : Reg) (imm : BitVec 16)
  /-- RSP.BGEZAL (R677). -/
  | rspBgezal (rs : Reg) (imm : BitVec 16)
  /-- RSP.LB (R678). -/
  | rspLb (rt : Reg) (offset : BitVec 16) (base : Reg)
  /-- RSP.LH (R679). -/
  | rspLh (rt : Reg) (offset : BitVec 16) (base : Reg)
  /-- RSP.LW (R680). -/
  | rspLw (rt : Reg) (offset : BitVec 16) (base : Reg)
  /-- RSP.LBU (R681). -/
  | rspLbu (rt : Reg) (offset : BitVec 16) (base : Reg)
  /-- RSP.LHU (R682). -/
  | rspLhu (rt : Reg) (offset : BitVec 16) (base : Reg)
  /-- RSP.LWU (R683). -/
  | rspLwu (rt : Reg) (offset : BitVec 16) (base : Reg)
  /-- RSP.SB (R684). -/
  | rspSb (rt : Reg) (offset : BitVec 16) (base : Reg)
  /-- RSP.SH (R685). -/
  | rspSh (rt : Reg) (offset : BitVec 16) (base : Reg)
  /-- RSP.SW (R686). -/
  | rspSw (rt : Reg) (offset : BitVec 16) (base : Reg)
  /-- RSP.MFC0 (R687). -/
  | rspMfc0 (rt rd : Reg)
  /-- RSP.MTC0 (R688). -/
  | rspMtc0 (rt rd : Reg)
  /-- RSP.MFC2 (R690). -/
  | rspMfc2 (rt vs : Reg) (e : BitVec 4)
  /-- RSP.MTC2 (R691). -/
  | rspMtc2 (rt vd : Reg) (e : BitVec 4)
  /-- RSP.CFC2 (R692). -/
  | rspCfc2 (rt rd : Reg)
  /-- RSP.CTC2 (R693). -/
  | rspCtc2 (rt rd : Reg)
  /-- RSP.LBV (R695). -/
  | rspLbv (vt : Reg) (e : BitVec 4) (offset : BitVec 7) (base : Reg)
  /-- RSP.LSV (R696). -/
  | rspLsv (vt : Reg) (e : BitVec 4) (offset : BitVec 7) (base : Reg)
  /-- RSP.LLV (R697). -/
  | rspLlv (vt : Reg) (e : BitVec 4) (offset : BitVec 7) (base : Reg)
  /-- RSP.LDV (R698). -/
  | rspLdv (vt : Reg) (e : BitVec 4) (offset : BitVec 7) (base : Reg)
  /-- RSP.LQV (R699). -/
  | rspLqv (vt : Reg) (e : BitVec 4) (offset : BitVec 7) (base : Reg)
  /-- RSP.LRV (R705). -/
  | rspLrv (vt : Reg) (e : BitVec 4) (offset : BitVec 7) (base : Reg)
  /-- RSP.LPV (R706). -/
  | rspLpv (vt : Reg) (e : BitVec 4) (offset : BitVec 7) (base : Reg)
  /-- RSP.LUV (R707). -/
  | rspLuv (vt : Reg) (e : BitVec 4) (offset : BitVec 7) (base : Reg)
  /-- RSP.LHV (R708). -/
  | rspLhv (vt : Reg) (e : BitVec 4) (offset : BitVec 7) (base : Reg)
  /-- RSP.LFV (R709). -/
  | rspLfv (vt : Reg) (e : BitVec 4) (offset : BitVec 7) (base : Reg)
  /-- RSP.LWV (R710). -/
  | rspLwv (vt : Reg) (e : BitVec 4) (offset : BitVec 7) (base : Reg)
  /-- RSP.LTV (R711). -/
  | rspLtv (vt : Reg) (e : BitVec 4) (offset : BitVec 7) (base : Reg)
  /-- RSP.SBV (R700). -/
  | rspSbv (vt : Reg) (e : BitVec 4) (offset : BitVec 7) (base : Reg)
  /-- RSP.SSV (R701). -/
  | rspSsv (vt : Reg) (e : BitVec 4) (offset : BitVec 7) (base : Reg)
  /-- RSP.SLV (R702). -/
  | rspSlv (vt : Reg) (e : BitVec 4) (offset : BitVec 7) (base : Reg)
  /-- RSP.SDV (R703). -/
  | rspSdv (vt : Reg) (e : BitVec 4) (offset : BitVec 7) (base : Reg)
  /-- RSP.SQV (R704). -/
  | rspSqv (vt : Reg) (e : BitVec 4) (offset : BitVec 7) (base : Reg)
  /-- RSP.SRV (R712). -/
  | rspSrv (vt : Reg) (e : BitVec 4) (offset : BitVec 7) (base : Reg)
  /-- RSP.SPV (R713). -/
  | rspSpv (vt : Reg) (e : BitVec 4) (offset : BitVec 7) (base : Reg)
  /-- RSP.SUV (R714). -/
  | rspSuv (vt : Reg) (e : BitVec 4) (offset : BitVec 7) (base : Reg)
  /-- RSP.SHV (R715). -/
  | rspShv (vt : Reg) (e : BitVec 4) (offset : BitVec 7) (base : Reg)
  /-- RSP.SFV (R716). -/
  | rspSfv (vt : Reg) (e : BitVec 4) (offset : BitVec 7) (base : Reg)
  /-- RSP.SWV (R717). -/
  | rspSwv (vt : Reg) (e : BitVec 4) (offset : BitVec 7) (base : Reg)
  /-- RSP.STV (R718). -/
  | rspStv (vt : Reg) (e : BitVec 4) (offset : BitVec 7) (base : Reg)
  /-- RSP.VADD (R725). -/
  | rspVadd (vd vs vt : Reg) (e : BitVec 4)
  /-- RSP.VSUB (R726). -/
  | rspVsub (vd vs vt : Reg) (e : BitVec 4)
  /-- RSP.VABS (R727). -/
  | rspVabs (vd vs vt : Reg) (e : BitVec 4)
  /-- RSP.VAND (R728). -/
  | rspVand (vd vs vt : Reg) (e : BitVec 4)
  /-- RSP.VNAND (R729). -/
  | rspVnand (vd vs vt : Reg) (e : BitVec 4)
  /-- RSP.VOR (R730). -/
  | rspVor (vd vs vt : Reg) (e : BitVec 4)
  /-- RSP.VNOR (R731). -/
  | rspVnor (vd vs vt : Reg) (e : BitVec 4)
  /-- RSP.VXOR (R732). -/
  | rspVxor (vd vs vt : Reg) (e : BitVec 4)
  /-- RSP.VNXOR (R733). -/
  | rspVnxor (vd vs vt : Reg) (e : BitVec 4)
  /-- RSP.VLT (R734). -/
  | rspVlt (vd vs vt : Reg) (e : BitVec 4)
  /-- RSP.VEQ (R735). -/
  | rspVeq (vd vs vt : Reg) (e : BitVec 4)
  /-- RSP.VNE (R736). -/
  | rspVne (vd vs vt : Reg) (e : BitVec 4)
  /-- RSP.VGE (R737). -/
  | rspVge (vd vs vt : Reg) (e : BitVec 4)
  /-- RSP.VMRG (R738). -/
  | rspVmrg (vd vs vt : Reg) (e : BitVec 4)
  /-- RSP.VSAR (R739). -/
  | rspVsar (vd : Reg) (e : BitVec 4)
  /-- RSP.VNOP (R740). -/
  | rspVnop
  /-- RSP.VMULF (R741). -/
  | rspVmulf (vd vs vt : Reg) (e : BitVec 4)
  /-- RSP.VMULU (R742). -/
  | rspVmulu (vd vs vt : Reg) (e : BitVec 4)
  /-- RSP.VRNDP (R743). -/
  | rspVrndp (vd vs vt : Reg) (e : BitVec 4)
  /-- RSP.VMULQ (R744). -/
  | rspVmulq (vd vs vt : Reg) (e : BitVec 4)
  /-- RSP.VMUDL (R745). -/
  | rspVmudl (vd vs vt : Reg) (e : BitVec 4)
  /-- RSP.VMUDM (R746). -/
  | rspVmudm (vd vs vt : Reg) (e : BitVec 4)
  /-- RSP.VMUDN (R747). -/
  | rspVmudn (vd vs vt : Reg) (e : BitVec 4)
  /-- RSP.VMUDH (R748). -/
  | rspVmudh (vd vs vt : Reg) (e : BitVec 4)
  /-- RSP.VMACF (R749). -/
  | rspVmacf (vd vs vt : Reg) (e : BitVec 4)
  /-- RSP.VMACU (R750). -/
  | rspVmacu (vd vs vt : Reg) (e : BitVec 4)
  /-- RSP.VRNDN (R751). -/
  | rspVrndn (vd vs vt : Reg) (e : BitVec 4)
  /-- RSP.VMACQ (R752). -/
  | rspVmacq (vd vs vt : Reg) (e : BitVec 4)
  /-- RSP.VMADL (R753). -/
  | rspVmadl (vd vs vt : Reg) (e : BitVec 4)
  /-- RSP.VMADM (R754). -/
  | rspVmadm (vd vs vt : Reg) (e : BitVec 4)
  /-- RSP.VMADN (R755). -/
  | rspVmadn (vd vs vt : Reg) (e : BitVec 4)
  /-- RSP.VMADH (R756). -/
  | rspVmadh (vd vs vt : Reg) (e : BitVec 4)
  /-- RSP.VADDC (R757). -/
  | rspVaddc (vd vs vt : Reg) (e : BitVec 4)
  /-- RSP.VSUBC (R758). -/
  | rspVsubc (vd vs vt : Reg) (e : BitVec 4)
  /-- RSP.VCL (R759). -/
  | rspVcl (vd vs vt : Reg) (e : BitVec 4)
  /-- RSP.VCH (R760). -/
  | rspVch (vd vs vt : Reg) (e : BitVec 4)
  /-- RSP.VCR (R761). -/
  | rspVcr (vd vs vt : Reg) (e : BitVec 4)
  /-- RSP.VRCP (R762). -/
  | rspVrcp (vd vs vt : Reg) (e : BitVec 4)
  /-- RSP.VRCPL (R763). -/
  | rspVrcpl (vd vs vt : Reg) (e : BitVec 4)
  /-- RSP.VRCPH (R764). -/
  | rspVrcph (vd vs vt : Reg) (e : BitVec 4)
  /-- RSP.VMOV (R765). -/
  | rspVmov (vd vs vt : Reg) (e : BitVec 4)
  /-- RSP.VRSQ (R766). -/
  | rspVrsq (vd vs vt : Reg) (e : BitVec 4)
  /-- RSP.VRSQL (R767). -/
  | rspVrsql (vd vs vt : Reg) (e : BitVec 4)
  /-- RSP.VRSQH (R768). -/
  | rspVrsqh (vd vs vt : Reg) (e : BitVec 4)
  /-- RDP.NOP (R1010). -/
  | rdpNop
  /-- RDP.TRIANGLE (R1015). -/
  | rdpTriangle (payload : BitVec 56) (rest : List (BitVec 64))
  /-- RDP.TRIANGLE_Z (R1016). -/
  | rdpTriangleZ (payload : BitVec 56) (rest : List (BitVec 64))
  /-- RDP.TRIANGLE_TEX (R1017). -/
  | rdpTriangleTex (payload : BitVec 56) (rest : List (BitVec 64))
  /-- RDP.TRIANGLE_TEX_Z (R1018). -/
  | rdpTriangleTexZ (payload : BitVec 56) (rest : List (BitVec 64))
  /-- RDP.TRIANGLE_SHADE (R1019). -/
  | rdpTriangleShade (payload : BitVec 56) (rest : List (BitVec 64))
  /-- RDP.TRIANGLE_SHADE_Z (R1020). -/
  | rdpTriangleShadeZ (payload : BitVec 56) (rest : List (BitVec 64))
  /-- RDP.TRIANGLE_SHADE_TEX (R1021). -/
  | rdpTriangleShadeTex (payload : BitVec 56) (rest : List (BitVec 64))
  /-- RDP.TRIANGLE_SHADE_TEX_Z (R1022). -/
  | rdpTriangleShadeTexZ (payload : BitVec 56) (rest : List (BitVec 64))
  /-- RDP.TEXTURE_RECTANGLE (R1023). -/
  | rdpTextureRectangle (payload : BitVec 56) (rest : List (BitVec 64))
  /-- RDP.TEXTURE_RECTANGLE_FLIP (R1024). -/
  | rdpTextureRectangleFlip (payload : BitVec 56) (rest : List (BitVec 64))
  /-- RDP.SYNC_LOAD (R1025). -/
  | rdpSyncLoad
  /-- RDP.SYNC_PIPE (R1026). -/
  | rdpSyncPipe
  /-- RDP.SYNC_TILE (R1027). -/
  | rdpSyncTile
  /-- RDP.SYNC_FULL (R1028). -/
  | rdpSyncFull
  /-- RDP.SET_KEY_GB (R1029). -/
  | rdpSetKeyGb (payload : BitVec 56)
  /-- RDP.SET_KEY_R (R1030). -/
  | rdpSetKeyR (payload : BitVec 56)
  /-- RDP.SET_CONVERT (R1031). -/
  | rdpSetConvert (payload : BitVec 56)
  /-- RDP.SET_SCISSOR (R1032). -/
  | rdpSetScissor (payload : BitVec 56)
  /-- RDP.SET_PRIM_DEPTH (R1033). -/
  | rdpSetPrimDepth (payload : BitVec 56)
  /-- RDP.SET_OTHER_MODES (R1034). -/
  | rdpSetOtherModes (payload : BitVec 56)
  /-- RDP.LOAD_TLUT (R1035). -/
  | rdpLoadTlut (payload : BitVec 56)
  /-- RDP.SET_TILE_SIZE (R1036). -/
  | rdpSetTileSize (payload : BitVec 56)
  /-- RDP.LOAD_BLOCK (R1037). -/
  | rdpLoadBlock (payload : BitVec 56)
  /-- RDP.LOAD_TILE (R1038). -/
  | rdpLoadTile (payload : BitVec 56)
  /-- RDP.SET_TILE (R1039). -/
  | rdpSetTile (payload : BitVec 56)
  /-- RDP.FILL_RECTANGLE (R1040). -/
  | rdpFillRectangle (xl yl xh yh : BitVec 12)
  /-- RDP.SET_FILL_COLOR (R1041). -/
  | rdpSetFillColor (color : BitVec 32)
  /-- RDP.SET_FOG_COLOR (R1042). -/
  | rdpSetFogColor (payload : BitVec 56)
  /-- RDP.SET_BLEND_COLOR (R1043). -/
  | rdpSetBlendColor (payload : BitVec 56)
  /-- RDP.SET_PRIM_COLOR (R1044). -/
  | rdpSetPrimColor (payload : BitVec 56)
  /-- RDP.SET_ENV_COLOR (R1045). -/
  | rdpSetEnvColor (payload : BitVec 56)
  /-- RDP.SET_COMBINE_MODE (R1046). -/
  | rdpSetCombineMode (payload : BitVec 56)
  /-- RDP.SET_TEXTURE_IMAGE (R1047). -/
  | rdpSetTextureImage (payload : BitVec 56)
  /-- RDP.SET_Z_IMAGE (R1048). -/
  | rdpSetZImage (payload : BitVec 56)
  /-- RDP.SET_COLOR_IMAGE (R1049). -/
  | rdpSetColorImage (payload : BitVec 56)
  deriving DecidableEq, Repr

end Sys2Proof
end

