-- ==== Sys2Proof/WellFormed.lean ====
section
/-! DEFINITION. Which terms of `Instr` are instructions. Every operand is a bit vector of its field's exact width, so the
one thing a term can get wrong is the number of words that follow the first one of a multi-word DisplayProcessor command
(spec/48_rasterizer.md R1002). -/

namespace Sys2Proof

/-- The number of words a command has after its first one (R1002, less one) is the number the term carries. -/
def Instr.wellFormed : Instr → Bool
  | .rdpTriangle _ rest => rest.length == 3
  | .rdpTriangleZ _ rest => rest.length == 5
  | .rdpTriangleTex _ rest => rest.length == 11
  | .rdpTriangleTexZ _ rest => rest.length == 13
  | .rdpTriangleShade _ rest => rest.length == 11
  | .rdpTriangleShadeZ _ rest => rest.length == 13
  | .rdpTriangleShadeTex _ rest => rest.length == 19
  | .rdpTriangleShadeTexZ _ rest => rest.length == 21
  | .rdpTextureRectangle _ rest => rest.length == 1
  | .rdpTextureRectangleFlip _ rest => rest.length == 1
  | .add .. | .addu .. | .sub .. | .subu .. | .addi .. | .addiu .. | .dadd .. | .daddu ..
  | .dsub .. | .dsubu .. | .daddi .. | .daddiu .. | .and .. | .or .. | .xor .. | .nor ..
  | .andi .. | .ori .. | .xori .. | .lui .. | .slt .. | .sltu .. | .slti .. | .sltiu ..
  | .sll .. | .srl .. | .sra .. | .sllv .. | .srlv .. | .srav .. | .dsll .. | .dsrl ..
  | .dsra .. | .dsll32 .. | .dsrl32 .. | .dsra32 .. | .dsllv .. | .dsrlv .. | .dsrav .. | .mult ..
  | .multu .. | .dmult .. | .dmultu .. | .div .. | .divu .. | .ddiv .. | .ddivu .. | .mfhi ..
  | .mflo .. | .mthi .. | .mtlo .. | .beq .. | .bne .. | .blez .. | .bgtz .. | .bltz ..
  | .bgez .. | .bltzal .. | .bgezal .. | .beql .. | .bnel .. | .blezl .. | .bgtzl .. | .bltzl ..
  | .bgezl .. | .bltzall .. | .bgezall .. | .j .. | .jal .. | .jr .. | .jalr .. | .lb ..
  | .lbu .. | .lh .. | .lhu .. | .lw .. | .lwu .. | .ld .. | .sb .. | .sh ..
  | .sw .. | .sd .. | .lwl .. | .lwr .. | .ldl .. | .ldr .. | .swl .. | .swr ..
  | .sdl .. | .sdr .. | .ll .. | .lld .. | .sc .. | .scd .. | .syscall .. | .brk ..
  | .tge .. | .tgeu .. | .tlt .. | .tltu .. | .teq .. | .tne .. | .tgei .. | .tgeiu ..
  | .tlti .. | .tltiu .. | .teqi .. | .tnei .. | .mfc0 .. | .dmfc0 .. | .mtc0 .. | .dmtc0 ..
  | .eret .. | .tlbr .. | .tlbwi .. | .tlbwr .. | .tlbp .. | .sync .. | .cache .. | .cfc1 ..
  | .ctc1 .. | .mfc1 .. | .dmfc1 .. | .mtc1 .. | .dmtc1 .. | .lwc1 .. | .ldc1 .. | .swc1 ..
  | .sdc1 .. | .bc1f .. | .bc1t .. | .bc1fl .. | .bc1tl .. | .addS .. | .addD .. | .subS ..
  | .subD .. | .mulS .. | .mulD .. | .divS .. | .divD .. | .sqrtS .. | .sqrtD .. | .absS ..
  | .absD .. | .movS .. | .movD .. | .negS .. | .negD .. | .roundLS .. | .roundLD .. | .truncLS ..
  | .truncLD .. | .ceilLS .. | .ceilLD .. | .floorLS .. | .floorLD .. | .roundWS .. | .roundWD .. | .truncWS ..
  | .truncWD .. | .ceilWS .. | .ceilWD .. | .floorWS .. | .floorWD .. | .cvtSD .. | .cvtSW .. | .cvtSL ..
  | .cvtDS .. | .cvtDW .. | .cvtDL .. | .cvtWS .. | .cvtWD .. | .cvtLS .. | .cvtLD .. | .cFS ..
  | .cFD .. | .cUnS .. | .cUnD .. | .cEqS .. | .cEqD .. | .cUeqS .. | .cUeqD .. | .cOltS ..
  | .cOltD .. | .cUltS .. | .cUltD .. | .cOleS .. | .cOleD .. | .cUleS .. | .cUleD .. | .cSfS ..
  | .cSfD .. | .cNgleS .. | .cNgleD .. | .cSeqS .. | .cSeqD .. | .cNglS .. | .cNglD .. | .cLtS ..
  | .cLtD .. | .cNgeS .. | .cNgeD .. | .cLeS .. | .cLeD .. | .cNgtS .. | .cNgtD .. | .rspSll ..
  | .rspSrl .. | .rspSra .. | .rspSllv .. | .rspSrlv .. | .rspSrav .. | .rspAdd .. | .rspAddu .. | .rspSub ..
  | .rspSubu .. | .rspAnd .. | .rspOr .. | .rspXor .. | .rspNor .. | .rspSlt .. | .rspSltu .. | .rspJr ..
  | .rspJalr .. | .rspBreak .. | .rspAddi .. | .rspAddiu .. | .rspSlti .. | .rspSltiu .. | .rspAndi .. | .rspOri ..
  | .rspXori .. | .rspLui .. | .rspBeq .. | .rspBne .. | .rspBlez .. | .rspBgtz .. | .rspJ .. | .rspJal ..
  | .rspBltz .. | .rspBgez .. | .rspBltzal .. | .rspBgezal .. | .rspLb .. | .rspLh .. | .rspLw .. | .rspLbu ..
  | .rspLhu .. | .rspLwu .. | .rspSb .. | .rspSh .. | .rspSw .. | .rspMfc0 .. | .rspMtc0 .. | .rspMfc2 ..
  | .rspMtc2 .. | .rspCfc2 .. | .rspCtc2 .. | .rspLbv .. | .rspLsv .. | .rspLlv .. | .rspLdv .. | .rspLqv ..
  | .rspLrv .. | .rspLpv .. | .rspLuv .. | .rspLhv .. | .rspLfv .. | .rspLwv .. | .rspLtv .. | .rspSbv ..
  | .rspSsv .. | .rspSlv .. | .rspSdv .. | .rspSqv .. | .rspSrv .. | .rspSpv .. | .rspSuv .. | .rspShv ..
  | .rspSfv .. | .rspSwv .. | .rspStv .. | .rspVadd .. | .rspVsub .. | .rspVabs .. | .rspVand .. | .rspVnand ..
  | .rspVor .. | .rspVnor .. | .rspVxor .. | .rspVnxor .. | .rspVlt .. | .rspVeq .. | .rspVne .. | .rspVge ..
  | .rspVmrg .. | .rspVsar .. | .rspVnop .. | .rspVmulf .. | .rspVmulu .. | .rspVrndp .. | .rspVmulq .. | .rspVmudl ..
  | .rspVmudm .. | .rspVmudn .. | .rspVmudh .. | .rspVmacf .. | .rspVmacu .. | .rspVrndn .. | .rspVmacq .. | .rspVmadl ..
  | .rspVmadm .. | .rspVmadn .. | .rspVmadh .. | .rspVaddc .. | .rspVsubc .. | .rspVcl .. | .rspVch .. | .rspVcr ..
  | .rspVrcp .. | .rspVrcpl .. | .rspVrcph .. | .rspVmov .. | .rspVrsq .. | .rspVrsql .. | .rspVrsqh .. | .rdpNop ..
  | .rdpSyncLoad .. | .rdpSyncPipe .. | .rdpSyncTile .. | .rdpSyncFull .. | .rdpSetKeyGb .. | .rdpSetKeyR .. | .rdpSetConvert .. | .rdpSetScissor ..
  | .rdpSetPrimDepth .. | .rdpSetOtherModes .. | .rdpLoadTlut .. | .rdpSetTileSize .. | .rdpLoadBlock .. | .rdpLoadTile .. | .rdpSetTile .. | .rdpFillRectangle ..
  | .rdpSetFillColor .. | .rdpSetFogColor .. | .rdpSetBlendColor .. | .rdpSetPrimColor .. | .rdpSetEnvColor .. | .rdpSetCombineMode .. | .rdpSetTextureImage .. | .rdpSetZImage ..
  | .rdpSetColorImage .. => true

/-- The decode space an instruction belongs to (spec/30_encoding.md R242). -/
def Instr.agent : Instr → Agent
  | .add .. | .addu .. | .sub .. | .subu .. | .addi .. | .addiu .. | .dadd .. | .daddu ..
  | .dsub .. | .dsubu .. | .daddi .. | .daddiu .. | .and .. | .or .. | .xor .. | .nor ..
  | .andi .. | .ori .. | .xori .. | .lui .. | .slt .. | .sltu .. | .slti .. | .sltiu ..
  | .sll .. | .srl .. | .sra .. | .sllv .. | .srlv .. | .srav .. | .dsll .. | .dsrl ..
  | .dsra .. | .dsll32 .. | .dsrl32 .. | .dsra32 .. | .dsllv .. | .dsrlv .. | .dsrav .. | .mult ..
  | .multu .. | .dmult .. | .dmultu .. | .div .. | .divu .. | .ddiv .. | .ddivu .. | .mfhi ..
  | .mflo .. | .mthi .. | .mtlo .. | .beq .. | .bne .. | .blez .. | .bgtz .. | .bltz ..
  | .bgez .. | .bltzal .. | .bgezal .. | .beql .. | .bnel .. | .blezl .. | .bgtzl .. | .bltzl ..
  | .bgezl .. | .bltzall .. | .bgezall .. | .j .. | .jal .. | .jr .. | .jalr .. | .lb ..
  | .lbu .. | .lh .. | .lhu .. | .lw .. | .lwu .. | .ld .. | .sb .. | .sh ..
  | .sw .. | .sd .. | .lwl .. | .lwr .. | .ldl .. | .ldr .. | .swl .. | .swr ..
  | .sdl .. | .sdr .. | .ll .. | .lld .. | .sc .. | .scd .. | .syscall .. | .brk ..
  | .tge .. | .tgeu .. | .tlt .. | .tltu .. | .teq .. | .tne .. | .tgei .. | .tgeiu ..
  | .tlti .. | .tltiu .. | .teqi .. | .tnei .. | .mfc0 .. | .dmfc0 .. | .mtc0 .. | .dmtc0 ..
  | .eret .. | .tlbr .. | .tlbwi .. | .tlbwr .. | .tlbp .. | .sync .. | .cache .. | .cfc1 ..
  | .ctc1 .. | .mfc1 .. | .dmfc1 .. | .mtc1 .. | .dmtc1 .. | .lwc1 .. | .ldc1 .. | .swc1 ..
  | .sdc1 .. | .bc1f .. | .bc1t .. | .bc1fl .. | .bc1tl .. | .addS .. | .addD .. | .subS ..
  | .subD .. | .mulS .. | .mulD .. | .divS .. | .divD .. | .sqrtS .. | .sqrtD .. | .absS ..
  | .absD .. | .movS .. | .movD .. | .negS .. | .negD .. | .roundLS .. | .roundLD .. | .truncLS ..
  | .truncLD .. | .ceilLS .. | .ceilLD .. | .floorLS .. | .floorLD .. | .roundWS .. | .roundWD .. | .truncWS ..
  | .truncWD .. | .ceilWS .. | .ceilWD .. | .floorWS .. | .floorWD .. | .cvtSD .. | .cvtSW .. | .cvtSL ..
  | .cvtDS .. | .cvtDW .. | .cvtDL .. | .cvtWS .. | .cvtWD .. | .cvtLS .. | .cvtLD .. | .cFS ..
  | .cFD .. | .cUnS .. | .cUnD .. | .cEqS .. | .cEqD .. | .cUeqS .. | .cUeqD .. | .cOltS ..
  | .cOltD .. | .cUltS .. | .cUltD .. | .cOleS .. | .cOleD .. | .cUleS .. | .cUleD .. | .cSfS ..
  | .cSfD .. | .cNgleS .. | .cNgleD .. | .cSeqS .. | .cSeqD .. | .cNglS .. | .cNglD .. | .cLtS ..
  | .cLtD .. | .cNgeS .. | .cNgeD .. | .cLeS .. | .cLeD .. | .cNgtS .. | .cNgtD .. => .cpu
  | .rspSll .. | .rspSrl .. | .rspSra .. | .rspSllv .. | .rspSrlv .. | .rspSrav .. | .rspAdd .. | .rspAddu ..
  | .rspSub .. | .rspSubu .. | .rspAnd .. | .rspOr .. | .rspXor .. | .rspNor .. | .rspSlt .. | .rspSltu ..
  | .rspJr .. | .rspJalr .. | .rspBreak .. | .rspAddi .. | .rspAddiu .. | .rspSlti .. | .rspSltiu .. | .rspAndi ..
  | .rspOri .. | .rspXori .. | .rspLui .. | .rspBeq .. | .rspBne .. | .rspBlez .. | .rspBgtz .. | .rspJ ..
  | .rspJal .. | .rspBltz .. | .rspBgez .. | .rspBltzal .. | .rspBgezal .. | .rspLb .. | .rspLh .. | .rspLw ..
  | .rspLbu .. | .rspLhu .. | .rspLwu .. | .rspSb .. | .rspSh .. | .rspSw .. | .rspMfc0 .. | .rspMtc0 ..
  | .rspMfc2 .. | .rspMtc2 .. | .rspCfc2 .. | .rspCtc2 .. | .rspLbv .. | .rspLsv .. | .rspLlv .. | .rspLdv ..
  | .rspLqv .. | .rspLrv .. | .rspLpv .. | .rspLuv .. | .rspLhv .. | .rspLfv .. | .rspLwv .. | .rspLtv ..
  | .rspSbv .. | .rspSsv .. | .rspSlv .. | .rspSdv .. | .rspSqv .. | .rspSrv .. | .rspSpv .. | .rspSuv ..
  | .rspShv .. | .rspSfv .. | .rspSwv .. | .rspStv .. | .rspVadd .. | .rspVsub .. | .rspVabs .. | .rspVand ..
  | .rspVnand .. | .rspVor .. | .rspVnor .. | .rspVxor .. | .rspVnxor .. | .rspVlt .. | .rspVeq .. | .rspVne ..
  | .rspVge .. | .rspVmrg .. | .rspVsar .. | .rspVnop .. | .rspVmulf .. | .rspVmulu .. | .rspVrndp .. | .rspVmulq ..
  | .rspVmudl .. | .rspVmudm .. | .rspVmudn .. | .rspVmudh .. | .rspVmacf .. | .rspVmacu .. | .rspVrndn .. | .rspVmacq ..
  | .rspVmadl .. | .rspVmadm .. | .rspVmadn .. | .rspVmadh .. | .rspVaddc .. | .rspVsubc .. | .rspVcl .. | .rspVch ..
  | .rspVcr .. | .rspVrcp .. | .rspVrcpl .. | .rspVrcph .. | .rspVmov .. | .rspVrsq .. | .rspVrsql .. | .rspVrsqh .. => .vectorUnit
  | .rdpNop .. | .rdpTriangle .. | .rdpTriangleZ .. | .rdpTriangleTex .. | .rdpTriangleTexZ .. | .rdpTriangleShade .. | .rdpTriangleShadeZ .. | .rdpTriangleShadeTex ..
  | .rdpTriangleShadeTexZ .. | .rdpTextureRectangle .. | .rdpTextureRectangleFlip .. | .rdpSyncLoad .. | .rdpSyncPipe .. | .rdpSyncTile .. | .rdpSyncFull .. | .rdpSetKeyGb ..
  | .rdpSetKeyR .. | .rdpSetConvert .. | .rdpSetScissor .. | .rdpSetPrimDepth .. | .rdpSetOtherModes .. | .rdpLoadTlut .. | .rdpSetTileSize .. | .rdpLoadBlock ..
  | .rdpLoadTile .. | .rdpSetTile .. | .rdpFillRectangle .. | .rdpSetFillColor .. | .rdpSetFogColor .. | .rdpSetBlendColor .. | .rdpSetPrimColor .. | .rdpSetEnvColor ..
  | .rdpSetCombineMode .. | .rdpSetTextureImage .. | .rdpSetZImage .. | .rdpSetColorImage .. => .displayProcessor

end Sys2Proof
end

