-- ==== Sys2Proof/Decode.lean ====
section
/-! DEFINITION. The decoders of the three decode spaces and the encoder.

The CPU's decoder is the two-level table of spec/30_encoding.md R246 to R251 behind the coprocessor checks of R265;
the VectorUnit's is the key table of spec/46_vector_unit.md R634 with the vector functs of spec/47_vector_ops.md R720;
the DisplayProcessor's keys off the top byte of the first word (spec/48_rasterizer.md R1002, R1004). Each is total on
every word and rejects by name. Must-be-zero fields are not looked at (spec/30_encoding.md R243, spec/46 R635).

Why some definitions say noncomputable: Lean's compiled code has at most 245 object tags per type and `Instr` has a
constructor for each of the table's 363 rows. The mark only says that no machine code is made for a definition that
builds one of the late constructors; the kernel evaluates it like any other. Running the machine does not need them
(Sys2Proof/Machine/Direct.lean). -/

namespace Sys2Proof

/-! ## Fields (spec/30_encoding.md R241; spec/46_vector_unit.md R694; spec/47_vector_ops.md R720) -/

/-- `op`, the primary opcode: bits 31:26. -/
def fOp (w : Word) : BitVec 6 := w.extractLsb' 26 6
/-- `rs`, called `base` in loads and stores and `fmt` in coprocessor-1 arithmetic: bits 25:21. -/
def fRs (w : Word) : Reg := w.extractLsb' 21 5
/-- `rt`, called `ft` in coprocessor 1 and `vt` in the VectorUnit: bits 20:16. -/
def fRt (w : Word) : Reg := w.extractLsb' 16 5
/-- `rd`, called `fs` in coprocessor 1, `vs` or the transfer opcode in the VectorUnit: bits 15:11. -/
def fRd (w : Word) : Reg := w.extractLsb' 11 5
/-- `sa`, called `fd` in coprocessor 1 and `vd` in the VectorUnit: bits 10:6. -/
def fSa (w : Word) : BitVec 5 := w.extractLsb' 6 5
/-- `funct`: bits 5:0. -/
def fFunct (w : Word) : BitVec 6 := w.extractLsb' 0 6
/-- `imm`, called `offset` in loads and stores: bits 15:0. -/
def fImm (w : Word) : BitVec 16 := w.extractLsb' 0 16
/-- `target` of J and JAL: bits 25:0. -/
def fTarget (w : Word) : BitVec 26 := w.extractLsb' 0 26
/-- `code` of SYSCALL and BREAK: bits 25:6. -/
def fCode20 (w : Word) : BitVec 20 := w.extractLsb' 6 20
/-- `code` of the register trap instructions: bits 15:6. -/
def fCode10 (w : Word) : BitVec 10 := w.extractLsb' 6 10
/-- `nd` and `tf` of the coprocessor-1 branches: bits 17:16. -/
def fNdTf (w : Word) : BitVec 2 := w.extractLsb' 16 2
/-- The CO bit of a coprocessor-0 word and the vector-computational bit of a VectorUnit COP2 word: bit 25. -/
def fCo (w : Word) : Bool := w.getLsbD 25
/-- The element of a vector transfer or of MFC2 and MTC2: bits 10:7. -/
def fElem (w : Word) : BitVec 4 := w.extractLsb' 7 4
/-- The signed offset of a vector transfer: bits 6:0. -/
def fOffset7 (w : Word) : BitVec 7 := w.extractLsb' 0 7
/-- The element of a vector computational instruction: bits 24:21. -/
def fVElem (w : Word) : BitVec 4 := w.extractLsb' 21 4

/-! ## The CPU's tables -/

/-- The SPECIAL table, indexed by `funct` (R247); `none` is a reserved entry. -/
def cpuSpecial (w : Word) : Option Instr :=
  match fFunct w with
  | 0#6 => some (.sll (fRd w) (fRt w) (fSa w))
  | 2#6 => some (.srl (fRd w) (fRt w) (fSa w))
  | 3#6 => some (.sra (fRd w) (fRt w) (fSa w))
  | 4#6 => some (.sllv (fRd w) (fRt w) (fRs w))
  | 6#6 => some (.srlv (fRd w) (fRt w) (fRs w))
  | 7#6 => some (.srav (fRd w) (fRt w) (fRs w))
  | 8#6 => some (.jr (fRs w))
  | 9#6 => some (.jalr (fRd w) (fRs w))
  | 12#6 => some (.syscall (fCode20 w))
  | 13#6 => some (.brk (fCode20 w))
  | 15#6 => some (.sync)
  | 16#6 => some (.mfhi (fRd w))
  | 17#6 => some (.mthi (fRs w))
  | 18#6 => some (.mflo (fRd w))
  | 19#6 => some (.mtlo (fRs w))
  | 20#6 => some (.dsllv (fRd w) (fRt w) (fRs w))
  | 22#6 => some (.dsrlv (fRd w) (fRt w) (fRs w))
  | 23#6 => some (.dsrav (fRd w) (fRt w) (fRs w))
  | 24#6 => some (.mult (fRs w) (fRt w))
  | 25#6 => some (.multu (fRs w) (fRt w))
  | 26#6 => some (.div (fRs w) (fRt w))
  | 27#6 => some (.divu (fRs w) (fRt w))
  | 28#6 => some (.dmult (fRs w) (fRt w))
  | 29#6 => some (.dmultu (fRs w) (fRt w))
  | 30#6 => some (.ddiv (fRs w) (fRt w))
  | 31#6 => some (.ddivu (fRs w) (fRt w))
  | 32#6 => some (.add (fRd w) (fRs w) (fRt w))
  | 33#6 => some (.addu (fRd w) (fRs w) (fRt w))
  | 34#6 => some (.sub (fRd w) (fRs w) (fRt w))
  | 35#6 => some (.subu (fRd w) (fRs w) (fRt w))
  | 36#6 => some (.and (fRd w) (fRs w) (fRt w))
  | 37#6 => some (.or (fRd w) (fRs w) (fRt w))
  | 38#6 => some (.xor (fRd w) (fRs w) (fRt w))
  | 39#6 => some (.nor (fRd w) (fRs w) (fRt w))
  | 42#6 => some (.slt (fRd w) (fRs w) (fRt w))
  | 43#6 => some (.sltu (fRd w) (fRs w) (fRt w))
  | 44#6 => some (.dadd (fRd w) (fRs w) (fRt w))
  | 45#6 => some (.daddu (fRd w) (fRs w) (fRt w))
  | 46#6 => some (.dsub (fRd w) (fRs w) (fRt w))
  | 47#6 => some (.dsubu (fRd w) (fRs w) (fRt w))
  | 48#6 => some (.tge (fRs w) (fRt w) (fCode10 w))
  | 49#6 => some (.tgeu (fRs w) (fRt w) (fCode10 w))
  | 50#6 => some (.tlt (fRs w) (fRt w) (fCode10 w))
  | 51#6 => some (.tltu (fRs w) (fRt w) (fCode10 w))
  | 52#6 => some (.teq (fRs w) (fRt w) (fCode10 w))
  | 54#6 => some (.tne (fRs w) (fRt w) (fCode10 w))
  | 56#6 => some (.dsll (fRd w) (fRt w) (fSa w))
  | 58#6 => some (.dsrl (fRd w) (fRt w) (fSa w))
  | 59#6 => some (.dsra (fRd w) (fRt w) (fSa w))
  | 60#6 => some (.dsll32 (fRd w) (fRt w) (fSa w))
  | 62#6 => some (.dsrl32 (fRd w) (fRt w) (fSa w))
  | 63#6 => some (.dsra32 (fRd w) (fRt w) (fSa w))
  | _ => none

/-- The REGIMM table, indexed by `rt` (R248). -/
def cpuRegimm (w : Word) : Option Instr :=
  match fRt w with
  | 0#5 => some (.bltz (fRs w) (fImm w))
  | 1#5 => some (.bgez (fRs w) (fImm w))
  | 2#5 => some (.bltzl (fRs w) (fImm w))
  | 3#5 => some (.bgezl (fRs w) (fImm w))
  | 8#5 => some (.tgei (fRs w) (fImm w))
  | 9#5 => some (.tgeiu (fRs w) (fImm w))
  | 10#5 => some (.tlti (fRs w) (fImm w))
  | 11#5 => some (.tltiu (fRs w) (fImm w))
  | 12#5 => some (.teqi (fRs w) (fImm w))
  | 14#5 => some (.tnei (fRs w) (fImm w))
  | 16#5 => some (.bltzal (fRs w) (fImm w))
  | 17#5 => some (.bgezal (fRs w) (fImm w))
  | 18#5 => some (.bltzall (fRs w) (fImm w))
  | 19#5 => some (.bgezall (fRs w) (fImm w))
  | _ => none

/-- The coprocessor-0 operations, indexed by `funct` (R249, CO bit 1). -/
def cpuCo (w : Word) : Option Instr :=
  match fFunct w with
  | 1#6 => some .tlbr
  | 2#6 => some .tlbwi
  | 6#6 => some .tlbwr
  | 8#6 => some .tlbp
  | 24#6 => some .eret
  | _ => none

/-- The coprocessor-0 moves, indexed by `rs` (R249, CO bit 0). -/
def cpuCop0Move (w : Word) : Option Instr :=
  match fRs w with
  | 0#5 => some (.mfc0 (fRt w) (fRd w))
  | 1#5 => some (.dmfc0 (fRt w) (fRd w))
  | 4#5 => some (.mtc0 (fRt w) (fRd w))
  | 5#5 => some (.dmtc0 (fRt w) (fRd w))
  | _ => none

/-- The coprocessor-1 branches, indexed by `nd` and `tf` (R250). -/
def cpuBc1 (w : Word) : Option Instr :=
  match fNdTf w with
  | 0#2 => some (.bc1f (fImm w))
  | 1#2 => some (.bc1t (fImm w))
  | 2#2 => some (.bc1fl (fImm w))
  | 3#2 => some (.bc1tl (fImm w))
  | _ => none

/-- The coprocessor-1 arithmetic table in format S (R251). -/
def cpuFmtS (w : Word) : Option Instr :=
  match fFunct w with
  | 0#6 => some (.addS (fSa w) (fRd w) (fRt w))
  | 1#6 => some (.subS (fSa w) (fRd w) (fRt w))
  | 2#6 => some (.mulS (fSa w) (fRd w) (fRt w))
  | 3#6 => some (.divS (fSa w) (fRd w) (fRt w))
  | 4#6 => some (.sqrtS (fSa w) (fRd w))
  | 5#6 => some (.absS (fSa w) (fRd w))
  | 6#6 => some (.movS (fSa w) (fRd w))
  | 7#6 => some (.negS (fSa w) (fRd w))
  | 8#6 => some (.roundLS (fSa w) (fRd w))
  | 9#6 => some (.truncLS (fSa w) (fRd w))
  | 10#6 => some (.ceilLS (fSa w) (fRd w))
  | 11#6 => some (.floorLS (fSa w) (fRd w))
  | 12#6 => some (.roundWS (fSa w) (fRd w))
  | 13#6 => some (.truncWS (fSa w) (fRd w))
  | 14#6 => some (.ceilWS (fSa w) (fRd w))
  | 15#6 => some (.floorWS (fSa w) (fRd w))
  | 33#6 => some (.cvtDS (fSa w) (fRd w))
  | 36#6 => some (.cvtWS (fSa w) (fRd w))
  | 37#6 => some (.cvtLS (fSa w) (fRd w))
  | 48#6 => some (.cFS (fRd w) (fRt w))
  | 49#6 => some (.cUnS (fRd w) (fRt w))
  | 50#6 => some (.cEqS (fRd w) (fRt w))
  | 51#6 => some (.cUeqS (fRd w) (fRt w))
  | 52#6 => some (.cOltS (fRd w) (fRt w))
  | 53#6 => some (.cUltS (fRd w) (fRt w))
  | 54#6 => some (.cOleS (fRd w) (fRt w))
  | 55#6 => some (.cUleS (fRd w) (fRt w))
  | 56#6 => some (.cSfS (fRd w) (fRt w))
  | 57#6 => some (.cNgleS (fRd w) (fRt w))
  | 58#6 => some (.cSeqS (fRd w) (fRt w))
  | 59#6 => some (.cNglS (fRd w) (fRt w))
  | 60#6 => some (.cLtS (fRd w) (fRt w))
  | 61#6 => some (.cNgeS (fRd w) (fRt w))
  | 62#6 => some (.cLeS (fRd w) (fRt w))
  | 63#6 => some (.cNgtS (fRd w) (fRt w))
  | _ => none

/-- The coprocessor-1 arithmetic table in format D (R251). -/
def cpuFmtD (w : Word) : Option Instr :=
  match fFunct w with
  | 0#6 => some (.addD (fSa w) (fRd w) (fRt w))
  | 1#6 => some (.subD (fSa w) (fRd w) (fRt w))
  | 2#6 => some (.mulD (fSa w) (fRd w) (fRt w))
  | 3#6 => some (.divD (fSa w) (fRd w) (fRt w))
  | 4#6 => some (.sqrtD (fSa w) (fRd w))
  | 5#6 => some (.absD (fSa w) (fRd w))
  | 6#6 => some (.movD (fSa w) (fRd w))
  | 7#6 => some (.negD (fSa w) (fRd w))
  | 8#6 => some (.roundLD (fSa w) (fRd w))
  | 9#6 => some (.truncLD (fSa w) (fRd w))
  | 10#6 => some (.ceilLD (fSa w) (fRd w))
  | 11#6 => some (.floorLD (fSa w) (fRd w))
  | 12#6 => some (.roundWD (fSa w) (fRd w))
  | 13#6 => some (.truncWD (fSa w) (fRd w))
  | 14#6 => some (.ceilWD (fSa w) (fRd w))
  | 15#6 => some (.floorWD (fSa w) (fRd w))
  | 32#6 => some (.cvtSD (fSa w) (fRd w))
  | 36#6 => some (.cvtWD (fSa w) (fRd w))
  | 37#6 => some (.cvtLD (fSa w) (fRd w))
  | 48#6 => some (.cFD (fRd w) (fRt w))
  | 49#6 => some (.cUnD (fRd w) (fRt w))
  | 50#6 => some (.cEqD (fRd w) (fRt w))
  | 51#6 => some (.cUeqD (fRd w) (fRt w))
  | 52#6 => some (.cOltD (fRd w) (fRt w))
  | 53#6 => some (.cUltD (fRd w) (fRt w))
  | 54#6 => some (.cOleD (fRd w) (fRt w))
  | 55#6 => some (.cUleD (fRd w) (fRt w))
  | 56#6 => some (.cSfD (fRd w) (fRt w))
  | 57#6 => some (.cNgleD (fRd w) (fRt w))
  | 58#6 => some (.cSeqD (fRd w) (fRt w))
  | 59#6 => some (.cNglD (fRd w) (fRt w))
  | 60#6 => some (.cLtD (fRd w) (fRt w))
  | 61#6 => some (.cNgeD (fRd w) (fRt w))
  | 62#6 => some (.cLeD (fRd w) (fRt w))
  | 63#6 => some (.cNgtD (fRd w) (fRt w))
  | _ => none

/-- The coprocessor-1 arithmetic table in format W: conversions only (R251). -/
def cpuFmtW (w : Word) : Option Instr :=
  match fFunct w with
  | 32#6 => some (.cvtSW (fSa w) (fRd w))
  | 33#6 => some (.cvtDW (fSa w) (fRd w))
  | _ => none

/-- The coprocessor-1 arithmetic table in format L: conversions only (R251). -/
def cpuFmtL (w : Word) : Option Instr :=
  match fFunct w with
  | 32#6 => some (.cvtSL (fSa w) (fRd w))
  | 33#6 => some (.cvtDL (fSa w) (fRd w))
  | _ => none

/-- The coprocessor-1 table, indexed by `rs` (R250). -/
def cpuCop1 (w : Word) : Option Instr :=
  match fRs w with
  | 0#5 => some (.mfc1 (fRt w) (fRd w))
  | 1#5 => some (.dmfc1 (fRt w) (fRd w))
  | 2#5 => some (.cfc1 (fRt w) (fRd w))
  | 4#5 => some (.mtc1 (fRt w) (fRd w))
  | 5#5 => some (.dmtc1 (fRt w) (fRd w))
  | 6#5 => some (.ctc1 (fRt w) (fRd w))
  | 8#5 => cpuBc1 w
  | 16#5 => cpuFmtS w
  | 17#5 => cpuFmtD w
  | 20#5 => cpuFmtW w
  | 21#5 => cpuFmtL w
  | _ => none

/-- The primary table, indexed by `op` (R246), with the secondary tables behind it; `none` is a reserved entry or
one of the coprocessor-2 and coprocessor-3 opcodes, which name no instruction of this CPU (R262). -/
def cpuTable (w : Word) : Option Instr :=
  match fOp w with
  | 0#6 => cpuSpecial w
  | 1#6 => cpuRegimm w
  | 2#6 => some (.j (fTarget w))
  | 3#6 => some (.jal (fTarget w))
  | 4#6 => some (.beq (fRs w) (fRt w) (fImm w))
  | 5#6 => some (.bne (fRs w) (fRt w) (fImm w))
  | 6#6 => some (.blez (fRs w) (fImm w))
  | 7#6 => some (.bgtz (fRs w) (fImm w))
  | 8#6 => some (.addi (fRt w) (fRs w) (fImm w))
  | 9#6 => some (.addiu (fRt w) (fRs w) (fImm w))
  | 10#6 => some (.slti (fRt w) (fRs w) (fImm w))
  | 11#6 => some (.sltiu (fRt w) (fRs w) (fImm w))
  | 12#6 => some (.andi (fRt w) (fRs w) (fImm w))
  | 13#6 => some (.ori (fRt w) (fRs w) (fImm w))
  | 14#6 => some (.xori (fRt w) (fRs w) (fImm w))
  | 15#6 => some (.lui (fRt w) (fImm w))
  | 16#6 => if fCo w then cpuCo w else cpuCop0Move w
  | 17#6 => cpuCop1 w
  | 20#6 => some (.beql (fRs w) (fRt w) (fImm w))
  | 21#6 => some (.bnel (fRs w) (fRt w) (fImm w))
  | 22#6 => some (.blezl (fRs w) (fImm w))
  | 23#6 => some (.bgtzl (fRs w) (fImm w))
  | 24#6 => some (.daddi (fRt w) (fRs w) (fImm w))
  | 25#6 => some (.daddiu (fRt w) (fRs w) (fImm w))
  | 26#6 => some (.ldl (fRt w) (fImm w) (fRs w))
  | 27#6 => some (.ldr (fRt w) (fImm w) (fRs w))
  | 32#6 => some (.lb (fRt w) (fImm w) (fRs w))
  | 33#6 => some (.lh (fRt w) (fImm w) (fRs w))
  | 34#6 => some (.lwl (fRt w) (fImm w) (fRs w))
  | 35#6 => some (.lw (fRt w) (fImm w) (fRs w))
  | 36#6 => some (.lbu (fRt w) (fImm w) (fRs w))
  | 37#6 => some (.lhu (fRt w) (fImm w) (fRs w))
  | 38#6 => some (.lwr (fRt w) (fImm w) (fRs w))
  | 39#6 => some (.lwu (fRt w) (fImm w) (fRs w))
  | 40#6 => some (.sb (fRt w) (fImm w) (fRs w))
  | 41#6 => some (.sh (fRt w) (fImm w) (fRs w))
  | 42#6 => some (.swl (fRt w) (fImm w) (fRs w))
  | 43#6 => some (.sw (fRt w) (fImm w) (fRs w))
  | 44#6 => some (.sdl (fRt w) (fImm w) (fRs w))
  | 45#6 => some (.sdr (fRt w) (fImm w) (fRs w))
  | 46#6 => some (.swr (fRt w) (fImm w) (fRs w))
  | 47#6 => some (.cache (fRt w) (fImm w) (fRs w))
  | 48#6 => some (.ll (fRt w) (fImm w) (fRs w))
  | 49#6 => some (.lwc1 (fRt w) (fImm w) (fRs w))
  | 52#6 => some (.lld (fRt w) (fImm w) (fRs w))
  | 53#6 => some (.ldc1 (fRt w) (fImm w) (fRs w))
  | 55#6 => some (.ld (fRt w) (fImm w) (fRs w))
  | 56#6 => some (.sc (fRt w) (fImm w) (fRs w))
  | 57#6 => some (.swc1 (fRt w) (fImm w) (fRs w))
  | 60#6 => some (.scd (fRt w) (fImm w) (fRs w))
  | 61#6 => some (.sdc1 (fRt w) (fImm w) (fRs w))
  | 63#6 => some (.sd (fRt w) (fImm w) (fRs w))
  | _ => none

/-- What a decoder answers for a word that is no instruction, by name. -/
inductive Rejected where
  /-- The CPU's reserved entries (R260, R261) and its coprocessor-2 and -3 words with the coprocessor enabled (R262). -/
  | reserved
  /-- A word of CPU coprocessor `z` while Status.CUz is 0 (R262, R263). -/
  | coprocessorUnusable (z : BitVec 2)
  /-- A VectorUnit word that the table of spec/46_vector_unit.md R634 does not list (R640). -/
  | vectorUnitUnlisted
  /-- A VectorUnit LWC2 or SWC2 word with transfer opcode 12 to 31 (spec/46_vector_unit.md R719). -/
  | vectorTransferReserved
  /-- A vector computational word with a reserved funct (spec/47_vector_ops.md R769). -/
  | vectorOpReserved
  /-- A DisplayProcessor command whose top byte is not assigned (spec/48_rasterizer.md R1005). -/
  | commandUnknown (op : BitVec 8)
  /-- No word at all, or fewer words than the command's length (spec/48_rasterizer.md R1003). -/
  | commandTruncated
  deriving DecidableEq, Repr

/-- `decode(w)` of R265, given Status.CU1, CU2 and CU3: a coprocessor check comes before the table look-up (R263). -/
def decodeCpu (cu1 cu2 cu3 : Bool) (w : Word) : Except Rejected Instr :=
  match fOp w with
  | 17#6 | 49#6 | 53#6 | 57#6 | 61#6 =>
    if cu1 then (cpuTable w).elim (.error .reserved) .ok else .error (.coprocessorUnusable 1)
  | 18#6 | 50#6 | 54#6 | 58#6 | 62#6 => .error (if cu2 then .reserved else .coprocessorUnusable 2)
  | 19#6 => .error (if cu3 then .reserved else .coprocessorUnusable 3)
  | _ => (cpuTable w).elim (.error .reserved) .ok

/-! ## The VectorUnit's tables (spec/46_vector_unit.md R634) -/

/-- The SPECIAL keys, indexed by `funct`. -/
def rspSpecial (w : Word) : Except Rejected Instr :=
  match fFunct w with
  | 0#6 => .ok (.rspSll (fRd w) (fRt w) (fSa w))
  | 2#6 => .ok (.rspSrl (fRd w) (fRt w) (fSa w))
  | 3#6 => .ok (.rspSra (fRd w) (fRt w) (fSa w))
  | 4#6 => .ok (.rspSllv (fRd w) (fRt w) (fRs w))
  | 6#6 => .ok (.rspSrlv (fRd w) (fRt w) (fRs w))
  | 7#6 => .ok (.rspSrav (fRd w) (fRt w) (fRs w))
  | 8#6 => .ok (.rspJr (fRs w))
  | 9#6 => .ok (.rspJalr (fRd w) (fRs w))
  | 13#6 => .ok (.rspBreak (fCode20 w))
  | 32#6 => .ok (.rspAdd (fRd w) (fRs w) (fRt w))
  | 33#6 => .ok (.rspAddu (fRd w) (fRs w) (fRt w))
  | 34#6 => .ok (.rspSub (fRd w) (fRs w) (fRt w))
  | 35#6 => .ok (.rspSubu (fRd w) (fRs w) (fRt w))
  | 36#6 => .ok (.rspAnd (fRd w) (fRs w) (fRt w))
  | 37#6 => .ok (.rspOr (fRd w) (fRs w) (fRt w))
  | 38#6 => .ok (.rspXor (fRd w) (fRs w) (fRt w))
  | 39#6 => .ok (.rspNor (fRd w) (fRs w) (fRt w))
  | 42#6 => .ok (.rspSlt (fRd w) (fRs w) (fRt w))
  | 43#6 => .ok (.rspSltu (fRd w) (fRs w) (fRt w))
  | _ => .error .vectorUnitUnlisted

/-- The REGIMM keys, indexed by `rt`. -/
def rspRegimm (w : Word) : Except Rejected Instr :=
  match fRt w with
  | 0#5 => .ok (.rspBltz (fRs w) (fImm w))
  | 1#5 => .ok (.rspBgez (fRs w) (fImm w))
  | 16#5 => .ok (.rspBltzal (fRs w) (fImm w))
  | 17#5 => .ok (.rspBgezal (fRs w) (fImm w))
  | _ => .error .vectorUnitUnlisted

/-- The COP0 keys, indexed by `rs`. -/
noncomputable def rspCop0 (w : Word) : Except Rejected Instr :=
  match fRs w with
  | 0#5 => .ok (.rspMfc0 (fRt w) (fRd w))
  | 4#5 => .ok (.rspMtc0 (fRt w) (fRd w))
  | _ => .error .vectorUnitUnlisted

/-- The COP2 moves, indexed by `rs`. -/
noncomputable def rspCop2Move (w : Word) : Except Rejected Instr :=
  match fRs w with
  | 0#5 => .ok (.rspMfc2 (fRt w) (fRd w) (fElem w))
  | 2#5 => .ok (.rspCfc2 (fRt w) (fRd w))
  | 4#5 => .ok (.rspMtc2 (fRt w) (fRd w) (fElem w))
  | 6#5 => .ok (.rspCtc2 (fRt w) (fRd w))
  | _ => .error .vectorUnitUnlisted

/-- The vector computational functs (spec/47_vector_ops.md R720); the gaps are the reserved functs of R769. -/
noncomputable def rspVector (w : Word) : Except Rejected Instr :=
  match fFunct w with
  | 0#6 => .ok (.rspVmulf (fSa w) (fRd w) (fRt w) (fVElem w))
  | 1#6 => .ok (.rspVmulu (fSa w) (fRd w) (fRt w) (fVElem w))
  | 2#6 => .ok (.rspVrndp (fSa w) (fRd w) (fRt w) (fVElem w))
  | 3#6 => .ok (.rspVmulq (fSa w) (fRd w) (fRt w) (fVElem w))
  | 4#6 => .ok (.rspVmudl (fSa w) (fRd w) (fRt w) (fVElem w))
  | 5#6 => .ok (.rspVmudm (fSa w) (fRd w) (fRt w) (fVElem w))
  | 6#6 => .ok (.rspVmudn (fSa w) (fRd w) (fRt w) (fVElem w))
  | 7#6 => .ok (.rspVmudh (fSa w) (fRd w) (fRt w) (fVElem w))
  | 8#6 => .ok (.rspVmacf (fSa w) (fRd w) (fRt w) (fVElem w))
  | 9#6 => .ok (.rspVmacu (fSa w) (fRd w) (fRt w) (fVElem w))
  | 10#6 => .ok (.rspVrndn (fSa w) (fRd w) (fRt w) (fVElem w))
  | 11#6 => .ok (.rspVmacq (fSa w) (fRd w) (fRt w) (fVElem w))
  | 12#6 => .ok (.rspVmadl (fSa w) (fRd w) (fRt w) (fVElem w))
  | 13#6 => .ok (.rspVmadm (fSa w) (fRd w) (fRt w) (fVElem w))
  | 14#6 => .ok (.rspVmadn (fSa w) (fRd w) (fRt w) (fVElem w))
  | 15#6 => .ok (.rspVmadh (fSa w) (fRd w) (fRt w) (fVElem w))
  | 16#6 => .ok (.rspVadd (fSa w) (fRd w) (fRt w) (fVElem w))
  | 17#6 => .ok (.rspVsub (fSa w) (fRd w) (fRt w) (fVElem w))
  | 19#6 => .ok (.rspVabs (fSa w) (fRd w) (fRt w) (fVElem w))
  | 20#6 => .ok (.rspVaddc (fSa w) (fRd w) (fRt w) (fVElem w))
  | 21#6 => .ok (.rspVsubc (fSa w) (fRd w) (fRt w) (fVElem w))
  | 29#6 => .ok (.rspVsar (fSa w) (fVElem w))
  | 32#6 => .ok (.rspVlt (fSa w) (fRd w) (fRt w) (fVElem w))
  | 33#6 => .ok (.rspVeq (fSa w) (fRd w) (fRt w) (fVElem w))
  | 34#6 => .ok (.rspVne (fSa w) (fRd w) (fRt w) (fVElem w))
  | 35#6 => .ok (.rspVge (fSa w) (fRd w) (fRt w) (fVElem w))
  | 36#6 => .ok (.rspVcl (fSa w) (fRd w) (fRt w) (fVElem w))
  | 37#6 => .ok (.rspVch (fSa w) (fRd w) (fRt w) (fVElem w))
  | 38#6 => .ok (.rspVcr (fSa w) (fRd w) (fRt w) (fVElem w))
  | 39#6 => .ok (.rspVmrg (fSa w) (fRd w) (fRt w) (fVElem w))
  | 40#6 => .ok (.rspVand (fSa w) (fRd w) (fRt w) (fVElem w))
  | 41#6 => .ok (.rspVnand (fSa w) (fRd w) (fRt w) (fVElem w))
  | 42#6 => .ok (.rspVor (fSa w) (fRd w) (fRt w) (fVElem w))
  | 43#6 => .ok (.rspVnor (fSa w) (fRd w) (fRt w) (fVElem w))
  | 44#6 => .ok (.rspVxor (fSa w) (fRd w) (fRt w) (fVElem w))
  | 45#6 => .ok (.rspVnxor (fSa w) (fRd w) (fRt w) (fVElem w))
  | 48#6 => .ok (.rspVrcp (fSa w) (fRd w) (fRt w) (fVElem w))
  | 49#6 => .ok (.rspVrcpl (fSa w) (fRd w) (fRt w) (fVElem w))
  | 50#6 => .ok (.rspVrcph (fSa w) (fRd w) (fRt w) (fVElem w))
  | 51#6 => .ok (.rspVmov (fSa w) (fRd w) (fRt w) (fVElem w))
  | 52#6 => .ok (.rspVrsq (fSa w) (fRd w) (fRt w) (fVElem w))
  | 53#6 => .ok (.rspVrsql (fSa w) (fRd w) (fRt w) (fVElem w))
  | 54#6 => .ok (.rspVrsqh (fSa w) (fRd w) (fRt w) (fVElem w))
  | 55#6 => .ok .rspVnop
  | _ => .error .vectorOpReserved

/-- The vector loads, indexed by the transfer opcode; 12 to 31 are reserved (R719). -/
noncomputable def rspLwc2 (w : Word) : Except Rejected Instr :=
  match fRd w with
  | 0#5 => .ok (.rspLbv (fRt w) (fElem w) (fOffset7 w) (fRs w))
  | 1#5 => .ok (.rspLsv (fRt w) (fElem w) (fOffset7 w) (fRs w))
  | 2#5 => .ok (.rspLlv (fRt w) (fElem w) (fOffset7 w) (fRs w))
  | 3#5 => .ok (.rspLdv (fRt w) (fElem w) (fOffset7 w) (fRs w))
  | 4#5 => .ok (.rspLqv (fRt w) (fElem w) (fOffset7 w) (fRs w))
  | 5#5 => .ok (.rspLrv (fRt w) (fElem w) (fOffset7 w) (fRs w))
  | 6#5 => .ok (.rspLpv (fRt w) (fElem w) (fOffset7 w) (fRs w))
  | 7#5 => .ok (.rspLuv (fRt w) (fElem w) (fOffset7 w) (fRs w))
  | 8#5 => .ok (.rspLhv (fRt w) (fElem w) (fOffset7 w) (fRs w))
  | 9#5 => .ok (.rspLfv (fRt w) (fElem w) (fOffset7 w) (fRs w))
  | 10#5 => .ok (.rspLwv (fRt w) (fElem w) (fOffset7 w) (fRs w))
  | 11#5 => .ok (.rspLtv (fRt w) (fElem w) (fOffset7 w) (fRs w))
  | _ => .error .vectorTransferReserved

/-- The vector stores, indexed by the transfer opcode; 12 to 31 are reserved (R719). -/
noncomputable def rspSwc2 (w : Word) : Except Rejected Instr :=
  match fRd w with
  | 0#5 => .ok (.rspSbv (fRt w) (fElem w) (fOffset7 w) (fRs w))
  | 1#5 => .ok (.rspSsv (fRt w) (fElem w) (fOffset7 w) (fRs w))
  | 2#5 => .ok (.rspSlv (fRt w) (fElem w) (fOffset7 w) (fRs w))
  | 3#5 => .ok (.rspSdv (fRt w) (fElem w) (fOffset7 w) (fRs w))
  | 4#5 => .ok (.rspSqv (fRt w) (fElem w) (fOffset7 w) (fRs w))
  | 5#5 => .ok (.rspSrv (fRt w) (fElem w) (fOffset7 w) (fRs w))
  | 6#5 => .ok (.rspSpv (fRt w) (fElem w) (fOffset7 w) (fRs w))
  | 7#5 => .ok (.rspSuv (fRt w) (fElem w) (fOffset7 w) (fRs w))
  | 8#5 => .ok (.rspShv (fRt w) (fElem w) (fOffset7 w) (fRs w))
  | 9#5 => .ok (.rspSfv (fRt w) (fElem w) (fOffset7 w) (fRs w))
  | 10#5 => .ok (.rspSwv (fRt w) (fElem w) (fOffset7 w) (fRs w))
  | 11#5 => .ok (.rspStv (fRt w) (fElem w) (fOffset7 w) (fRs w))
  | _ => .error .vectorTransferReserved

/-- `rsp_decode(w)`: the primary keys of R634, indexed by `op`. -/
noncomputable def decodeRsp (w : Word) : Except Rejected Instr :=
  match fOp w with
  | 0#6 => rspSpecial w
  | 1#6 => rspRegimm w
  | 2#6 => .ok (.rspJ (fTarget w))
  | 3#6 => .ok (.rspJal (fTarget w))
  | 4#6 => .ok (.rspBeq (fRs w) (fRt w) (fImm w))
  | 5#6 => .ok (.rspBne (fRs w) (fRt w) (fImm w))
  | 6#6 => .ok (.rspBlez (fRs w) (fImm w))
  | 7#6 => .ok (.rspBgtz (fRs w) (fImm w))
  | 8#6 => .ok (.rspAddi (fRt w) (fRs w) (fImm w))
  | 9#6 => .ok (.rspAddiu (fRt w) (fRs w) (fImm w))
  | 10#6 => .ok (.rspSlti (fRt w) (fRs w) (fImm w))
  | 11#6 => .ok (.rspSltiu (fRt w) (fRs w) (fImm w))
  | 12#6 => .ok (.rspAndi (fRt w) (fRs w) (fImm w))
  | 13#6 => .ok (.rspOri (fRt w) (fRs w) (fImm w))
  | 14#6 => .ok (.rspXori (fRt w) (fRs w) (fImm w))
  | 15#6 => .ok (.rspLui (fRt w) (fImm w))
  | 16#6 => rspCop0 w
  | 18#6 => if fCo w then rspVector w else rspCop2Move w
  | 32#6 => .ok (.rspLb (fRt w) (fImm w) (fRs w))
  | 33#6 => .ok (.rspLh (fRt w) (fImm w) (fRs w))
  | 35#6 => .ok (.rspLw (fRt w) (fImm w) (fRs w))
  | 36#6 => .ok (.rspLbu (fRt w) (fImm w) (fRs w))
  | 37#6 => .ok (.rspLhu (fRt w) (fImm w) (fRs w))
  | 39#6 => .ok (.rspLwu (fRt w) (fImm w) (fRs w))
  | 40#6 => .ok (.rspSb (fRt w) (fImm w) (fRs w))
  | 41#6 => .ok (.rspSh (fRt w) (fImm w) (fRs w))
  | 43#6 => .ok (.rspSw (fRt w) (fImm w) (fRs w))
  | 50#6 => rspLwc2 w
  | 58#6 => rspSwc2 w
  | _ => .error .vectorUnitUnlisted

/-! ## The DisplayProcessor's commands (spec/48_rasterizer.md R1002, R1004) -/

/-- The top byte of a command's first word (R1004). -/
def commandOp (w : Dword) : BitVec 8 := w.extractLsb' 56 8

/-- The number of 64-bit words of a command, by its top byte (R1002); an unknown byte's length is 1. -/
def commandLength (op : BitVec 8) : Nat :=
  match op with
  | 0x08#8 => 4
  | 0x09#8 => 6
  | 0x0A#8 => 12
  | 0x0B#8 => 14
  | 0x0C#8 => 12
  | 0x0D#8 => 14
  | 0x0E#8 => 20
  | 0x0F#8 => 22
  | 0x24#8 => 2
  | 0x25#8 => 2
  | _ => 1

/-- The word's bits below its top byte. -/
def commandPayload (w : Dword) : BitVec 56 := w.extractLsb' 0 56

/-- The command that a first word and the words after it hold (R1004). -/
noncomputable def rdpTable (w : Dword) (rest : List Dword) : Except Rejected Instr :=
  match commandOp w with
  | 0x00#8 => .ok .rdpNop
  | 0x08#8 => .ok (.rdpTriangle (commandPayload w) rest)
  | 0x09#8 => .ok (.rdpTriangleZ (commandPayload w) rest)
  | 0x0A#8 => .ok (.rdpTriangleTex (commandPayload w) rest)
  | 0x0B#8 => .ok (.rdpTriangleTexZ (commandPayload w) rest)
  | 0x0C#8 => .ok (.rdpTriangleShade (commandPayload w) rest)
  | 0x0D#8 => .ok (.rdpTriangleShadeZ (commandPayload w) rest)
  | 0x0E#8 => .ok (.rdpTriangleShadeTex (commandPayload w) rest)
  | 0x0F#8 => .ok (.rdpTriangleShadeTexZ (commandPayload w) rest)
  | 0x24#8 => .ok (.rdpTextureRectangle (commandPayload w) rest)
  | 0x25#8 => .ok (.rdpTextureRectangleFlip (commandPayload w) rest)
  | 0x26#8 => .ok .rdpSyncLoad
  | 0x27#8 => .ok .rdpSyncPipe
  | 0x28#8 => .ok .rdpSyncTile
  | 0x29#8 => .ok .rdpSyncFull
  | 0x2A#8 => .ok (.rdpSetKeyGb (commandPayload w))
  | 0x2B#8 => .ok (.rdpSetKeyR (commandPayload w))
  | 0x2C#8 => .ok (.rdpSetConvert (commandPayload w))
  | 0x2D#8 => .ok (.rdpSetScissor (commandPayload w))
  | 0x2E#8 => .ok (.rdpSetPrimDepth (commandPayload w))
  | 0x2F#8 => .ok (.rdpSetOtherModes (commandPayload w))
  | 0x30#8 => .ok (.rdpLoadTlut (commandPayload w))
  | 0x32#8 => .ok (.rdpSetTileSize (commandPayload w))
  | 0x33#8 => .ok (.rdpLoadBlock (commandPayload w))
  | 0x34#8 => .ok (.rdpLoadTile (commandPayload w))
  | 0x35#8 => .ok (.rdpSetTile (commandPayload w))
  | 0x36#8 => .ok (.rdpFillRectangle (w.extractLsb' 44 12) (w.extractLsb' 32 12) (w.extractLsb' 12 12) (w.extractLsb' 0 12))
  | 0x37#8 => .ok (.rdpSetFillColor (w.extractLsb' 0 32))
  | 0x38#8 => .ok (.rdpSetFogColor (commandPayload w))
  | 0x39#8 => .ok (.rdpSetBlendColor (commandPayload w))
  | 0x3A#8 => .ok (.rdpSetPrimColor (commandPayload w))
  | 0x3B#8 => .ok (.rdpSetEnvColor (commandPayload w))
  | 0x3C#8 => .ok (.rdpSetCombineMode (commandPayload w))
  | 0x3D#8 => .ok (.rdpSetTextureImage (commandPayload w))
  | 0x3E#8 => .ok (.rdpSetZImage (commandPayload w))
  | 0x3F#8 => .ok (.rdpSetColorImage (commandPayload w))
  | op => .error (.commandUnknown op)

/-- The command that a list of words holds: as many words as its top byte asks for (R1002), no fewer and no more. -/
noncomputable def decodeRdp : List Dword → Except Rejected Instr
  | [] => .error .commandTruncated
  | w :: rest =>
    if rest.length + 1 = commandLength (commandOp w) then rdpTable w rest else .error .commandTruncated

/-! ## The encoder, from the same formats (spec/30_encoding.md R242; spec/46 R694; spec/47 R720; spec/48 R1004) -/

/-- The words of an instruction, in the decode space it belongs to. -/
inductive Code where
  | cpu (w : Word)
  | vectorUnit (w : Word)
  | displayProcessor (ws : List Dword)
  deriving DecidableEq, Repr

/-- Format R: op, rs, rt, rd, sa, funct. It also serves the formats that only rename these fields. -/
def wordR (op : BitVec 6) (rs rt rd sa : BitVec 5) (funct : BitVec 6) : Word := op ++ rs ++ rt ++ rd ++ sa ++ funct
/-- Format I: op, rs, rt, imm. -/
def wordI (op : BitVec 6) (rs rt : BitVec 5) (imm : BitVec 16) : Word := op ++ rs ++ rt ++ imm
/-- Format J: op, target. -/
def wordJ (op : BitVec 6) (target : BitVec 26) : Word := op ++ target
/-- Format SC: op 0, code, funct. -/
def wordSc (code : BitVec 20) (funct : BitVec 6) : Word := (0#6) ++ code ++ funct
/-- Format TR: op 0, rs, rt, code, funct. -/
def wordTr (rs rt : BitVec 5) (code : BitVec 10) (funct : BitVec 6) : Word := (0#6) ++ rs ++ rt ++ code ++ funct
/-- The coprocessor-2 move format of the VectorUnit: op 18, rs, rt, vs, element, zeros. -/
def wordMove2 (rs rt vs : BitVec 5) (e : BitVec 4) : Word := (18#6) ++ rs ++ rt ++ vs ++ e ++ (0#7)
/-- Format VLS: op, base, vt, transfer opcode, element, offset. -/
def wordVls (op : BitVec 6) (base vt opc : BitVec 5) (e : BitVec 4) (offset : BitVec 7) : Word :=
  op ++ base ++ vt ++ opc ++ e ++ offset
/-- Format VOP: op 18, one, element, vt, vs, vd, funct. -/
def wordVop (e : BitVec 4) (vt vs vd : BitVec 5) (funct : BitVec 6) : Word :=
  (18#6) ++ (1#1) ++ e ++ vt ++ vs ++ vd ++ funct
/-- The first word of a command: its top byte and the rest. -/
def wordCmd (op : BitVec 8) (payload : BitVec 56) : Dword := op ++ payload

/-- The words of an instruction, every ignored field zero. -/
def encode : Instr → Code
  | .add rd rs rt => .cpu (wordR 0 rs rt rd 0 32)
  | .addu rd rs rt => .cpu (wordR 0 rs rt rd 0 33)
  | .sub rd rs rt => .cpu (wordR 0 rs rt rd 0 34)
  | .subu rd rs rt => .cpu (wordR 0 rs rt rd 0 35)
  | .addi rt rs imm => .cpu (wordI 8 rs rt imm)
  | .addiu rt rs imm => .cpu (wordI 9 rs rt imm)
  | .dadd rd rs rt => .cpu (wordR 0 rs rt rd 0 44)
  | .daddu rd rs rt => .cpu (wordR 0 rs rt rd 0 45)
  | .dsub rd rs rt => .cpu (wordR 0 rs rt rd 0 46)
  | .dsubu rd rs rt => .cpu (wordR 0 rs rt rd 0 47)
  | .daddi rt rs imm => .cpu (wordI 24 rs rt imm)
  | .daddiu rt rs imm => .cpu (wordI 25 rs rt imm)
  | .and rd rs rt => .cpu (wordR 0 rs rt rd 0 36)
  | .or rd rs rt => .cpu (wordR 0 rs rt rd 0 37)
  | .xor rd rs rt => .cpu (wordR 0 rs rt rd 0 38)
  | .nor rd rs rt => .cpu (wordR 0 rs rt rd 0 39)
  | .andi rt rs imm => .cpu (wordI 12 rs rt imm)
  | .ori rt rs imm => .cpu (wordI 13 rs rt imm)
  | .xori rt rs imm => .cpu (wordI 14 rs rt imm)
  | .lui rt imm => .cpu (wordI 15 0 rt imm)
  | .slt rd rs rt => .cpu (wordR 0 rs rt rd 0 42)
  | .sltu rd rs rt => .cpu (wordR 0 rs rt rd 0 43)
  | .slti rt rs imm => .cpu (wordI 10 rs rt imm)
  | .sltiu rt rs imm => .cpu (wordI 11 rs rt imm)
  | .sll rd rt sa => .cpu (wordR 0 0 rt rd sa 0)
  | .srl rd rt sa => .cpu (wordR 0 0 rt rd sa 2)
  | .sra rd rt sa => .cpu (wordR 0 0 rt rd sa 3)
  | .sllv rd rt rs => .cpu (wordR 0 rs rt rd 0 4)
  | .srlv rd rt rs => .cpu (wordR 0 rs rt rd 0 6)
  | .srav rd rt rs => .cpu (wordR 0 rs rt rd 0 7)
  | .dsll rd rt sa => .cpu (wordR 0 0 rt rd sa 56)
  | .dsrl rd rt sa => .cpu (wordR 0 0 rt rd sa 58)
  | .dsra rd rt sa => .cpu (wordR 0 0 rt rd sa 59)
  | .dsll32 rd rt sa => .cpu (wordR 0 0 rt rd sa 60)
  | .dsrl32 rd rt sa => .cpu (wordR 0 0 rt rd sa 62)
  | .dsra32 rd rt sa => .cpu (wordR 0 0 rt rd sa 63)
  | .dsllv rd rt rs => .cpu (wordR 0 rs rt rd 0 20)
  | .dsrlv rd rt rs => .cpu (wordR 0 rs rt rd 0 22)
  | .dsrav rd rt rs => .cpu (wordR 0 rs rt rd 0 23)
  | .mult rs rt => .cpu (wordR 0 rs rt 0 0 24)
  | .multu rs rt => .cpu (wordR 0 rs rt 0 0 25)
  | .dmult rs rt => .cpu (wordR 0 rs rt 0 0 28)
  | .dmultu rs rt => .cpu (wordR 0 rs rt 0 0 29)
  | .div rs rt => .cpu (wordR 0 rs rt 0 0 26)
  | .divu rs rt => .cpu (wordR 0 rs rt 0 0 27)
  | .ddiv rs rt => .cpu (wordR 0 rs rt 0 0 30)
  | .ddivu rs rt => .cpu (wordR 0 rs rt 0 0 31)
  | .mfhi rd => .cpu (wordR 0 0 0 rd 0 16)
  | .mflo rd => .cpu (wordR 0 0 0 rd 0 18)
  | .mthi rs => .cpu (wordR 0 rs 0 0 0 17)
  | .mtlo rs => .cpu (wordR 0 rs 0 0 0 19)
  | .beq rs rt imm => .cpu (wordI 4 rs rt imm)
  | .bne rs rt imm => .cpu (wordI 5 rs rt imm)
  | .blez rs imm => .cpu (wordI 6 rs 0 imm)
  | .bgtz rs imm => .cpu (wordI 7 rs 0 imm)
  | .bltz rs imm => .cpu (wordI 1 rs 0 imm)
  | .bgez rs imm => .cpu (wordI 1 rs 1 imm)
  | .bltzal rs imm => .cpu (wordI 1 rs 16 imm)
  | .bgezal rs imm => .cpu (wordI 1 rs 17 imm)
  | .beql rs rt imm => .cpu (wordI 20 rs rt imm)
  | .bnel rs rt imm => .cpu (wordI 21 rs rt imm)
  | .blezl rs imm => .cpu (wordI 22 rs 0 imm)
  | .bgtzl rs imm => .cpu (wordI 23 rs 0 imm)
  | .bltzl rs imm => .cpu (wordI 1 rs 2 imm)
  | .bgezl rs imm => .cpu (wordI 1 rs 3 imm)
  | .bltzall rs imm => .cpu (wordI 1 rs 18 imm)
  | .bgezall rs imm => .cpu (wordI 1 rs 19 imm)
  | .j target => .cpu (wordJ 2 target)
  | .jal target => .cpu (wordJ 3 target)
  | .jr rs => .cpu (wordR 0 rs 0 0 0 8)
  | .jalr rd rs => .cpu (wordR 0 rs 0 rd 0 9)
  | .lb rt offset base => .cpu (wordI 32 base rt offset)
  | .lbu rt offset base => .cpu (wordI 36 base rt offset)
  | .lh rt offset base => .cpu (wordI 33 base rt offset)
  | .lhu rt offset base => .cpu (wordI 37 base rt offset)
  | .lw rt offset base => .cpu (wordI 35 base rt offset)
  | .lwu rt offset base => .cpu (wordI 39 base rt offset)
  | .ld rt offset base => .cpu (wordI 55 base rt offset)
  | .sb rt offset base => .cpu (wordI 40 base rt offset)
  | .sh rt offset base => .cpu (wordI 41 base rt offset)
  | .sw rt offset base => .cpu (wordI 43 base rt offset)
  | .sd rt offset base => .cpu (wordI 63 base rt offset)
  | .lwl rt offset base => .cpu (wordI 34 base rt offset)
  | .lwr rt offset base => .cpu (wordI 38 base rt offset)
  | .ldl rt offset base => .cpu (wordI 26 base rt offset)
  | .ldr rt offset base => .cpu (wordI 27 base rt offset)
  | .swl rt offset base => .cpu (wordI 42 base rt offset)
  | .swr rt offset base => .cpu (wordI 46 base rt offset)
  | .sdl rt offset base => .cpu (wordI 44 base rt offset)
  | .sdr rt offset base => .cpu (wordI 45 base rt offset)
  | .ll rt offset base => .cpu (wordI 48 base rt offset)
  | .lld rt offset base => .cpu (wordI 52 base rt offset)
  | .sc rt offset base => .cpu (wordI 56 base rt offset)
  | .scd rt offset base => .cpu (wordI 60 base rt offset)
  | .syscall code => .cpu (wordSc code 12)
  | .brk code => .cpu (wordSc code 13)
  | .tge rs rt code => .cpu (wordTr rs rt code 48)
  | .tgeu rs rt code => .cpu (wordTr rs rt code 49)
  | .tlt rs rt code => .cpu (wordTr rs rt code 50)
  | .tltu rs rt code => .cpu (wordTr rs rt code 51)
  | .teq rs rt code => .cpu (wordTr rs rt code 52)
  | .tne rs rt code => .cpu (wordTr rs rt code 54)
  | .tgei rs imm => .cpu (wordI 1 rs 8 imm)
  | .tgeiu rs imm => .cpu (wordI 1 rs 9 imm)
  | .tlti rs imm => .cpu (wordI 1 rs 10 imm)
  | .tltiu rs imm => .cpu (wordI 1 rs 11 imm)
  | .teqi rs imm => .cpu (wordI 1 rs 12 imm)
  | .tnei rs imm => .cpu (wordI 1 rs 14 imm)
  | .mfc0 rt rd => .cpu (wordR 16 0 rt rd 0 0)
  | .dmfc0 rt rd => .cpu (wordR 16 1 rt rd 0 0)
  | .mtc0 rt rd => .cpu (wordR 16 4 rt rd 0 0)
  | .dmtc0 rt rd => .cpu (wordR 16 5 rt rd 0 0)
  | .eret => .cpu (wordR 16 16 0 0 0 24)
  | .tlbr => .cpu (wordR 16 16 0 0 0 1)
  | .tlbwi => .cpu (wordR 16 16 0 0 0 2)
  | .tlbwr => .cpu (wordR 16 16 0 0 0 6)
  | .tlbp => .cpu (wordR 16 16 0 0 0 8)
  | .sync => .cpu (wordR 0 0 0 0 0 15)
  | .cache op offset base => .cpu (wordI 47 base op offset)
  | .cfc1 rt fs => .cpu (wordR 17 2 rt fs 0 0)
  | .ctc1 rt fs => .cpu (wordR 17 6 rt fs 0 0)
  | .mfc1 rt fs => .cpu (wordR 17 0 rt fs 0 0)
  | .dmfc1 rt fs => .cpu (wordR 17 1 rt fs 0 0)
  | .mtc1 rt fs => .cpu (wordR 17 4 rt fs 0 0)
  | .dmtc1 rt fs => .cpu (wordR 17 5 rt fs 0 0)
  | .lwc1 ft offset base => .cpu (wordI 49 base ft offset)
  | .ldc1 ft offset base => .cpu (wordI 53 base ft offset)
  | .swc1 ft offset base => .cpu (wordI 57 base ft offset)
  | .sdc1 ft offset base => .cpu (wordI 61 base ft offset)
  | .bc1f imm => .cpu (wordI 17 8 0 imm)
  | .bc1t imm => .cpu (wordI 17 8 1 imm)
  | .bc1fl imm => .cpu (wordI 17 8 2 imm)
  | .bc1tl imm => .cpu (wordI 17 8 3 imm)
  | .addS fd fs ft => .cpu (wordR 17 16 ft fs fd 0)
  | .addD fd fs ft => .cpu (wordR 17 17 ft fs fd 0)
  | .subS fd fs ft => .cpu (wordR 17 16 ft fs fd 1)
  | .subD fd fs ft => .cpu (wordR 17 17 ft fs fd 1)
  | .mulS fd fs ft => .cpu (wordR 17 16 ft fs fd 2)
  | .mulD fd fs ft => .cpu (wordR 17 17 ft fs fd 2)
  | .divS fd fs ft => .cpu (wordR 17 16 ft fs fd 3)
  | .divD fd fs ft => .cpu (wordR 17 17 ft fs fd 3)
  | .sqrtS fd fs => .cpu (wordR 17 16 0 fs fd 4)
  | .sqrtD fd fs => .cpu (wordR 17 17 0 fs fd 4)
  | .absS fd fs => .cpu (wordR 17 16 0 fs fd 5)
  | .absD fd fs => .cpu (wordR 17 17 0 fs fd 5)
  | .movS fd fs => .cpu (wordR 17 16 0 fs fd 6)
  | .movD fd fs => .cpu (wordR 17 17 0 fs fd 6)
  | .negS fd fs => .cpu (wordR 17 16 0 fs fd 7)
  | .negD fd fs => .cpu (wordR 17 17 0 fs fd 7)
  | .roundLS fd fs => .cpu (wordR 17 16 0 fs fd 8)
  | .roundLD fd fs => .cpu (wordR 17 17 0 fs fd 8)
  | .truncLS fd fs => .cpu (wordR 17 16 0 fs fd 9)
  | .truncLD fd fs => .cpu (wordR 17 17 0 fs fd 9)
  | .ceilLS fd fs => .cpu (wordR 17 16 0 fs fd 10)
  | .ceilLD fd fs => .cpu (wordR 17 17 0 fs fd 10)
  | .floorLS fd fs => .cpu (wordR 17 16 0 fs fd 11)
  | .floorLD fd fs => .cpu (wordR 17 17 0 fs fd 11)
  | .roundWS fd fs => .cpu (wordR 17 16 0 fs fd 12)
  | .roundWD fd fs => .cpu (wordR 17 17 0 fs fd 12)
  | .truncWS fd fs => .cpu (wordR 17 16 0 fs fd 13)
  | .truncWD fd fs => .cpu (wordR 17 17 0 fs fd 13)
  | .ceilWS fd fs => .cpu (wordR 17 16 0 fs fd 14)
  | .ceilWD fd fs => .cpu (wordR 17 17 0 fs fd 14)
  | .floorWS fd fs => .cpu (wordR 17 16 0 fs fd 15)
  | .floorWD fd fs => .cpu (wordR 17 17 0 fs fd 15)
  | .cvtSD fd fs => .cpu (wordR 17 17 0 fs fd 32)
  | .cvtSW fd fs => .cpu (wordR 17 20 0 fs fd 32)
  | .cvtSL fd fs => .cpu (wordR 17 21 0 fs fd 32)
  | .cvtDS fd fs => .cpu (wordR 17 16 0 fs fd 33)
  | .cvtDW fd fs => .cpu (wordR 17 20 0 fs fd 33)
  | .cvtDL fd fs => .cpu (wordR 17 21 0 fs fd 33)
  | .cvtWS fd fs => .cpu (wordR 17 16 0 fs fd 36)
  | .cvtWD fd fs => .cpu (wordR 17 17 0 fs fd 36)
  | .cvtLS fd fs => .cpu (wordR 17 16 0 fs fd 37)
  | .cvtLD fd fs => .cpu (wordR 17 17 0 fs fd 37)
  | .cFS fs ft => .cpu (wordR 17 16 ft fs 0 48)
  | .cFD fs ft => .cpu (wordR 17 17 ft fs 0 48)
  | .cUnS fs ft => .cpu (wordR 17 16 ft fs 0 49)
  | .cUnD fs ft => .cpu (wordR 17 17 ft fs 0 49)
  | .cEqS fs ft => .cpu (wordR 17 16 ft fs 0 50)
  | .cEqD fs ft => .cpu (wordR 17 17 ft fs 0 50)
  | .cUeqS fs ft => .cpu (wordR 17 16 ft fs 0 51)
  | .cUeqD fs ft => .cpu (wordR 17 17 ft fs 0 51)
  | .cOltS fs ft => .cpu (wordR 17 16 ft fs 0 52)
  | .cOltD fs ft => .cpu (wordR 17 17 ft fs 0 52)
  | .cUltS fs ft => .cpu (wordR 17 16 ft fs 0 53)
  | .cUltD fs ft => .cpu (wordR 17 17 ft fs 0 53)
  | .cOleS fs ft => .cpu (wordR 17 16 ft fs 0 54)
  | .cOleD fs ft => .cpu (wordR 17 17 ft fs 0 54)
  | .cUleS fs ft => .cpu (wordR 17 16 ft fs 0 55)
  | .cUleD fs ft => .cpu (wordR 17 17 ft fs 0 55)
  | .cSfS fs ft => .cpu (wordR 17 16 ft fs 0 56)
  | .cSfD fs ft => .cpu (wordR 17 17 ft fs 0 56)
  | .cNgleS fs ft => .cpu (wordR 17 16 ft fs 0 57)
  | .cNgleD fs ft => .cpu (wordR 17 17 ft fs 0 57)
  | .cSeqS fs ft => .cpu (wordR 17 16 ft fs 0 58)
  | .cSeqD fs ft => .cpu (wordR 17 17 ft fs 0 58)
  | .cNglS fs ft => .cpu (wordR 17 16 ft fs 0 59)
  | .cNglD fs ft => .cpu (wordR 17 17 ft fs 0 59)
  | .cLtS fs ft => .cpu (wordR 17 16 ft fs 0 60)
  | .cLtD fs ft => .cpu (wordR 17 17 ft fs 0 60)
  | .cNgeS fs ft => .cpu (wordR 17 16 ft fs 0 61)
  | .cNgeD fs ft => .cpu (wordR 17 17 ft fs 0 61)
  | .cLeS fs ft => .cpu (wordR 17 16 ft fs 0 62)
  | .cLeD fs ft => .cpu (wordR 17 17 ft fs 0 62)
  | .cNgtS fs ft => .cpu (wordR 17 16 ft fs 0 63)
  | .cNgtD fs ft => .cpu (wordR 17 17 ft fs 0 63)
  | .rspSll rd rt sa => .vectorUnit (wordR 0 0 rt rd sa 0)
  | .rspSrl rd rt sa => .vectorUnit (wordR 0 0 rt rd sa 2)
  | .rspSra rd rt sa => .vectorUnit (wordR 0 0 rt rd sa 3)
  | .rspSllv rd rt rs => .vectorUnit (wordR 0 rs rt rd 0 4)
  | .rspSrlv rd rt rs => .vectorUnit (wordR 0 rs rt rd 0 6)
  | .rspSrav rd rt rs => .vectorUnit (wordR 0 rs rt rd 0 7)
  | .rspAdd rd rs rt => .vectorUnit (wordR 0 rs rt rd 0 32)
  | .rspAddu rd rs rt => .vectorUnit (wordR 0 rs rt rd 0 33)
  | .rspSub rd rs rt => .vectorUnit (wordR 0 rs rt rd 0 34)
  | .rspSubu rd rs rt => .vectorUnit (wordR 0 rs rt rd 0 35)
  | .rspAnd rd rs rt => .vectorUnit (wordR 0 rs rt rd 0 36)
  | .rspOr rd rs rt => .vectorUnit (wordR 0 rs rt rd 0 37)
  | .rspXor rd rs rt => .vectorUnit (wordR 0 rs rt rd 0 38)
  | .rspNor rd rs rt => .vectorUnit (wordR 0 rs rt rd 0 39)
  | .rspSlt rd rs rt => .vectorUnit (wordR 0 rs rt rd 0 42)
  | .rspSltu rd rs rt => .vectorUnit (wordR 0 rs rt rd 0 43)
  | .rspJr rs => .vectorUnit (wordR 0 rs 0 0 0 8)
  | .rspJalr rd rs => .vectorUnit (wordR 0 rs 0 rd 0 9)
  | .rspBreak code => .vectorUnit (wordSc code 13)
  | .rspAddi rt rs imm => .vectorUnit (wordI 8 rs rt imm)
  | .rspAddiu rt rs imm => .vectorUnit (wordI 9 rs rt imm)
  | .rspSlti rt rs imm => .vectorUnit (wordI 10 rs rt imm)
  | .rspSltiu rt rs imm => .vectorUnit (wordI 11 rs rt imm)
  | .rspAndi rt rs imm => .vectorUnit (wordI 12 rs rt imm)
  | .rspOri rt rs imm => .vectorUnit (wordI 13 rs rt imm)
  | .rspXori rt rs imm => .vectorUnit (wordI 14 rs rt imm)
  | .rspLui rt imm => .vectorUnit (wordI 15 0 rt imm)
  | .rspBeq rs rt imm => .vectorUnit (wordI 4 rs rt imm)
  | .rspBne rs rt imm => .vectorUnit (wordI 5 rs rt imm)
  | .rspBlez rs imm => .vectorUnit (wordI 6 rs 0 imm)
  | .rspBgtz rs imm => .vectorUnit (wordI 7 rs 0 imm)
  | .rspJ target => .vectorUnit (wordJ 2 target)
  | .rspJal target => .vectorUnit (wordJ 3 target)
  | .rspBltz rs imm => .vectorUnit (wordI 1 rs 0 imm)
  | .rspBgez rs imm => .vectorUnit (wordI 1 rs 1 imm)
  | .rspBltzal rs imm => .vectorUnit (wordI 1 rs 16 imm)
  | .rspBgezal rs imm => .vectorUnit (wordI 1 rs 17 imm)
  | .rspLb rt offset base => .vectorUnit (wordI 32 base rt offset)
  | .rspLh rt offset base => .vectorUnit (wordI 33 base rt offset)
  | .rspLw rt offset base => .vectorUnit (wordI 35 base rt offset)
  | .rspLbu rt offset base => .vectorUnit (wordI 36 base rt offset)
  | .rspLhu rt offset base => .vectorUnit (wordI 37 base rt offset)
  | .rspLwu rt offset base => .vectorUnit (wordI 39 base rt offset)
  | .rspSb rt offset base => .vectorUnit (wordI 40 base rt offset)
  | .rspSh rt offset base => .vectorUnit (wordI 41 base rt offset)
  | .rspSw rt offset base => .vectorUnit (wordI 43 base rt offset)
  | .rspMfc0 rt rd => .vectorUnit (wordR 16 0 rt rd 0 0)
  | .rspMtc0 rt rd => .vectorUnit (wordR 16 4 rt rd 0 0)
  | .rspMfc2 rt vs e => .vectorUnit (wordMove2 0 rt vs e)
  | .rspMtc2 rt vd e => .vectorUnit (wordMove2 4 rt vd e)
  | .rspCfc2 rt rd => .vectorUnit (wordR 18 2 rt rd 0 0)
  | .rspCtc2 rt rd => .vectorUnit (wordR 18 6 rt rd 0 0)
  | .rspLbv vt e offset base => .vectorUnit (wordVls 50 base vt 0 e offset)
  | .rspLsv vt e offset base => .vectorUnit (wordVls 50 base vt 1 e offset)
  | .rspLlv vt e offset base => .vectorUnit (wordVls 50 base vt 2 e offset)
  | .rspLdv vt e offset base => .vectorUnit (wordVls 50 base vt 3 e offset)
  | .rspLqv vt e offset base => .vectorUnit (wordVls 50 base vt 4 e offset)
  | .rspLrv vt e offset base => .vectorUnit (wordVls 50 base vt 5 e offset)
  | .rspLpv vt e offset base => .vectorUnit (wordVls 50 base vt 6 e offset)
  | .rspLuv vt e offset base => .vectorUnit (wordVls 50 base vt 7 e offset)
  | .rspLhv vt e offset base => .vectorUnit (wordVls 50 base vt 8 e offset)
  | .rspLfv vt e offset base => .vectorUnit (wordVls 50 base vt 9 e offset)
  | .rspLwv vt e offset base => .vectorUnit (wordVls 50 base vt 10 e offset)
  | .rspLtv vt e offset base => .vectorUnit (wordVls 50 base vt 11 e offset)
  | .rspSbv vt e offset base => .vectorUnit (wordVls 58 base vt 0 e offset)
  | .rspSsv vt e offset base => .vectorUnit (wordVls 58 base vt 1 e offset)
  | .rspSlv vt e offset base => .vectorUnit (wordVls 58 base vt 2 e offset)
  | .rspSdv vt e offset base => .vectorUnit (wordVls 58 base vt 3 e offset)
  | .rspSqv vt e offset base => .vectorUnit (wordVls 58 base vt 4 e offset)
  | .rspSrv vt e offset base => .vectorUnit (wordVls 58 base vt 5 e offset)
  | .rspSpv vt e offset base => .vectorUnit (wordVls 58 base vt 6 e offset)
  | .rspSuv vt e offset base => .vectorUnit (wordVls 58 base vt 7 e offset)
  | .rspShv vt e offset base => .vectorUnit (wordVls 58 base vt 8 e offset)
  | .rspSfv vt e offset base => .vectorUnit (wordVls 58 base vt 9 e offset)
  | .rspSwv vt e offset base => .vectorUnit (wordVls 58 base vt 10 e offset)
  | .rspStv vt e offset base => .vectorUnit (wordVls 58 base vt 11 e offset)
  | .rspVadd vd vs vt e => .vectorUnit (wordVop e vt vs vd 16)
  | .rspVsub vd vs vt e => .vectorUnit (wordVop e vt vs vd 17)
  | .rspVabs vd vs vt e => .vectorUnit (wordVop e vt vs vd 19)
  | .rspVand vd vs vt e => .vectorUnit (wordVop e vt vs vd 40)
  | .rspVnand vd vs vt e => .vectorUnit (wordVop e vt vs vd 41)
  | .rspVor vd vs vt e => .vectorUnit (wordVop e vt vs vd 42)
  | .rspVnor vd vs vt e => .vectorUnit (wordVop e vt vs vd 43)
  | .rspVxor vd vs vt e => .vectorUnit (wordVop e vt vs vd 44)
  | .rspVnxor vd vs vt e => .vectorUnit (wordVop e vt vs vd 45)
  | .rspVlt vd vs vt e => .vectorUnit (wordVop e vt vs vd 32)
  | .rspVeq vd vs vt e => .vectorUnit (wordVop e vt vs vd 33)
  | .rspVne vd vs vt e => .vectorUnit (wordVop e vt vs vd 34)
  | .rspVge vd vs vt e => .vectorUnit (wordVop e vt vs vd 35)
  | .rspVmrg vd vs vt e => .vectorUnit (wordVop e vt vs vd 39)
  | .rspVsar vd e => .vectorUnit (wordVop e 0 0 vd 29)
  | .rspVnop => .vectorUnit (wordVop 0 0 0 0 55)
  | .rspVmulf vd vs vt e => .vectorUnit (wordVop e vt vs vd 0)
  | .rspVmulu vd vs vt e => .vectorUnit (wordVop e vt vs vd 1)
  | .rspVrndp vd vs vt e => .vectorUnit (wordVop e vt vs vd 2)
  | .rspVmulq vd vs vt e => .vectorUnit (wordVop e vt vs vd 3)
  | .rspVmudl vd vs vt e => .vectorUnit (wordVop e vt vs vd 4)
  | .rspVmudm vd vs vt e => .vectorUnit (wordVop e vt vs vd 5)
  | .rspVmudn vd vs vt e => .vectorUnit (wordVop e vt vs vd 6)
  | .rspVmudh vd vs vt e => .vectorUnit (wordVop e vt vs vd 7)
  | .rspVmacf vd vs vt e => .vectorUnit (wordVop e vt vs vd 8)
  | .rspVmacu vd vs vt e => .vectorUnit (wordVop e vt vs vd 9)
  | .rspVrndn vd vs vt e => .vectorUnit (wordVop e vt vs vd 10)
  | .rspVmacq vd vs vt e => .vectorUnit (wordVop e vt vs vd 11)
  | .rspVmadl vd vs vt e => .vectorUnit (wordVop e vt vs vd 12)
  | .rspVmadm vd vs vt e => .vectorUnit (wordVop e vt vs vd 13)
  | .rspVmadn vd vs vt e => .vectorUnit (wordVop e vt vs vd 14)
  | .rspVmadh vd vs vt e => .vectorUnit (wordVop e vt vs vd 15)
  | .rspVaddc vd vs vt e => .vectorUnit (wordVop e vt vs vd 20)
  | .rspVsubc vd vs vt e => .vectorUnit (wordVop e vt vs vd 21)
  | .rspVcl vd vs vt e => .vectorUnit (wordVop e vt vs vd 36)
  | .rspVch vd vs vt e => .vectorUnit (wordVop e vt vs vd 37)
  | .rspVcr vd vs vt e => .vectorUnit (wordVop e vt vs vd 38)
  | .rspVrcp vd vs vt e => .vectorUnit (wordVop e vt vs vd 48)
  | .rspVrcpl vd vs vt e => .vectorUnit (wordVop e vt vs vd 49)
  | .rspVrcph vd vs vt e => .vectorUnit (wordVop e vt vs vd 50)
  | .rspVmov vd vs vt e => .vectorUnit (wordVop e vt vs vd 51)
  | .rspVrsq vd vs vt e => .vectorUnit (wordVop e vt vs vd 52)
  | .rspVrsql vd vs vt e => .vectorUnit (wordVop e vt vs vd 53)
  | .rspVrsqh vd vs vt e => .vectorUnit (wordVop e vt vs vd 54)
  | .rdpNop => .displayProcessor [wordCmd 0x00 0]
  | .rdpTriangle payload rest => .displayProcessor (wordCmd 0x08 payload :: rest)
  | .rdpTriangleZ payload rest => .displayProcessor (wordCmd 0x09 payload :: rest)
  | .rdpTriangleTex payload rest => .displayProcessor (wordCmd 0x0A payload :: rest)
  | .rdpTriangleTexZ payload rest => .displayProcessor (wordCmd 0x0B payload :: rest)
  | .rdpTriangleShade payload rest => .displayProcessor (wordCmd 0x0C payload :: rest)
  | .rdpTriangleShadeZ payload rest => .displayProcessor (wordCmd 0x0D payload :: rest)
  | .rdpTriangleShadeTex payload rest => .displayProcessor (wordCmd 0x0E payload :: rest)
  | .rdpTriangleShadeTexZ payload rest => .displayProcessor (wordCmd 0x0F payload :: rest)
  | .rdpTextureRectangle payload rest => .displayProcessor (wordCmd 0x24 payload :: rest)
  | .rdpTextureRectangleFlip payload rest => .displayProcessor (wordCmd 0x25 payload :: rest)
  | .rdpSyncLoad => .displayProcessor [wordCmd 0x26 0]
  | .rdpSyncPipe => .displayProcessor [wordCmd 0x27 0]
  | .rdpSyncTile => .displayProcessor [wordCmd 0x28 0]
  | .rdpSyncFull => .displayProcessor [wordCmd 0x29 0]
  | .rdpSetKeyGb payload => .displayProcessor [wordCmd 0x2A payload]
  | .rdpSetKeyR payload => .displayProcessor [wordCmd 0x2B payload]
  | .rdpSetConvert payload => .displayProcessor [wordCmd 0x2C payload]
  | .rdpSetScissor payload => .displayProcessor [wordCmd 0x2D payload]
  | .rdpSetPrimDepth payload => .displayProcessor [wordCmd 0x2E payload]
  | .rdpSetOtherModes payload => .displayProcessor [wordCmd 0x2F payload]
  | .rdpLoadTlut payload => .displayProcessor [wordCmd 0x30 payload]
  | .rdpSetTileSize payload => .displayProcessor [wordCmd 0x32 payload]
  | .rdpLoadBlock payload => .displayProcessor [wordCmd 0x33 payload]
  | .rdpLoadTile payload => .displayProcessor [wordCmd 0x34 payload]
  | .rdpSetTile payload => .displayProcessor [wordCmd 0x35 payload]
  | .rdpFillRectangle xl yl xh yh => .displayProcessor [wordCmd 0x36 (xl ++ yl ++ (0#8) ++ xh ++ yh)]
  | .rdpSetFillColor color => .displayProcessor [wordCmd 0x37 ((0#24) ++ color)]
  | .rdpSetFogColor payload => .displayProcessor [wordCmd 0x38 payload]
  | .rdpSetBlendColor payload => .displayProcessor [wordCmd 0x39 payload]
  | .rdpSetPrimColor payload => .displayProcessor [wordCmd 0x3A payload]
  | .rdpSetEnvColor payload => .displayProcessor [wordCmd 0x3B payload]
  | .rdpSetCombineMode payload => .displayProcessor [wordCmd 0x3C payload]
  | .rdpSetTextureImage payload => .displayProcessor [wordCmd 0x3D payload]
  | .rdpSetZImage payload => .displayProcessor [wordCmd 0x3E payload]
  | .rdpSetColorImage payload => .displayProcessor [wordCmd 0x3F payload]

/-- The instruction that words decode to; the coprocessor checks of the CPU's decoder (R265) read the state and are left
out here: they choose between running the instruction and an exception, not between two instructions. -/
noncomputable def decode : Code → Option Instr
  | .cpu w => cpuTable w
  | .vectorUnit w => (decodeRsp w).toOption
  | .displayProcessor ws => (decodeRdp ws).toOption

/-- The words that the opcode table's row gives as one number of `nbits` bits. Rows of 32 bits belong to two decode
spaces that use the same numbers: such a word is the CPU's where the CPU's table has it, and the VectorUnit's otherwise
(notes/assumptions/2.md). A row of 64 bits is a DisplayProcessor command: its first word, and zeros after it. -/
def tableCode (nbits w : Nat) : Code :=
  if nbits ≤ 32 then
    if (cpuTable (BitVec.ofNat 32 w)).isSome then .cpu (BitVec.ofNat 32 w) else .vectorUnit (BitVec.ofNat 32 w)
  else
    .displayProcessor
      (BitVec.ofNat 64 w :: List.replicate (commandLength (commandOp (BitVec.ofNat 64 w)) - 1) 0)

/-- The instruction this decoder reads from an instruction whose bits are `w`. -/
noncomputable def decodeTableWord (nbits w : Nat) : Option Instr := decode (tableCode nbits w)

end Sys2Proof
end

