-- ==== Sys2Proof/Machine/Bits.lean ====
section
/-! DEFINITION. Extension, truncation and bit-field helpers (spec/00_scope.md R14, R15). -/

namespace Sys2Proof.Machine

/-- `v[31:0]`. -/
def lo32 (v : Dword) : Word := v.setWidth 32

/-- `v[63:32]`. -/
def hi32 (v : Dword) : Word := v.extractLsb' 32 32

/-- `sext_32`. -/
def sext32 (v : Word) : Dword := v.signExtend 64

/-- `zext_32`. -/
def zext32 (v : Word) : Dword := v.setWidth 64

/-- `sext_16`. -/
def sext16 (v : BitVec 16) : Dword := v.signExtend 64

/-- `zext_16`. -/
def zext16 (v : BitVec 16) : Dword := v.setWidth 64

/-- `sext_16_to_32`. -/
def sext16To32 (v : BitVec 16) : Word := v.signExtend 32

/-- `zext_16_to_32`. -/
def zext16To32 (v : BitVec 16) : Word := v.setWidth 32

/-- A bit as a value: 1 or 0. -/
def bit (w : Nat) (b : Bool) : BitVec w := if b then 1 else 0

/-- `v` with bit `k` set to `b`. -/
def setBit {w : Nat} (v : BitVec w) (k : Nat) (b : Bool) : BitVec w :=
  if b then v ||| ((1 : BitVec w) <<< k) else v &&& ~~~((1 : BitVec w) <<< k)

/-- A clear/set pair of a register write: it acts only when exactly one of the two bits is 1
(spec/20_memory.md R174). -/
def clearSet (old clear set : Bool) : Bool :=
  if clear && !set then false else if set && !clear then true else old

/-- `count` clear/set pairs, pair k being bits `base + 2k` and `base + 2k + 1` of `v`, on the bits of `old`. -/
def clearSetBits {w : Nat} (old : BitVec w) (v : Word) (base : Nat) : Nat → BitVec w
  | 0 => old
  | k + 1 =>
    setBit (clearSetBits old v base k) k
      (clearSet (old.getLsbD k) (v.getLsbD (base + 2 * k)) (v.getLsbD (base + 2 * k + 1)))

/-- `clamp(lo, hi, i)`. -/
def clamp (lo hi i : Int) : Int := min hi (max lo i)

end Sys2Proof.Machine
end

