-- ==== Sys2Proof/Config.lean ====
section
/-! DEFINITION. The configuration of the machine (spec/00_scope.md R9, R13) and its free values.

`Config` holds, as plain data, every parameter of R13 and the ROM image: a state carries one, no step changes it, and a
statement about every state is therefore a statement about every choice of the parameters. A parameter that is a
function cannot be plain data: `Config` then holds which function is meant (the spec's default, or one that is supplied),
and the supplied one is a constant without a body below, of which nothing can be proved. -/

namespace Sys2Proof

/-- NONSEXT32 (spec/40_integer_alu.md R300): what a 32-bit operation does on an operand that is no sign-extended
32-bit value. -/
inductive NonSext32 where
  | low32
  | refuse
  deriving DecidableEq, Repr

/-- RDRAM_SIZE (spec/00_scope.md R13): 4 MiB, or 8 MiB. -/
inductive RdramSize where
  | mib4
  | mib8
  deriving DecidableEq, Repr

/-- ERET_MI_CLEAR (spec/60_exceptions.md R824): which MI pending bits ERET clears. -/
inductive EretMiClear where
  | enabled
  | all
  | none
  deriving DecidableEq, Repr

/-- DIV0 (spec/41_muldiv.md R390): what a division by zero gives. -/
inductive Div0 where
  | vr4300
  | supplied
  | refuse
  deriving DecidableEq, Repr

/-- FPOP (spec/45_fpu.md R573): the default FPOP_IEEE, or a supplied function. -/
inductive FpopChoice where
  | ieee
  | supplied
  deriving DecidableEq, Repr

/-- FPU_UNIMPL (spec/45_fpu.md R575): the default set of unimplemented operations, or a supplied predicate. -/
inductive FpuUnimplChoice where
  | vr4300
  | supplied
  deriving DecidableEq, Repr

/-- TRI_DECODE (spec/48_rasterizer.md R1011): the default, which refuses, or a supplied function. -/
inductive TriDecodeChoice where
  | refuse
  | supplied
  deriving DecidableEq, Repr

/-- TRI_SHADE (spec/48_rasterizer.md R1014): the default, the interpolated vertex colour, or a supplied function. -/
inductive TriShadeChoice where
  | vertexColour
  | supplied
  deriving DecidableEq, Repr

/-- Every parameter of spec/00_scope.md R13, and the cartridge ROM (spec/10_state.md R78). -/
structure Config where
  nonSext32 : NonSext32
  rdramSize : RdramSize
  /-- INSTR_BUDGET, at least 1. -/
  instrBudget : Nat
  /-- RSP_BUDGET, at least 1. -/
  rspBudget : Nat
  /-- TICKS_PER_FRAME, at least 1. -/
  ticksPerFrame : Nat
  dmaDelayTicks : Nat
  /-- COUNT_DIV, at least 1. -/
  countDiv : Nat
  fbWidth : Nat
  fbHeight : Nat
  pridValue : Word
  configReset : Word
  statusReset : Word
  bootPc : Dword
  /-- BOOT_COPY_LEN, 1 to 4096 (spec/70_reset_and_hazards.md R903). -/
  bootCopyLen : Nat
  /-- BOOT_GPR; entry 0 is not used, since x[0] reads 0. -/
  bootGpr : Vector Dword 32
  eretMiClear : EretMiClear
  div0 : Div0
  fpop : FpopChoice
  fpuUnimpl : FpuUnimplChoice
  triDecode : TriDecodeChoice
  triShade : TriShadeChoice
  /-- IS_CLEAR_DIRECTIVE (spec/48_rasterizer.md R1006). -/
  clearDirective : BitVec 8
  /-- The nonzero bytes of the ROM image, by offset, offsets rising. -/
  rom : List Host.Cell
  /-- ROM_SIZE. -/
  romSize : Nat
  deriving DecidableEq, Repr

/-- The operations that FPOP ranges over (spec/45_fpu.md R573). -/
inductive FpOp where
  | add
  | sub
  | mul
  | div
  | sqrt
  | abs
  | neg
  | cvt
  | compare
  deriving DecidableEq, Repr

/-- The formats of spec/45_fpu.md R572: binary32, binary64, 32-bit integer, 64-bit integer. -/
inductive Fmt where
  | s
  | d
  | w
  | l
  deriving DecidableEq, Repr

/-- The four divide instructions, each with its own result for a zero divisor (spec/41_muldiv.md R390). -/
inductive DivKind where
  | div
  | divu
  | ddiv
  | ddivu
  deriving DecidableEq, Repr

/-- A triangle vertex (spec/48_rasterizer.md R1011): rational numbers, x and y in pixels. -/
structure Vertex where
  x : Rat
  y : Rat
  z : Rat
  r : Rat
  g : Rat
  b : Rat
  a : Rat
  s : Rat
  t : Rat
  w : Rat
  deriving DecidableEq, Repr, Inhabited

/-! ## Free values: constants with no body -/

/-- `cp0_draw` (spec/10_state.md R49): what the k-th draw reads from unmodelled or reserved CP0 register n. -/
opaque Config.cp0Draw : Reg → Nat → Dword

/-- `fcr_draw` (spec/10_state.md R62): what the k-th draw reads from FPU control register n, n neither 0 nor 31. -/
opaque Config.fcrDraw : Reg → Nat → Word

/-- The supplied DIV0: (LO, HI) from the dividend (spec/41_muldiv.md R390). -/
opaque Config.div0Supplied : DivKind → Dword → Dword × Dword

/-- The supplied FPOP (spec/45_fpu.md R573): operation, source and target format, rounding mode, FS, operands; the result
and the flags V Z O U I (bits 4 to 0), or `none` for Unimplemented. -/
opaque Config.fpopSupplied : FpOp → Fmt → Fmt → BitVec 2 → Bool → Dword → Dword → Option (Dword × BitVec 5)

/-- The supplied FPOP for compares (spec/45_fpu.md R610), on the format, the condition and the operands: less, equal,
unordered and the flags, or Unimplemented. -/
opaque Config.fpCompareSupplied : Fmt → BitVec 4 → Dword → Dword → Option (Bool × Bool × Bool × BitVec 5)

/-- The supplied FPU_UNIMPL (spec/45_fpu.md R575), on the operation, its formats, its operands and FCR31. -/
opaque Config.fpuUnimplSupplied : FpOp → Fmt → Fmt → Dword → Dword → Word → Bool

/-- Which quiet NaN an operation on quiet NaNs delivers: R573 states none (notes/assumptions/10.md). -/
opaque Config.quietNan : FpOp → Fmt → Dword → Dword → Bool × Nat

/-- The sign of a result flushed to zero, and its U and I flags (bits 1, 0): R573 states neither
(notes/assumptions/11.md). -/
opaque Config.flushed : FpOp → Fmt → Fmt → BitVec 2 → Dword → Dword → Bool × BitVec 2

/-- Whether a result that is tiny before rounding and the smallest normal number after it sets flag U: IEEE 754-1985
leaves it to the implementation and R573 does not state it (notes/assumptions/12.md). -/
opaque Config.tinyBeforeRounding : FpOp → Fmt → Dword → Dword → Bool

/-- The integer that an invalid conversion delivers when FPU_UNIMPL does not decline it: R573 states none
(notes/assumptions/13.md). -/
opaque Config.invalidInteger : Fmt → Fmt → Dword → Dword

/-- The supplied TRI_DECODE (spec/48_rasterizer.md R1011). -/
opaque Config.triDecodeSupplied : BitVec 8 → List Dword → Vertex × Vertex × Vertex

/-- The supplied TRI_SHADE (spec/48_rasterizer.md R1014): op, the interpolated vertex and `dp_state`. -/
opaque Config.triShadeSupplied : BitVec 8 → Vertex → List (Nat × Dword) → Word

/-- PIF_PROCESS (spec/20_memory.md R206): byte k of PIF RAM after processing, from PIF RAM and the controller latch. -/
opaque Config.pifProcess : List Byte → Word → Nat → Byte

/-- The host's controller input for a frame (spec/60_exceptions.md R852). -/
opaque Config.hostInput : Nat → Word

end Sys2Proof
end

