-- ==== Sys2Proof/Machine/Defaults.lean ====
section
/-! DEFINITION. The default value of every parameter (spec/00_scope.md R13). -/

namespace Sys2Proof.Machine

/-- The defaults of R13, with the ROM that the test vectors start from (spec/95_test_vectors.md section 3): 0x1000 zero
bytes. R13 gives the ROM image no default (notes/assumptions/3.md). -/
def defaultConfig : Config where
  nonSext32 := .low32
  rdramSize := .mib4
  instrBudget := 1024
  rspBudget := 1024
  ticksPerFrame := 100
  dmaDelayTicks := 1
  countDiv := 2
  fbWidth := 320
  fbHeight := 240
  pridValue := 0x00000B22
  configReset := 0x7006E463
  statusReset := 0x34000000
  bootPc := 0xFFFFFFFFA4000040
  bootCopyLen := 0x1000
  bootGpr := Vector.replicate 32 0
  eretMiClear := .enabled
  div0 := .vr4300
  fpop := .ieee
  fpuUnimpl := .vr4300
  triDecode := .refuse
  triShade := .vertexColour
  clearDirective := 0x3E
  rom := []
  romSize := 0x1000

end Sys2Proof.Machine
end

