-- ==== Sys2Proof/Machine/State.lean ====
section
/-! DEFINITION. The machine's state (spec/10_state.md R40 to R86), the reasons a step can stop, and the state after
reset (spec/70_reset_and_hazards.md R900, R901).

State is plain data. A memory and a pixel buffer are lists of (key, value) pairs, keys rising, no pair holding what an
unlisted key reads as (Sys2Proof/Machine/Store.lean). One list holds every byte memory of the bus, by physical address:
RDRAM, SP DMEM, SP IMEM and PIF RAM (spec/20_memory.md R170). -/

namespace Sys2Proof.Machine

/-! ## Why a step stops -/

/-- A fault: the machine does not run at all. The hardware has one, at load time. -/
inductive Fault where
  /-- R906: raised by `boot` when the ROM image is shorter than the header or the boot copy; no state is produced.
  No step raises it. Safe: the spec produces no state either. -/
  | invalidRomImage
  deriving DecidableEq, Repr

/-- The segments that R141 refuses because they are reached through the TLB. -/
inductive MappedSegment where
  | kuseg
  | ksseg
  | kseg3
  deriving DecidableEq, Repr

/-- A refusal (spec/00_scope.md R12): the spec gives the form no meaning. Every one is safe: the machine stops where the
spec says that no claim about the run can be proved. -/
inductive Refusal where
  /-- Raised by an arm of `exec` whose instruction has no meaning yet; safe. No arm raises it in this model. -/
  | notModelled (mnemonic : String)
  /-- R141, raised by `translateVa` when Status.KX = 1; safe. -/
  | kernel64Addressing
  /-- R141, raised by `translateVa` for the named segment (kuseg while ERL = 0, ksseg, kseg3); safe. -/
  | tlbMappedSegment (segment : MappedSegment)
  /-- R870, raised by `modeCheck` after MTC0 to Status and after ERET; safe. -/
  | userOrSupervisorMode
  /-- R413, raised by every CPU branch, jump and ERET in a delay slot; safe. -/
  | controlTransferInDelaySlot
  /-- R418, raised by BLTZAL, BGEZAL, BLTZALL, BGEZALL with rs = 31 and JALR with rd = rs; safe. -/
  | linkRegisterIsSource
  /-- R163, raised by `memWrite` of 1 or 2 bytes into a register group; safe. -/
  | subWordRegisterWrite
  /-- R165, raised by `memWriteMasked` of less than the whole unit into a register group; safe. -/
  | partialRegisterWrite
  /-- R300, raised by the 32-bit operations when NONSEXT32 is `refuse`; safe. -/
  | nonSignExtendedOperand
  /-- R390, raised by the divide instructions when DIV0 is `refuse`; safe. -/
  | divisionByZero
  /-- R571, raised by the 64-bit FPR views for an odd number when Status.FR = 0; safe. -/
  | oddFprAsDword
  /-- R536, raised by DMFC0 of a 32-bit or reserved register; safe. -/
  | dmfc0Of32Bit
  /-- R538, raised by DMTC0 to a 32-bit or reserved register; safe. -/
  | dmtc0Of32Bit
  /-- R59, raised by MTC0 to WatchLo with a watch bit set; safe. -/
  | watchEnabled
  /-- R545 to R548, raised by TLBR, TLBWI, TLBWR and TLBP; safe. -/
  | tlbNotModelled
  /-- R640, raised by the VectorUnit's decoder for a word its table does not list; safe. -/
  | unmodelledVectorUnitInstruction
  /-- R634, raised by every VectorUnit branch and jump in a delay slot; safe. -/
  | vectorUnitBranchInDelaySlot
  /-- R639, raised by BLTZAL, BGEZAL with rs = 31 and JALR with rd = rs; safe. -/
  | vectorUnitLinkRegisterIsSource
  /-- R687, R688, raised by the VectorUnit's MFC0 and MTC0 for registers 16 to 31; safe. -/
  | vectorUnitCop0Register
  /-- R692, R693, raised by CFC2 and CTC2 for registers other than 0, 1, 2; safe. -/
  | vectorUnitControlRegister
  /-- R705 to R718, raised by the named vector transfer; safe. -/
  | vectorTransfer (name : String)
  /-- R719, raised by the VectorUnit's decoder for a reserved transfer opcode; safe. -/
  | reservedVectorTransfer
  /-- R741 to R768, raised by the named vector operation; safe. -/
  | vectorOp (name : String)
  /-- R769, raised by the VectorUnit's decoder for a reserved vector funct; safe. -/
  | reservedVectorOp
  /-- R1005, raised by `flush` for a command whose top byte the table does not list; safe. -/
  | unknownCommand (op : BitVec 8)
  /-- R1011, raised by every triangle command while TRI_DECODE is its default `refuse`; safe. -/
  | triangleDecoding
  /-- R1023, raised by TEXTURE_RECTANGLE; safe. -/
  | textureRectangle
  /-- R1024, raised by TEXTURE_RECTANGLE_FLIP; safe. -/
  | textureRectangleFlip
  deriving DecidableEq, Repr

/-! ## The CPU -/

/-- The CPU outside its coprocessors. -/
structure Cpu where
  /-- x[0] to x[31] (R40); entry 0 is not read and not written. -/
  gpr : Vector Dword 32
  /-- HI (R43). -/
  hi : Dword
  /-- LO (R43). -/
  lo : Dword
  /-- pc (R44). -/
  pc : Dword
  /-- The target of a taken branch whose delay slot is at pc (R45). -/
  pending : Option Dword
  /-- The instruction at pc is a delay slot (R45). -/
  ds : Bool
  /-- LLbit (R46). -/
  llbit : Bool
  /-- count_phase (R47). -/
  countPhase : Nat
  deriving DecidableEq, Repr

/-- The modelled CP0 registers (R48 to R60). PRId is constant (`Config.pridValue`); the unmodelled registers hold
nothing (R49). -/
structure Cp0 where
  /-- CP0 8 (R53). -/
  badVAddr : Dword
  /-- CP0 9 (R54). -/
  count : Word
  /-- CP0 11 (R55). -/
  compare : Word
  /-- CP0 12 (R50). -/
  status : Word
  /-- CP0 13 (R51), as stored: bit 10, IP2, is computed when the register is read. -/
  cause : Word
  /-- CP0 14 (R52). -/
  epc : Dword
  /-- CP0 16 (R57), as stored: bit 15, BE, reads 1. -/
  config : Word
  /-- CP0 17 (R58). -/
  llAddr : Word
  /-- CP0 18 (R59). -/
  watchLo : Word
  /-- CP0 19 (R59). -/
  watchHi : Word
  /-- CP0 30 (R60). -/
  errorEpc : Dword
  deriving DecidableEq, Repr

/-- The floating-point unit (R61 to R63). FCR0 is constant. -/
structure Fpu where
  /-- f0 to f31 (R61). -/
  fpr : Vector Dword 32
  /-- FCR31 (R63). -/
  fcr31 : Word
  deriving DecidableEq, Repr

/-! ## The VectorUnit -/

/-- The VectorUnit's own registers (R64 to R68). -/
structure Vu where
  /-- sr[0] to sr[31] (R64); entry 0 is not read and not written. -/
  sr : Vector Word 32
  /-- rsp_pc (R65). -/
  pc : BitVec 12
  /-- rsp_pending (R65). -/
  pending : Option (BitVec 12)
  /-- rsp_ds (R65). -/
  ds : Bool
  /-- vr[0] to vr[31], lane 0 first (R66). -/
  vr : Vector (Vector Half 8) 32
  /-- acc[0] to acc[7] (R67). -/
  acc : Vector (BitVec 48) 8
  /-- VCO (R68). -/
  vco : BitVec 8
  /-- VCC (R68). -/
  vcc : BitVec 8
  /-- VCE (R68). -/
  vce : BitVec 8
  deriving DecidableEq, Repr

/-- The SP register group (R70, R71). -/
structure Sp where
  halt : Bool
  broke : Bool
  intrOnBreak : Bool
  sstep : Bool
  /-- signal[7..0]. -/
  signal : BitVec 8
  semaphore : Bool
  /-- SP_MEM_ADDR. -/
  memAddr : BitVec 13
  /-- SP_DRAM_ADDR. -/
  dramAddr : BitVec 24
  /-- SP_RD_LEN. -/
  rdLen : Word
  /-- SP_WR_LEN. -/
  wrLen : Word
  deriving DecidableEq, Repr

/-! ## The DisplayProcessor -/

/-- The DisplayProcessor (R72 to R74). A pixel is its 32-bit colour value (R1007); pixel (x, y) has the key
y * fbWidth + x. -/
structure Rdp where
  /-- CommandStream (R72). -/
  stream : List Dword
  /-- fb_w (R73). -/
  fbWidth : Nat
  /-- fb_h (R73). -/
  fbHeight : Nat
  /-- FrameBuffer (R73): an unlisted pixel is (0, 0, 0, 0). -/
  fb : List (Nat × Word)
  /-- DepthBuffer (R73): an unlisted entry is FAR. -/
  depth : List (Nat × Word)
  /-- fill_color (R74). -/
  fillColor : Word
  /-- dp_state by opcode (R74): an unlisted entry is 0. -/
  dpState : List (Nat × Dword)
  /-- DPC_START (R74). -/
  dpcStart : BitVec 24
  /-- DPC_END (R74). -/
  dpcEnd : BitVec 24
  /-- DPC_CURRENT (R74). -/
  dpcCurrent : BitVec 24
  /-- DPC_STATUS.XBUS (R74). -/
  xbus : Bool
  deriving DecidableEq, Repr

/-! ## The bus's register groups -/

/-- The InterruptController (R75). Bit 0 SP, 1 SI, 2 AI, 3 VI, 4 PI, 5 DP. MI_VERSION is constant. -/
structure Mi where
  /-- MI_INTR. -/
  intr : BitVec 6
  /-- MI_INTR_MASK. -/
  mask : BitVec 6
  /-- MI_MODE bits 6:0. -/
  initLength : BitVec 7
  /-- MI_MODE bit 7. -/
  initMode : Bool
  /-- MI_MODE bit 8. -/
  ebusTest : Bool
  /-- MI_MODE bit 9. -/
  rdramReg : Bool
  deriving DecidableEq, Repr

/-- The PI group (R79). -/
structure Pi where
  dramAddr : BitVec 24
  cartAddr : Word
  rdLen : Word
  wrLen : Word
  dom1Lat : BitVec 8
  dom1Pwd : BitVec 8
  dom1Pgs : BitVec 8
  dom1Rls : BitVec 8
  dom2Lat : BitVec 8
  dom2Pwd : BitVec 8
  dom2Pgs : BitVec 8
  dom2Rls : BitVec 8
  deriving DecidableEq, Repr

/-- The SI group (R79). -/
structure Si where
  dramAddr : BitVec 24
  rd64b : Word
  wr64b : Word
  deriving DecidableEq, Repr

/-- The AI group (R79). -/
structure Ai where
  dramAddr : BitVec 24
  len : BitVec 18
  control : Bool
  dacrate : BitVec 14
  bitrate : BitVec 4
  deriving DecidableEq, Repr

/-- The VI group (R79). -/
structure Vi where
  control : Word
  origin : BitVec 24
  width : BitVec 12
  vIntr : BitVec 10
  burst : Word
  vSync : BitVec 10
  hSync : Word
  leap : Word
  hStart : Word
  vStart : Word
  vBurst : Word
  xScale : Word
  yScale : Word
  deriving DecidableEq, Repr

/-- The RI group (R79). -/
structure Ri where
  mode : Word
  config : Word
  currentLoad : Word
  select : Word
  refresh : Word
  latency : Word
  rError : Word
  wError : Word
  deriving DecidableEq, Repr

/-! ## DMA and the scheduler -/

/-- The DMA-capable peripherals (R80, R200). -/
inductive DmaOwner where
  | pi
  | si
  | ai
  | sp
  deriving DecidableEq, Repr

/-- The busy bits (R80). -/
structure Busy where
  pi : Bool
  si : Bool
  ai : Bool
  sp : Bool
  deriving DecidableEq, Repr

/-- A DMA source or destination: a space and an address (R200). -/
inductive DmaPlace where
  /-- RDRAM, by physical address. -/
  | rdram (pa : Word)
  /-- CART, by physical address. -/
  | cart (pa : Word)
  /-- PIF RAM, from offset 0. -/
  | pif
  /-- SPMEM: IMEM or DMEM, by offset. -/
  | spMem (imem : Bool) (offset : BitVec 12)
  /-- The end of audio_out. -/
  | audio
  deriving DecidableEq, Repr

/-- A DmaRequest (R81, R200). Owners other than SP have one row and no skip. -/
structure DmaRequest where
  owner : DmaOwner
  src : DmaPlace
  dst : DmaPlace
  len : Nat
  rows : Nat
  skip : Nat
  deadline : Nat
  deriving DecidableEq, Repr

/-- clock_state (R82). -/
inductive ClockState where
  | idle
  | running
  | stopped
  deriving DecidableEq, Repr

/-- Where the tick in progress stands (R850): the model's own bookkeeping, which lets one step be one step of one agent
(R8). The lists of R850 and R1001 that a phase still has to work through are kept here. -/
inductive Phase where
  /-- Between two ticks. -/
  | boundary
  /-- In the CPU slice, with this many CPU steps left (R854). -/
  | cpu (left : Nat)
  /-- In the DMA phase (R204). -/
  | dma
  /-- In the VectorUnit phase, with this many VectorUnit steps left (R631). -/
  | vu (left : Nat)
  /-- Before the flush cuts the stream into commands (R1001). -/
  | flush
  /-- In the flush, with these commands left, each as its words (R1001). -/
  | draw (commands : List (List Dword))
  /-- Before frame_advance (R852). -/
  | frame
  deriving DecidableEq, Repr

/-- SystemClock (R82). -/
structure Clock where
  state : ClockState
  tick : Nat
  framePhase : Nat
  frames : Nat
  /-- The model's own (see `Phase`). -/
  phase : Phase
  deriving DecidableEq, Repr

/-- The host-facing outputs (R83), oldest first; a frame is its bytes. -/
structure Outputs where
  audio : List Byte
  frames : List (List Byte)
  deriving DecidableEq, Repr

/-! ## The whole machine -/

/-- The machine's state: every element of spec/10_state.md, the phase of the tick, the model's own count of draws, and
the configuration (R9), which no step changes. -/
structure State where
  cpu : Cpu
  cp0 : Cp0
  fpu : Fpu
  vu : Vu
  sp : Sp
  rdp : Rdp
  mi : Mi
  pi : Pi
  si : Si
  ai : Ai
  vi : Vi
  ri : Ri
  busy : Busy
  /-- The DMA queue, oldest first (R81). -/
  dma : List DmaRequest
  clock : Clock
  out : Outputs
  /-- controller_latch (R86). -/
  controllerLatch : Word
  /-- The refusal mark (R84). -/
  refused : Option Refusal
  /-- How many draws (R49, R62) have been made: the model's own counter. -/
  draws : Nat
  /-- The configuration (R9). -/
  cfg : Config
  /-- RDRAM, DMEM, IMEM and PIF RAM, by physical address (R69, R76, R77). -/
  mem : List Host.Cell
  deriving DecidableEq, Repr

/-- The state right after reset under the default configuration (R900, R901), whose ROM is all zero, so that the
boot copy (R903) lists no byte. `boot` in Sys2Proof/Machine/Clock.lean is reset under any configuration. -/
def State.reset : State where
  cpu := {
    gpr := Vector.replicate 32 0, hi := 0, lo := 0, pc := 0xFFFFFFFFA4000040, pending := none, ds := false,
    llbit := false, countPhase := 0 }
  cp0 := {
    badVAddr := 0, count := 0, compare := 0, status := 0x34000000, cause := 0, epc := 0, config := 0x7006E463,
    llAddr := 0, watchLo := 0, watchHi := 0, errorEpc := 0 }
  fpu := { fpr := Vector.replicate 32 0, fcr31 := 0 }
  vu := {
    sr := Vector.replicate 32 0, pc := 0, pending := none, ds := false,
    vr := Vector.replicate 32 (Vector.replicate 8 0), acc := Vector.replicate 8 0, vco := 0, vcc := 0, vce := 0 }
  sp := {
    halt := true, broke := false, intrOnBreak := false, sstep := false, signal := 0, semaphore := false, memAddr := 0,
    dramAddr := 0, rdLen := 0, wrLen := 0 }
  rdp := {
    stream := [], fbWidth := 320, fbHeight := 240, fb := [], depth := [], fillColor := 0, dpState := [],
    dpcStart := 0, dpcEnd := 0, dpcCurrent := 0, xbus := false }
  mi := { intr := 0, mask := 0, initLength := 0, initMode := false, ebusTest := false, rdramReg := false }
  pi := {
    dramAddr := 0, cartAddr := 0, rdLen := 0, wrLen := 0, dom1Lat := 0, dom1Pwd := 0, dom1Pgs := 0, dom1Rls := 0,
    dom2Lat := 0, dom2Pwd := 0, dom2Pgs := 0, dom2Rls := 0 }
  si := { dramAddr := 0, rd64b := 0, wr64b := 0 }
  ai := { dramAddr := 0, len := 0, control := false, dacrate := 0, bitrate := 0 }
  vi := {
    control := 0, origin := 0, width := 0, vIntr := 0, burst := 0, vSync := 0, hSync := 0, leap := 0, hStart := 0,
    vStart := 0, vBurst := 0, xScale := 0, yScale := 0 }
  ri := {
    mode := 0, config := 0, currentLoad := 0, select := 0, refresh := 0, latency := 0, rError := 0, wError := 0 }
  busy := { pi := false, si := false, ai := false, sp := false }
  dma := []
  clock := { state := .idle, tick := 0, framePhase := 0, frames := 0, phase := .boundary }
  out := { audio := [], frames := [] }
  controllerLatch := 0
  refused := none
  draws := 0
  cfg := defaultConfig
  mem := []

end Sys2Proof.Machine
end

