-- ==== Sys2Proof/Machine/Store.lean ====
section
/-! DEFINITION. Sparse stores and register files.

A store is a list of (key, value) pairs read with a default `d`: what an unlisted key reads as. Its canonical form has
rising keys and no value `d`, so that equal contents are equal lists. -/

namespace Sys2Proof.Machine

/-- The value at key `a`. -/
def Store.get {β : Type} (d : β) : List (Nat × β) → Nat → β
  | [], _ => d
  | (k, v) :: t, a => if k = a then v else Store.get d t a

/-- The store without key `a`. -/
def Store.erase {β : Type} : List (Nat × β) → Nat → List (Nat × β)
  | [], _ => []
  | (k, v) :: t, a => if k = a then Store.erase t a else (k, v) :: Store.erase t a

/-- The store with the pair (a, v) put before the first larger key. -/
def Store.insert {β : Type} : List (Nat × β) → Nat → β → List (Nat × β)
  | [], a, v => [(a, v)]
  | (k, w) :: t, a, v => if a < k then (a, v) :: (k, w) :: t else (k, w) :: Store.insert t a v

/-- The store with value `v` at key `a`: writing `d` removes the pair. -/
def Store.set {β : Type} [DecidableEq β] (d : β) (m : List (Nat × β)) (a : Nat) (v : β) : List (Nat × β) :=
  if v = d then Store.erase m a else Store.insert (Store.erase m a) a v

/-- The store with value `v` at the `n` keys from `lo` on. -/
def Store.fill {β : Type} [DecidableEq β] (d : β) (m : List (Nat × β)) (lo n : Nat) (v : β) : List (Nat × β) :=
  m.filter (fun c => decide (c.1 < lo)) ++
    ((if v = d then [] else (List.range n).map (fun k => (lo + k, v))) ++ m.filter (fun c => decide (lo + n ≤ c.1)))

/-- The keys rise strictly. -/
def Store.rising {β : Type} : List (Nat × β) → Bool
  | [] => true
  | (k, _) :: t => t.all (fun c => decide (k < c.1)) && Store.rising t

/-- The canonical form. -/
def Store.wf {β : Type} [DecidableEq β] (d : β) (m : List (Nat × β)) : Bool :=
  Store.rising m && m.all (fun c => decide (c.2 ≠ d))

/-- The canonical form of a memory: an unlisted byte reads 0, the reset value of every memory of the bus
(spec/10_state.md R69, R76, R77). -/
def Memory.wf (m : List Host.Cell) : Bool := Store.wf 0 m

/-- The byte at `a`. -/
def Memory.byte (m : List Host.Cell) (a : Nat) : Byte := Store.get 0 m a

/-- `m` with the byte at `a` set. -/
def Memory.setByte (m : List Host.Cell) (a : Nat) (b : Byte) : List Host.Cell := Store.set 0 m a b

/-- The `n` bytes from `a` upward as one big-endian value (spec/20_memory.md R161, R162). -/
def Memory.read (m : List Host.Cell) (a : Nat) : Nat → Dword
  | 0 => 0
  | n + 1 => (Memory.read m a n <<< 8) ||| (Memory.byte m (a + n)).setWidth 64

/-- The low `8 n` bits of `v` stored big-endian from `a` upward (R161, R163). -/
def Memory.write (m : List Host.Cell) (a : Nat) (v : Dword) : Nat → List Host.Cell
  | 0 => m
  | n + 1 => Memory.write (Memory.setByte m (a + n) (v.setWidth 8)) a (v >>> 8) n

/-- As `Memory.write`, but only the bytes whose bit of `mask` is 1: bit `n - 1 - k` is that of the byte at `a + k`
(R165). -/
def Memory.writeMasked (m : List Host.Cell) (a : Nat) (v : Dword) (mask : Byte) : Nat → List Host.Cell
  | 0 => m
  | n + 1 =>
    let m' := if mask.getLsbD 0 then Memory.setByte m (a + n) (v.setWidth 8) else m
    Memory.writeMasked m' a (v >>> 8) (mask >>> 1) n

/-- Register `i` of a file of 32. -/
def Regs.get {α : Type} (v : Vector α 32) (i : Reg) : α := v[i.toNat]'i.isLt

/-- The file with register `i` set. -/
def Regs.set {α : Type} (v : Vector α 32) (i : Reg) (x : α) : Vector α 32 := v.set i.toNat x i.isLt

/-- The file with register `i` set, where register 0 discards writes (spec/10_state.md R40, R64). -/
def Regs.setNonzero {α : Type} (v : Vector α 32) (i : Reg) (x : α) : Vector α 32 :=
  if i = 0 then v else Regs.set v i x

end Sys2Proof.Machine
end

