-- ==== Sys2Proof/Machine/Ops.lean ====
section
/-! DEFINITION. The named operations on registers, the retire phase (spec/42_branch_jump.md R411), taking an exception
(spec/60_exceptions.md R810), the interrupt controller, the CP0 registers, the timer and the interrupt poll. -/

namespace Sys2Proof.Machine

/-- What a meaning and a step answer. -/
abbrev Result := Host.Outcome State Fault Refusal

/-! ## Registers -/

/-- x[i] (spec/10_state.md R40): x[0] reads 0. -/
def gpr (s : State) (i : Reg) : Dword := if i = 0 then 0 else Regs.get s.cpu.gpr i

/-- x[i] <- v (R40): a write of x[0] is discarded. -/
def setGpr (s : State) (i : Reg) (v : Dword) : State := { s with cpu.gpr := Regs.setNonzero s.cpu.gpr i v }

/-- HI <- v (R43). -/
def setHi (s : State) (v : Dword) : State := { s with cpu.hi := v }

/-- LO <- v (R43). -/
def setLo (s : State) (v : Dword) : State := { s with cpu.lo := v }

/-- LLbit <- b (R46). -/
def setLlbit (s : State) (b : Bool) : State := { s with cpu.llbit := b }

/-- f[i], all 64 bits (R61). -/
def fpr (s : State) (i : Reg) : Dword := Regs.get s.fpu.fpr i

/-- f[i] <- v. -/
def setFpr (s : State) (i : Reg) (v : Dword) : State := { s with fpu.fpr := Regs.set s.fpu.fpr i v }

/-- FCR31 <- v (R63). -/
def setFcr31 (s : State) (v : Word) : State := { s with fpu.fcr31 := v }

/-- sr[i] (R64): sr[0] reads 0. -/
def sr (s : State) (i : Reg) : Word := if i = 0 then 0 else Regs.get s.vu.sr i

/-- sr[i] <- v (R64): a write of sr[0] is discarded. -/
def setSr (s : State) (i : Reg) (v : Word) : State := { s with vu.sr := Regs.setNonzero s.vu.sr i v }

/-- vr[i], eight lanes (R66). -/
def vr (s : State) (i : Reg) : Vector Half 8 := Regs.get s.vu.vr i

/-- vr[i] <- v. -/
def setVr (s : State) (i : Reg) (v : Vector Half 8) : State := { s with vu.vr := Regs.set s.vu.vr i v }

/-! ## Status fields (R50) -/

/-- Status bit `k`. -/
def statusBit (s : State) (k : Nat) : Bool := s.cp0.status.getLsbD k

/-- Status.IE. -/
def statusIe (s : State) : Bool := statusBit s 0
/-- Status.EXL. -/
def statusExl (s : State) : Bool := statusBit s 1
/-- Status.ERL. -/
def statusErl (s : State) : Bool := statusBit s 2
/-- Status.KSU. -/
def statusKsu (s : State) : BitVec 2 := s.cp0.status.extractLsb' 3 2
/-- Status.KX. -/
def statusKx (s : State) : Bool := statusBit s 7
/-- Status.IM. -/
def statusIm (s : State) : BitVec 8 := s.cp0.status.extractLsb' 8 8
/-- Status.BEV. -/
def statusBev (s : State) : Bool := statusBit s 22
/-- Status.FR. -/
def statusFr (s : State) : Bool := statusBit s 26
/-- Status.CU1. -/
def statusCu1 (s : State) : Bool := statusBit s 29
/-- Status.CU2. -/
def statusCu2 (s : State) : Bool := statusBit s 30
/-- Status.CU3. -/
def statusCu3 (s : State) : Bool := statusBit s 31

/-- The bits of Status that exist: 19, 21 and 23 are hard-wired 0 (R50). -/
def statusMask : Word := 0xFF57FFFF

/-- R870: the mode is kernel mode, the one this hardware has. -/
def kernelMode (s : State) : Bool := statusKsu s == 0 || statusExl s || statusErl s

/-! ## The interrupt controller (R820 to R826) -/

/-- The sources, by their bit (R75). -/
inductive MiSource where
  | sp
  | si
  | ai
  | vi
  | pi
  | dp
  deriving DecidableEq, Repr

/-- The bit of a source. -/
def miBit : MiSource → Nat
  | .sp => 0
  | .si => 1
  | .ai => 2
  | .vi => 3
  | .pi => 4
  | .dp => 5

/-- `MI_raise` (R821). -/
def miRaise (s : State) (q : MiSource) : State := { s with mi.intr := setBit s.mi.intr (miBit q) true }

/-- `MI_ack` (R822). -/
def miAck (s : State) (q : MiSource) : State := { s with mi.intr := setBit s.mi.intr (miBit q) false }

/-- `MI_pendingAndEnabled` (R823). -/
def miPendingAndEnabled (s : State) : Bool := (s.mi.intr &&& s.mi.mask) != 0

/-- `eret_clear_mi` (R824). -/
def eretClearMi (s : State) : State :=
  { s with mi.intr := match s.cfg.eretMiClear with
      | .enabled => s.mi.intr &&& ~~~s.mi.mask
      | .all => 0
      | .none => s.mi.intr }

/-! ## Retire (R411) -/

/-- Retire of outcome `Seq`: past the instruction, or to the branch's target after a delay slot. -/
def retireSeq (s : State) : State :=
  { s with
    cpu.pc := if s.cpu.ds then s.cpu.pending.getD (s.cpu.pc + 4) else s.cpu.pc + 4
    cpu.pending := none
    cpu.ds := false }

/-- Retire of outcome `Branch(taken, target, likely)`: a branch-likely that is not taken nullifies its slot (R414). -/
def retireBranch (taken : Bool) (target : Dword) (likely : Bool) (s : State) : State :=
  { s with
    cpu.pc := if taken || !likely then s.cpu.pc + 4 else s.cpu.pc + 8
    cpu.pending := if taken then some target else none
    cpu.ds := taken || !likely }

/-- Retire of outcome `Eret(newpc)`. -/
def retireEret (newpc : Dword) (s : State) : State :=
  { s with
    cpu.pc := newpc
    cpu.pending := none
    cpu.ds := false }

/-- A meaning that ends in outcome `Seq` at state `s`. -/
def seq (s : State) : Result := .next (retireSeq s)

/-! ## Exceptions (R800 to R816) -/

/-- The exceptions and what each carries (R800, R801). -/
inductive Exception where
  | interrupt
  | addressErrorLoad (va : Dword)
  | addressErrorStore (va : Dword)
  | syscall
  | breakpoint
  | reservedInstruction
  | coprocessorUnusable (z : BitVec 2)
  | integerOverflow
  | trap
  | floatingPoint
  deriving DecidableEq, Repr

/-- Cause.ExcCode (R800). -/
def excCode : Exception → BitVec 5
  | .interrupt => 0
  | .addressErrorLoad _ => 4
  | .addressErrorStore _ => 5
  | .syscall => 8
  | .breakpoint => 9
  | .reservedInstruction => 10
  | .coprocessorUnusable _ => 11
  | .integerOverflow => 12
  | .trap => 13
  | .floatingPoint => 15

/-- `vector()` (R815). -/
def vector (s : State) : Dword := if statusBev s then 0xFFFFFFFFBFC00380 else 0xFFFFFFFF80000180

/-- Cause with ExcCode replaced. -/
def causeWithCode (cause : Word) (code : BitVec 5) : Word := (cause &&& 0xFFFFFF83) ||| (code.setWidth 32 <<< 2)

/-- Cause with CE replaced (R813). -/
def causeWithCe (cause : Word) (z : BitVec 2) : Word := (cause &&& 0xCFFFFFFF) ||| (z.setWidth 32 <<< 28)

/-- Cause after entry: BD only with EXL = 0 (R811), ExcCode always, CE for Coprocessor Unusable (R813). -/
def causeAfterEntry (e : Exception) (slot : Bool) (s : State) : Word :=
  let c := causeWithCode (if statusExl s then s.cp0.cause else setBit s.cp0.cause 31 slot) (excCode e)
  match e with
  | .coprocessorUnusable z => causeWithCe c z
  | _ => c

/-- EPC after entry (R811). -/
def epcAfterEntry (slot : Bool) (s : State) : Dword :=
  if statusExl s then s.cp0.epc else if slot then s.cpu.pc - 4 else s.cpu.pc

/-- BadVAddr after entry (R812). -/
def badVAddrAfterEntry (e : Exception) (s : State) : Dword :=
  match e with
  | .addressErrorLoad va => va
  | .addressErrorStore va => va
  | _ => s.cp0.badVAddr

/-- Exception entry `enter(E, info, slot)` (R810). -/
def enter (e : Exception) (slot : Bool) (s : State) : State :=
  { s with
    cp0.epc := epcAfterEntry slot s
    cp0.cause := causeAfterEntry e slot s
    cp0.badVAddr := badVAddrAfterEntry e s
    cp0.status := s.cp0.status ||| 2
    cpu.pc := vector s
    cpu.pending := none
    cpu.ds := false }

/-- `raise E` in the CPU step whose state is `s`: the meaning ends in exception entry (R411, R810). -/
def raise (e : Exception) (s : State) : Result := .next (enter e s.cpu.ds s)

/-! ## The CP0 registers (R534 to R539) -/

/-- Cause as it reads: IP2 is live (R51, R831). -/
def causeRead (s : State) : Word := setBit s.cp0.cause 10 (miPendingAndEnabled s)

/-- PRId as it reads: bits 31:16 are zero (R56), whatever PRID_VALUE holds there (notes/assumptions/27.md). -/
def pridRead (s : State) : Word := s.cfg.pridValue &&& 0x0000FFFF

/-- Config as it reads: BE, bit 15, is 1 (R57), whatever CONFIG_RESET holds there (notes/assumptions/27.md). -/
def configRead (s : State) : Word := s.cp0.config ||| 0x00008000

/-- The 64-bit CP0 registers, modelled or not (R536, R49). -/
def cp0Is64 (n : Reg) : Bool :=
  n == 2 || n == 3 || n == 4 || n == 8 || n == 10 || n == 14 || n == 20 || n == 30

/-- A modelled CP0 register's value; `none` for an unmodelled or reserved number (R49, R534). -/
def cp0Modelled (s : State) (n : Reg) : Option Dword :=
  if n = 8 then some s.cp0.badVAddr
  else if n = 9 then some (zext32 s.cp0.count)
  else if n = 11 then some (zext32 s.cp0.compare)
  else if n = 12 then some (zext32 s.cp0.status)
  else if n = 13 then some (zext32 (causeRead s))
  else if n = 14 then some s.cp0.epc
  else if n = 15 then some (zext32 (pridRead s))
  else if n = 16 then some (zext32 (configRead s))
  else if n = 17 then some (zext32 s.cp0.llAddr)
  else if n = 18 then some (zext32 s.cp0.watchLo)
  else if n = 19 then some (zext32 s.cp0.watchHi)
  else if n = 30 then some s.cp0.errorEpc
  else none

/-- `cp0read(n)` (R534): an unmodelled or reserved register reads a draw, a free value (notes/assumptions/5.md). -/
def cp0Read (s : State) (n : Reg) : Dword × State :=
  match cp0Modelled s n with
  | some v => (v, s)
  | none => (Config.cp0Draw n s.draws, { s with draws := s.draws + 1 })

/-- A write of Status (R539). -/
def setStatus (s : State) (v : Word) : State := { s with cp0.status := v &&& statusMask }

/-- R870 after a write of Status or an ERET. -/
def modeCheck (s : State) : Except Refusal State :=
  if kernelMode s then .ok s else .error .userOrSupervisorMode

/-- `cp0write(n, v)` (R539). -/
def cp0Write (s : State) (n : Reg) (v : Dword) : Except Refusal State :=
  if n = 9 then .ok { s with cp0.count := lo32 v }
  else if n = 11 then .ok { s with cp0.compare := lo32 v, cp0.cause := setBit s.cp0.cause 15 false }
  else if n = 12 then modeCheck (setStatus s (lo32 v))
  else if n = 13 then .ok { s with cp0.cause := (s.cp0.cause &&& 0xFFFFFCFF) ||| (lo32 v &&& 0x00000300) }
  else if n = 14 then .ok { s with cp0.epc := v }
  else if n = 16 then .ok { s with cp0.config := (lo32 v &&& 0x0000000F) ||| (s.cp0.config &&& 0xFFFFFFF0) }
  else if n = 17 then .ok { s with cp0.llAddr := lo32 v }
  else if n = 18 then
    if v.getLsbD 1 || v.getLsbD 0 then .error .watchEnabled else .ok { s with cp0.watchLo := lo32 v &&& 0xFFFFFFFB }
  else if n = 19 then .ok { s with cp0.watchHi := lo32 v &&& 0x0000000F }
  else if n = 30 then .ok { s with cp0.errorEpc := v }
  else .ok s

/-! ## Exception return (R540) -/

/-- The address ERET returns to. -/
def eretTarget (s : State) : Dword := if statusErl s then s.cp0.errorEpc else s.cp0.epc

/-- ERET's writes before its mode check: ERL or EXL cleared, LLbit cleared, the MI pending bits of ERET_MI_CLEAR
cleared. -/
def eretEffects (s : State) : State :=
  eretClearMi
    { s with
      cp0.status := if statusErl s then setBit s.cp0.status 2 false else setBit s.cp0.status 1 false
      cpu.llbit := false }

/-- The return from an exception: the effects, the mode check, then retire at the saved address (R540). -/
def exceptionReturn (s : State) : Result :=
  match modeCheck (eretEffects s) with
  | .error r => .refused r
  | .ok s' => .next (retireEret (eretTarget s) s')

/-! ## The timer (R861, R862) and the interrupt poll (R830) -/

/-- `count_tick()` (R861). -/
def countTick (s : State) : State :=
  if s.cpu.countPhase + 1 = s.cfg.countDiv then
    { s with
      cpu.countPhase := 0
      cp0.count := s.cp0.count + 1
      cp0.cause := if s.cp0.count + 1 = s.cp0.compare then setBit s.cp0.cause 15 true else s.cp0.cause }
  else { s with cpu.countPhase := s.cpu.countPhase + 1 }

/-- The interrupt lines, bit 7 to bit 0 (R830, R831). -/
def interruptLines (s : State) : BitVec 8 := (causeRead s).extractLsb' 8 8 &&& 0x87

/-- The interrupt condition (R832). -/
def interruptTaken (s : State) : Bool :=
  statusIe s && !statusExl s && !statusErl s && (interruptLines s &&& statusIm s) != 0

/-- `poll_interrupt()` (R830, R833). -/
def pollInterrupt (s : State) : State := if interruptTaken s then enter .interrupt false s else s

/-! ## The VectorUnit's retire (R634) -/

/-- Retire of outcome `Seq`. -/
def vuRetireSeq (s : State) : State :=
  { s with
    vu.pc := if s.vu.ds then s.vu.pending.getD (s.vu.pc + 4) else s.vu.pc + 4
    vu.pending := none
    vu.ds := false }

/-- Retire of outcome `Branch(taken, target)`. -/
def vuRetireBranch (taken : Bool) (target : BitVec 12) (s : State) : State :=
  { s with
    vu.pc := s.vu.pc + 4
    vu.pending := if taken then some target else none
    vu.ds := true }

/-- A VectorUnit meaning that ends in outcome `Seq` at state `s`. -/
def vuSeq (s : State) : Result := .next (vuRetireSeq s)

/-- BREAK after its retire (R637). -/
def vuBreak (s : State) : State :=
  let h := { s with sp.halt := true, sp.broke := true }
  if s.sp.intrOnBreak then miRaise h .sp else h

/-! ## The refusal mark (R12, R84) -/

/-- `s` after the agent whose turn it is refused: marked (R12, R84), and the tick ended with its number counted (R850).
What the refused step had written is not kept (notes/assumptions/1.md). -/
def refuse (why : Refusal) (s : State) : State :=
  { s with refused := some why, clock.tick := s.clock.tick + 1, clock.phase := .boundary }

/-- The machine after a step from `s` that answered `r`. A machine that is refused already stays as it is (R850). -/
def mark (s : State) (r : Result) : State :=
  match r with
  | .next s' => s'
  | .fault _ => s
  | .refused why => if s.refused.isSome then s else refuse why s

end Sys2Proof.Machine
end

