-- ==== Sys2Proof/Machine/Bus.lean ====
section
/-! DEFINITION. The bus (spec/20_memory.md R160 to R189): the region table, the peripheral registers, and the three bus
accesses `MemRead`, `MemWrite` and `MemWriteMasked`. -/

namespace Sys2Proof.Machine

/-! ## The region table (R170) -/

/-- The register groups, in the order of R170. -/
inductive RegGroup where
  | sp
  | spPc
  | dp
  | mi
  | vi
  | ai
  | pi
  | ri
  | si
  deriving DecidableEq, Repr

/-- What the bus finds at a physical address (R162). -/
inductive Region where
  | memory
  | rom
  | zeroRom
  /-- A register group, and the byte offset from its base. -/
  | registers (g : RegGroup) (offset : Nat)
  | unmapped
  deriving DecidableEq, Repr

/-- RDRAM_SIZE in bytes. -/
def rdramBytes : RdramSize → Nat
  | .mib4 => 0x400000
  | .mib8 => 0x800000

/-- The physical address of DMEM's first byte. -/
def dmemBase : Nat := 0x04000000
/-- The physical address of IMEM's first byte. -/
def imemBase : Nat := 0x04001000
/-- The physical address of PIF RAM's first byte. -/
def pifBase : Nat := 0x1FC007C0
/-- The physical address of the ROM's first byte. -/
def romBase : Nat := 0x10000000

/-- The first region that holds physical address `a` (R170, R171). -/
def region (size : RdramSize) (a : Nat) : Region :=
  if a < rdramBytes size then .memory
  else if 0x04000000 ≤ a ∧ a < 0x04002000 then .memory
  else if 0x04040000 ≤ a ∧ a < 0x04040020 then .registers .sp (a - 0x04040000)
  else if 0x04080000 ≤ a ∧ a < 0x04080008 then .registers .spPc (a - 0x04080000)
  else if 0x04100000 ≤ a ∧ a < 0x04100020 then .registers .dp (a - 0x04100000)
  else if 0x04300000 ≤ a ∧ a < 0x04300010 then .registers .mi (a - 0x04300000)
  else if 0x04400000 ≤ a ∧ a < 0x04400038 then .registers .vi (a - 0x04400000)
  else if 0x04500000 ≤ a ∧ a < 0x04500018 then .registers .ai (a - 0x04500000)
  else if 0x04600000 ≤ a ∧ a < 0x04600034 then .registers .pi (a - 0x04600000)
  else if 0x04700000 ≤ a ∧ a < 0x04700020 then .registers .ri (a - 0x04700000)
  else if 0x04800000 ≤ a ∧ a < 0x0480001C then .registers .si (a - 0x04800000)
  else if 0x10000000 ≤ a ∧ a < 0x1FC00000 then .rom
  else if 0x1FC00000 ≤ a ∧ a < 0x1FC007C0 then .zeroRom
  else if 0x1FC007C0 ≤ a ∧ a < 0x1FC00800 then .memory
  else .unmapped

/-! ## Register reads -/

/-- SP_STATUS as it reads (R174). -/
def spStatus (s : State) : Word :=
  (0 : BitVec 17) ++ s.sp.signal ++ bit 1 s.sp.intrOnBreak ++ bit 1 s.sp.sstep ++ (0 : BitVec 2) ++ bit 1 s.busy.sp ++
    bit 1 s.sp.broke ++ bit 1 s.sp.halt

/-- The length of the pending AI request, 0 if there is none (R182). -/
def aiLength (s : State) : Nat :=
  match s.dma.find? (fun r => r.owner == .ai) with
  | some r => r.len
  | none => 0

/-- The SP group (R173, R174). -/
def spRead (s : State) (off : Nat) : Word :=
  match off with
  | 0x00 => s.sp.memAddr.setWidth 32
  | 0x04 => s.sp.dramAddr.setWidth 32
  | 0x08 => s.sp.rdLen
  | 0x0C => s.sp.wrLen
  | 0x10 => spStatus s
  | 0x18 => bit 32 s.busy.sp
  | 0x1C => bit 32 s.sp.semaphore
  | _ => 0

/-- The SP PC group (R175). -/
def spPcRead (s : State) (off : Nat) : Word :=
  match off with
  | 0x00 => s.vu.pc.setWidth 32
  | _ => 0

/-- The DP group (R176). -/
def dpRead (s : State) (off : Nat) : Word :=
  match off with
  | 0x00 => s.rdp.dpcStart.setWidth 32
  | 0x04 => s.rdp.dpcEnd.setWidth 32
  | 0x08 => s.rdp.dpcCurrent.setWidth 32
  | 0x0C => 0x80 ||| bit 32 s.rdp.xbus
  | _ => 0

/-- The MI group (spec/60_exceptions.md R825). -/
def miRead (s : State) (off : Nat) : Word :=
  match off with
  | 0x00 => (0 : BitVec 22) ++ bit 1 s.mi.rdramReg ++ bit 1 s.mi.ebusTest ++ bit 1 s.mi.initMode ++ s.mi.initLength
  | 0x04 => 0x02020102
  | 0x08 => s.mi.intr.setWidth 32
  | 0x0C => s.mi.mask.setWidth 32
  | _ => 0

/-- The VI group (R180, R181). -/
def viRead (s : State) (off : Nat) : Word :=
  match off with
  | 0x00 => s.vi.control
  | 0x04 => s.vi.origin.setWidth 32
  | 0x08 => s.vi.width.setWidth 32
  | 0x0C => s.vi.vIntr.setWidth 32
  | 0x10 => BitVec.ofNat 32 (s.clock.framePhase % 1024)
  | 0x14 => s.vi.burst
  | 0x18 => s.vi.vSync.setWidth 32
  | 0x1C => s.vi.hSync
  | 0x20 => s.vi.leap
  | 0x24 => s.vi.hStart
  | 0x28 => s.vi.vStart
  | 0x2C => s.vi.vBurst
  | 0x30 => s.vi.xScale
  | 0x34 => s.vi.yScale
  | _ => 0

/-- The AI group (R182). -/
def aiRead (s : State) (off : Nat) : Word :=
  match off with
  | 0x00 => s.ai.dramAddr.setWidth 32
  | 0x04 => BitVec.ofNat 32 (aiLength s)
  | 0x08 => bit 32 s.ai.control
  | 0x0C => bit 32 s.busy.ai <<< 30
  | 0x10 => s.ai.dacrate.setWidth 32
  | 0x14 => s.ai.bitrate.setWidth 32
  | _ => 0

/-- The PI group (R184, R185). -/
def piRead (s : State) (off : Nat) : Word :=
  match off with
  | 0x00 => s.pi.dramAddr.setWidth 32
  | 0x04 => s.pi.cartAddr
  | 0x08 => s.pi.rdLen
  | 0x0C => s.pi.wrLen
  | 0x10 => (bit 32 (s.mi.intr.getLsbD 4) <<< 3) ||| bit 32 s.busy.pi
  | 0x14 => s.pi.dom1Lat.setWidth 32
  | 0x18 => s.pi.dom1Pwd.setWidth 32
  | 0x1C => s.pi.dom1Pgs.setWidth 32
  | 0x20 => s.pi.dom1Rls.setWidth 32
  | 0x24 => s.pi.dom2Lat.setWidth 32
  | 0x28 => s.pi.dom2Pwd.setWidth 32
  | 0x2C => s.pi.dom2Pgs.setWidth 32
  | 0x30 => s.pi.dom2Rls.setWidth 32
  | _ => 0

/-- The RI group (R187). -/
def riRead (s : State) (off : Nat) : Word :=
  match off with
  | 0x00 => s.ri.mode
  | 0x04 => s.ri.config
  | 0x08 => s.ri.currentLoad
  | 0x0C => s.ri.select
  | 0x10 => s.ri.refresh
  | 0x14 => s.ri.latency
  | 0x18 => s.ri.rError
  | 0x1C => s.ri.wError
  | _ => 0

/-- The SI group (R188). -/
def siRead (s : State) (off : Nat) : Word :=
  match off with
  | 0x00 => s.si.dramAddr.setWidth 32
  | 0x04 => s.si.rd64b
  | 0x10 => s.si.wr64b
  | 0x18 => (bit 32 (s.mi.intr.getLsbD 1) <<< 12) ||| bit 32 s.busy.si
  | _ => 0

/-- What a word read of the register at `off` returns. -/
def regValue (s : State) (g : RegGroup) (off : Nat) : Word :=
  match g with
  | .sp => spRead s off
  | .spPc => spPcRead s off
  | .dp => dpRead s off
  | .mi => miRead s off
  | .vi => viRead s off
  | .ai => aiRead s off
  | .pi => piRead s off
  | .ri => riRead s off
  | .si => siRead s off

/-- The state after a read of the register at `off`: reading SP_SEMAPHORE sets it (R174, R227). -/
def regReadEffect (s : State) (g : RegGroup) (off : Nat) : State :=
  if g = .sp ∧ off = 0x1C then { s with sp.semaphore := true } else s

/-! ## MemRead (R162) -/

/-- The ROM byte at offset `o` (R162). -/
def romByte (c : Config) (o : Nat) : Byte := if o < c.romSize then Store.get 0 c.rom o else 0

/-- `n` ROM bytes from offset `o`, big-endian. -/
def romRead (c : Config) (o : Nat) : Nat → Dword
  | 0 => 0
  | n + 1 => (romRead c o n <<< 8) ||| (romByte c (o + n)).setWidth 64

/-- The part of a register's word that an access of `n` bytes at byte offset `off` sees (R162). -/
def subWord (w : Word) (off n : Nat) : Dword :=
  if n = 4 then zext32 w
  else if n = 2 then (w.extractLsb' (16 - 16 * (off / 2 % 2)) 16).setWidth 64
  else (w.extractLsb' (24 - 8 * (off % 4)) 8).setWidth 64

/-- `MemRead(pa, n)` for n at most 4. -/
def memReadSmall (s : State) (pa : Word) (n : Nat) : Dword × State :=
  match region s.cfg.rdramSize pa.toNat with
  | .memory => (Memory.read s.mem pa.toNat n, s)
  | .rom => (romRead s.cfg (pa.toNat - romBase) n, s)
  | .zeroRom => (0, s)
  | .registers g off =>
    (subWord (regValue s g (off / 4 * 4)) off n, regReadEffect s g (off / 4 * 4))
  | .unmapped => (0, s)

/-- `MemRead(pa, n)` (R162): the value, and the state, which only a read of SP_SEMAPHORE changes. -/
def memRead (s : State) (pa : Word) (n : Nat) : Dword × State :=
  match region s.cfg.rdramSize pa.toNat with
  | .memory => (Memory.read s.mem pa.toNat n, s)
  | .rom => (romRead s.cfg (pa.toNat - romBase) n, s)
  | .zeroRom => (0, s)
  | .registers _ _ =>
    if n = 8 then
      let a := memReadSmall s pa 4
      let b := memReadSmall a.2 (pa + 4) 4
      ((a.1 <<< 32) ||| b.1, b.2)
    else memReadSmall s pa n
  | .unmapped => (0, s)

/-! ## DMA creation (R201 to R203) -/

/-- busy[owner]. -/
def busy (s : State) (o : DmaOwner) : Bool :=
  match o with
  | .pi => s.busy.pi
  | .si => s.busy.si
  | .ai => s.busy.ai
  | .sp => s.busy.sp

/-- busy[owner] <- b. -/
def setBusy (s : State) (o : DmaOwner) (b : Bool) : State :=
  match o with
  | .pi => { s with busy.pi := b }
  | .si => { s with busy.si := b }
  | .ai => { s with busy.ai := b }
  | .sp => { s with busy.sp := b }

/-- The creation of a DmaRequest by a trigger write (R202, R203): none while the peripheral is busy. -/
def startDma (s : State) (o : DmaOwner) (src dst : DmaPlace) (len rows skip : Nat) : State :=
  if busy s o then s
  else
    let s' := setBusy s o true
    { s' with dma := s'.dma ++ [{
        owner := o, src := src, dst := dst, len := len, rows := rows, skip := skip,
        deadline := s'.clock.tick + s'.cfg.dmaDelayTicks }] }

/-- The SPMEM place of SP_MEM_ADDR (R71, R203). -/
def spMemPlace (s : State) : DmaPlace := .spMem (s.sp.memAddr.getLsbD 12) (s.sp.memAddr.setWidth 12)

/-- len of an SP request (R203). -/
def spDmaLen (v : Word) : Nat := ((v.setWidth 12).toNat ||| 7) + 1
/-- rows of an SP request (R203). -/
def spDmaRows (v : Word) : Nat := (v.extractLsb' 12 8).toNat + 1
/-- skip of an SP request (R203). -/
def spDmaSkip (v : Word) : Nat := (v.extractLsb' 20 12).toNat

/-- The length of a PI request (R203). -/
def piDmaLen (v : Word) : Nat := (v.setWidth 24).toNat + 1

/-! ## Register writes -/

/-- A write of SP_STATUS (R174). -/
def spStatusWrite (s : State) (v : Word) : State :=
  { s with
    sp.halt := clearSet s.sp.halt (v.getLsbD 0) (v.getLsbD 1)
    sp.broke := s.sp.broke && !v.getLsbD 2
    sp.sstep := clearSet s.sp.sstep (v.getLsbD 5) (v.getLsbD 6)
    sp.intrOnBreak := clearSet s.sp.intrOnBreak (v.getLsbD 7) (v.getLsbD 8)
    sp.signal := clearSetBits s.sp.signal v 9 8
    mi.intr := setBit s.mi.intr 0 (clearSet (s.mi.intr.getLsbD 0) (v.getLsbD 3) (v.getLsbD 4)) }

/-- The SP group (R173, R174). -/
def spWrite (s : State) (off : Nat) (v : Word) : State :=
  match off with
  | 0x00 => { s with sp.memAddr := (v &&& 0x1FF8).setWidth 13 }
  | 0x04 => { s with sp.dramAddr := (v &&& 0x00FFFFF8).setWidth 24 }
  | 0x08 =>
    let s' := { s with sp.rdLen := v }
    if v = 0 then s'
    else startDma s' .sp (.rdram (s'.sp.dramAddr.setWidth 32)) (spMemPlace s') (spDmaLen v) (spDmaRows v) (spDmaSkip v)
  | 0x0C =>
    let s' := { s with sp.wrLen := v }
    if v = 0 then s'
    else startDma s' .sp (spMemPlace s') (.rdram (s'.sp.dramAddr.setWidth 32)) (spDmaLen v) (spDmaRows v) (spDmaSkip v)
  | 0x10 => spStatusWrite s v
  | 0x1C => { s with sp.semaphore := false }
  | _ => s

/-- The SP PC group (R175). -/
def spPcWrite (s : State) (off : Nat) (v : Word) : State :=
  match off with
  | 0x00 => { s with vu.pc := (v &&& 0xFFC).setWidth 12, vu.pending := none, vu.ds := false }
  | _ => s

/-- The command word at `a` (R177): from RDRAM through the bus, or from DMEM while XBUS is set. A 24-bit address never
reaches a register group, so the read has no effect. -/
def commandWord (s : State) (a : Nat) : Dword :=
  if s.rdp.xbus then Memory.read s.mem (dmemBase + a % 4096 / 8 * 8) 8 else (memRead s (BitVec.ofNat 32 a) 8).1

/-- The words from `cur` up to `e` (R177). -/
def commandWords (s : State) (cur e : Nat) : List Dword :=
  (List.range ((e - cur + 7) / 8)).map (fun k => commandWord s (cur + 8 * k))

/-- A write of DPC_END: the submission (R177, spec/48_rasterizer.md R1000). -/
def dpcEndWrite (s : State) (e : BitVec 24) : State :=
  { s with
    rdp.dpcEnd := e
    rdp.dpcCurrent := e
    rdp.stream := s.rdp.stream ++ commandWords s s.rdp.dpcCurrent.toNat e.toNat }

/-- The DP group (R176). -/
def dpWrite (s : State) (off : Nat) (v : Word) : State :=
  match off with
  | 0x00 => { s with
      rdp.dpcStart := (v &&& 0x00FFFFF8).setWidth 24
      rdp.dpcCurrent := (v &&& 0x00FFFFF8).setWidth 24 }
  | 0x04 => dpcEndWrite s ((v &&& 0x00FFFFF8).setWidth 24)
  | 0x0C => { s with rdp.xbus := clearSet s.rdp.xbus (v.getLsbD 0) (v.getLsbD 1) }
  | _ => s

/-- The MI group (spec/60_exceptions.md R825). -/
def miWrite (s : State) (off : Nat) (v : Word) : State :=
  match off with
  | 0x00 => { s with
      mi.initLength := v.setWidth 7
      mi.initMode := clearSet s.mi.initMode (v.getLsbD 7) (v.getLsbD 8)
      mi.ebusTest := clearSet s.mi.ebusTest (v.getLsbD 9) (v.getLsbD 10)
      mi.rdramReg := clearSet s.mi.rdramReg (v.getLsbD 12) (v.getLsbD 13)
      mi.intr := if v.getLsbD 11 then setBit s.mi.intr 5 false else s.mi.intr }
  | 0x08 => { s with mi.intr := s.mi.intr &&& ~~~(v.setWidth 6) }
  | 0x0C => { s with mi.mask := clearSetBits s.mi.mask v 0 6 }
  | _ => s

/-- The VI group (R180, R181). -/
def viWrite (s : State) (off : Nat) (v : Word) : State :=
  match off with
  | 0x00 => { s with vi.control := v }
  | 0x04 => { s with vi.origin := v.setWidth 24 }
  | 0x08 => { s with vi.width := v.setWidth 12 }
  | 0x0C => { s with vi.vIntr := v.setWidth 10 }
  | 0x10 => miAck s .vi
  | 0x14 => { s with vi.burst := v }
  | 0x18 => { s with vi.vSync := v.setWidth 10 }
  | 0x1C => { s with vi.hSync := v }
  | 0x20 => { s with vi.leap := v }
  | 0x24 => { s with vi.hStart := v }
  | 0x28 => { s with vi.vStart := v }
  | 0x2C => { s with vi.vBurst := v }
  | 0x30 => { s with vi.xScale := v }
  | 0x34 => { s with vi.yScale := v }
  | _ => s

/-- The AI group (R182). -/
def aiWrite (s : State) (off : Nat) (v : Word) : State :=
  match off with
  | 0x00 => { s with ai.dramAddr := (v &&& 0x00FFFFF8).setWidth 24 }
  | 0x04 =>
    let s' := { s with ai.len := (v &&& 0x3FFF8).setWidth 18 }
    if s'.ai.len = 0 then s' else startDma s' .ai (.rdram (s'.ai.dramAddr.setWidth 32)) .audio s'.ai.len.toNat 1 0
  | 0x08 => { s with ai.control := v.getLsbD 0 }
  | 0x0C => miAck s .ai
  | 0x10 => { s with ai.dacrate := v.setWidth 14 }
  | 0x14 => { s with ai.bitrate := v.setWidth 4 }
  | _ => s

/-- The PI group (R184, R185). -/
def piWrite (s : State) (off : Nat) (v : Word) : State :=
  match off with
  | 0x00 => { s with pi.dramAddr := (v &&& 0x00FFFFFE).setWidth 24 }
  | 0x04 => { s with pi.cartAddr := v &&& 0xFFFFFFFE }
  | 0x08 =>
    let s' := { s with pi.rdLen := v }
    if v = 0 then s'
    else startDma s' .pi (.rdram (s'.pi.dramAddr.setWidth 32)) (.cart s'.pi.cartAddr) (piDmaLen v) 1 0
  | 0x0C =>
    let s' := { s with pi.wrLen := v }
    if v = 0 then s'
    else startDma s' .pi (.cart s'.pi.cartAddr) (.rdram (s'.pi.dramAddr.setWidth 32)) (piDmaLen v) 1 0
  | 0x10 => if v.getLsbD 1 then miAck s .pi else s
  | 0x14 => { s with pi.dom1Lat := v.setWidth 8 }
  | 0x18 => { s with pi.dom1Pwd := v.setWidth 8 }
  | 0x1C => { s with pi.dom1Pgs := (v &&& 0xF).setWidth 8 }
  | 0x20 => { s with pi.dom1Rls := (v &&& 0x3).setWidth 8 }
  | 0x24 => { s with pi.dom2Lat := v.setWidth 8 }
  | 0x28 => { s with pi.dom2Pwd := v.setWidth 8 }
  | 0x2C => { s with pi.dom2Pgs := (v &&& 0xF).setWidth 8 }
  | 0x30 => { s with pi.dom2Rls := (v &&& 0x3).setWidth 8 }
  | _ => s

/-- The RI group (R187). -/
def riWrite (s : State) (off : Nat) (v : Word) : State :=
  match off with
  | 0x00 => { s with ri.mode := v }
  | 0x04 => { s with ri.config := v }
  | 0x08 => { s with ri.currentLoad := v }
  | 0x0C => { s with ri.select := v }
  | 0x10 => { s with ri.refresh := v }
  | 0x14 => { s with ri.latency := v }
  | 0x18 => { s with ri.rError := v }
  | 0x1C => { s with ri.wError := v }
  | _ => s

/-- The SI group (R188, R189). -/
def siWrite (s : State) (off : Nat) (v : Word) : State :=
  match off with
  | 0x00 => { s with si.dramAddr := (v &&& 0x00FFFFF8).setWidth 24 }
  | 0x04 =>
    let s' := { s with si.rd64b := v }
    startDma s' .si .pif (.rdram (s'.si.dramAddr.setWidth 32)) 64 1 0
  | 0x10 =>
    let s' := { s with si.wr64b := v }
    startDma s' .si (.rdram (s'.si.dramAddr.setWidth 32)) .pif 64 1 0
  | 0x18 => miAck s .si
  | _ => s

/-- A word write of the register at `off`. -/
def regWrite (s : State) (g : RegGroup) (off : Nat) (v : Word) : State :=
  match g with
  | .sp => spWrite s off v
  | .spPc => spPcWrite s off v
  | .dp => dpWrite s off v
  | .mi => miWrite s off v
  | .vi => viWrite s off v
  | .ai => aiWrite s off v
  | .pi => piWrite s off v
  | .ri => riWrite s off v
  | .si => siWrite s off v

/-! ## MemWrite (R163) and MemWriteMasked (R165) -/

/-- A word write of the low 32 bits of `v` (R163). -/
def memWriteWord (s : State) (pa : Word) (v : Dword) : State :=
  match region s.cfg.rdramSize pa.toNat with
  | .memory => { s with mem := Memory.write s.mem pa.toNat v 4 }
  | .registers g off => regWrite s g off (lo32 v)
  | .rom | .zeroRom | .unmapped => s

/-- `MemWrite(pa, n, v)` (R163), `v` in the low 8 n bits. -/
def memWrite (s : State) (pa : Word) (n : Nat) (v : Dword) : Except Refusal State :=
  match region s.cfg.rdramSize pa.toNat with
  | .memory => .ok { s with mem := Memory.write s.mem pa.toNat v n }
  | .registers g off =>
    if n = 8 then .ok (memWriteWord (memWriteWord s pa (v >>> 32)) (pa + 4) v)
    else if n = 4 then .ok (regWrite s g off (lo32 v))
    else .error .subWordRegisterWrite
  | .rom | .zeroRom | .unmapped => .ok s

/-- `MemWriteMasked(pa, n, v, m)` (R165), n being 4 or 8 and the mask in the low n bits of `m`. -/
def memWriteMasked (s : State) (pa : Word) (n : Nat) (v : Dword) (m : Byte) : Except Refusal State :=
  match region s.cfg.rdramSize pa.toNat with
  | .memory => .ok { s with mem := Memory.writeMasked s.mem pa.toNat v m n }
  | .registers _ _ =>
    if m.toNat % 2 ^ n = 2 ^ n - 1 then memWrite s pa n v else .error .partialRegisterWrite
  | .rom | .zeroRom | .unmapped => .ok s

end Sys2Proof.Machine
end

