-- ==== Sys2Proof/Machine/Operands.lean ====
section
/-! DEFINITION. Operand forms: effective addresses and their checks (spec/20_memory.md R140 to R152,
spec/43_load_store.md R460 to R462), branch and jump targets, the FPU register views (spec/45_fpu.md R571), the
VectorUnit's DMEM access, byte image and element selection (spec/46_vector_unit.md, spec/47_vector_ops.md). -/

namespace Sys2Proof.Machine

/-! ## Address translation (R140, R141) -/

/-- What an access is for (R141). -/
inductive Access where
  | fetch
  | load
  | store
  deriving DecidableEq, Repr

/-- The outcome of `Translate`. -/
inductive Translated where
  | physical (pa : Word)
  | exception (e : Exception)
  | refusal (r : Refusal)
  deriving DecidableEq, Repr

/-- The address error of an access (R140, R150, R151). -/
def addressError (k : Access) (va : Dword) : Exception :=
  match k with
  | .store => .addressErrorStore va
  | .fetch | .load => .addressErrorLoad va

/-- `Translate(va, kind)` (R141). -/
def translateVa (s : State) (k : Access) (va : Dword) : Translated :=
  let a := lo32 va
  if statusKx s then .refusal .kernel64Addressing
  else if va ≠ sext32 a then .exception (addressError k va)
  else if a < 0x80000000 then (if statusErl s then .physical a else .refusal (.tlbMappedSegment .kuseg))
  else if a < 0xA0000000 then .physical (a - 0x80000000)
  else if a < 0xC0000000 then .physical (a - 0xA0000000)
  else if a < 0xE0000000 then .refusal (.tlbMappedSegment .ksseg)
  else .refusal (.tlbMappedSegment .kseg3)

/-- Translation as a phase of a meaning: what follows, an exception, or a refusal. -/
def translated (s : State) (k : Access) (va : Dword) (next : Word → Result) : Result :=
  match translateVa s k va with
  | .physical pa => next pa
  | .exception e => raise e s
  | .refusal r => .refused r

/-! ## Loads and stores of the CPU -/

/-- The effective address (R460). -/
def effective (s : State) (base : Reg) (offset : BitVec 16) : Dword := gpr s base + sext16 offset

/-- An aligned load of `n` bytes up to its access (R461): `next` receives the physical address, the value and the state
after the read. -/
def loadAt (n : Nat) (va : Dword) (s : State) (next : Word → Dword → State → Result) : Result :=
  if va.toNat % n ≠ 0 then raise (.addressErrorLoad va) s
  else translated s .load va fun pa => next pa (memRead s pa n).1 (memRead s pa n).2

/-- An aligned load that has no use for the physical address. -/
def loadFrom (n : Nat) (va : Dword) (s : State) (next : Dword → State → Result) : Result :=
  loadAt n va s fun _ v s' => next v s'

/-- The end of a write that can be refused: the state after it, or its refusal. -/
def stored (w : Except Refusal State) (next : State → Result) : Result :=
  match w with
  | .ok s => next s
  | .error r => .refused r

/-- The checks of an aligned store of `n` bytes (R462): `next` receives the physical address. -/
def storeAt (n : Nat) (va : Dword) (s : State) (next : Word → Result) : Result :=
  if va.toNat % n ≠ 0 then raise (.addressErrorStore va) s else translated s .store va next

/-- An aligned store of the low `8 n` bits of `v` (R462). -/
def storeTo (n : Nat) (va : Dword) (v : Dword) (s : State) (next : State → Result) : Result :=
  storeAt n va s fun pa => stored (memWrite s pa n v) next

/-- The naturally aligned unit of `n` bytes that holds `pa` (R479). -/
def alignedUnit (pa : Word) (n : Nat) : Word := BitVec.ofNat 32 (pa.toNat / n * n)

/-- The byte index k of `pa` within its unit of `n` bytes (R479). -/
def byteIndex (pa : Word) (n : Nat) : Nat := pa.toNat % n

/-- An unaligned-access load (R479): `next` receives the unit, the byte index and the state after the read. -/
def loadUnit (n : Nat) (va : Dword) (s : State) (next : Dword → Nat → State → Result) : Result :=
  translated s .load va fun pa =>
    next (memRead s (alignedUnit pa n) n).1 (byteIndex pa n) (memRead s (alignedUnit pa n) n).2

/-- An unaligned-access store (R479): `value` and `mask` are given the byte index. -/
def storeUnit (n : Nat) (va : Dword) (value : Nat → Dword) (mask : Nat → Byte) (s : State) : Result :=
  translated s .store va fun pa =>
    stored (memWriteMasked s (alignedUnit pa n) n (value (byteIndex pa n)) (mask (byteIndex pa n))) seq

/-- LWL's merge (R480): the word `m`, the byte index k, the old register's low word. -/
def mergeLwl (m : Word) (k : Nat) (old : Word) : Word := (m <<< (8 * k)) ||| (old &&& ~~~((0xFFFFFFFF : Word) <<< (8 * k)))

/-- LWR's merge (R481). -/
def mergeLwr (m : Word) (k : Nat) (old : Word) : Word :=
  (old &&& ~~~((0xFFFFFFFF : Word) >>> (8 * (3 - k)))) ||| (m >>> (8 * (3 - k)))

/-- LDL's merge (R482). -/
def mergeLdl (m : Dword) (k : Nat) (old : Dword) : Dword :=
  (m <<< (8 * k)) ||| (old &&& ~~~((0xFFFFFFFFFFFFFFFF : Dword) <<< (8 * k)))

/-- LDR's merge (R483). -/
def mergeLdr (m : Dword) (k : Nat) (old : Dword) : Dword :=
  (old &&& ~~~((0xFFFFFFFFFFFFFFFF : Dword) >>> (8 * (7 - k)))) ||| (m >>> (8 * (7 - k)))

/-! ## Branches and jumps of the CPU -/

/-- The target of a PC-relative branch at `pc` (R412). -/
def branchTarget (pc : Dword) (imm : BitVec 16) : Dword := (pc + 4) + (sext16 imm <<< 2)

/-- The target of J and JAL at `pc` (R436). -/
def jumpTarget (pc : Dword) (target : BitVec 26) : Dword :=
  (pc + 4).extractLsb' 28 36 ++ target ++ (0 : BitVec 2)

/-- The link value (R416). -/
def linkAddress (s : State) : Dword := s.cpu.pc + 8

/-- R413: a control transfer in a delay slot is refused. -/
def controlTransfer (s : State) (r : Result) : Result := if s.cpu.ds then .refused .controlTransferInDelaySlot else r

/-- R418: a link register that is also a source is refused. -/
def linkNotSource (clash : Bool) (r : Result) : Result := if clash then .refused .linkRegisterIsSource else r

/-- A conditional branch (R419). -/
def branchOn (taken : Bool) (imm : BitVec 16) (likely : Bool) (s : State) : Result :=
  controlTransfer s (.next (retireBranch taken (branchTarget s.cpu.pc imm) likely s))

/-- A conditional branch that links r31 (R416, R426). -/
def branchLinkOn (taken : Bool) (rs : Reg) (imm : BitVec 16) (likely : Bool) (s : State) : Result :=
  controlTransfer s (linkNotSource (rs == 31)
    (.next (retireBranch taken (branchTarget s.cpu.pc imm) likely (setGpr s 31 (linkAddress s)))))

/-- The CPU instructions whose outcome is `Branch` (R411): after one of them there is no interrupt poll. -/
def isBranch : Instr → Bool
  | .beq .. | .bne .. | .blez .. | .bgtz .. | .beql .. | .bnel .. | .blezl .. | .bgtzl .. | .bltz .. | .bgez ..
  | .bltzl .. | .bgezl .. | .bltzal .. | .bgezal .. | .bltzall .. | .bgezall .. | .j .. | .jal .. | .jr .. | .jalr ..
  | .bc1f .. | .bc1t .. | .bc1fl .. | .bc1tl .. => true
  | _ => false

/-! ## The FPU's operand views (R571) -/

/-- Whether register `i` can be a 64-bit operand. -/
def fprDwordOk (s : State) (i : Reg) : Bool := statusFr s || !i.getLsbD 0

/-- The even register that holds odd register `i`'s word when FR = 0. -/
def fprPair (i : Reg) : Reg := i &&& 0x1E

/-- `fpr32(i)`. -/
def fpr32 (s : State) (i : Reg) : Word :=
  if fprDwordOk s i then lo32 (fpr s i) else hi32 (fpr s (fprPair i))

/-- `write32(i, v)`. -/
def writeFpr32 (s : State) (i : Reg) (v : Word) : State :=
  if fprDwordOk s i then setFpr s i (hi32 (fpr s i) ++ v)
  else setFpr s (fprPair i) (v ++ lo32 (fpr s (fprPair i)))

/-- `fpr64(i)`, for a register that can be a 64-bit operand. -/
def fpr64 (s : State) (i : Reg) : Dword := fpr s i

/-- `write64(i, v)`, for a register that can be a 64-bit operand. -/
def writeFpr64 (s : State) (i : Reg) (v : Dword) : State := setFpr s i v

/-- R571: the refusal of an odd 64-bit operand with FR = 0, before any effect. -/
def dwordFpr (s : State) (i : Reg) (r : Result) : Result := if fprDwordOk s i then r else .refused .oddFprAsDword

/-- R570: a CP1 instruction with CU1 = 0 raises Coprocessor Unusable. -/
def withCp1 (s : State) (r : Result) : Result := if statusCu1 s then r else raise (.coprocessorUnusable 1) s

/-! ## The VectorUnit's scalar operands (R636, R638, R639) -/

/-- The low 8 n bits at DMEM address `a`, each byte wrapping on its own (`dmem_read`). -/
def dmemRead (s : State) (a : Word) : Nat → Word
  | 0 => 0
  | n + 1 => (dmemRead s a n <<< 8) ||| (Memory.byte s.mem (dmemBase + (a.toNat + n) % 4096)).setWidth 32

/-- One DMEM byte. -/
def setDmemByte (s : State) (a : Nat) (b : Byte) : State :=
  { s with mem := Memory.setByte s.mem (dmemBase + a % 4096) b }

/-- `dmem_write(a, n, v)`. -/
def dmemWrite (s : State) (a : Word) (v : Word) : Nat → State
  | 0 => s
  | n + 1 => dmemWrite (setDmemByte s (a.toNat + n) (v.setWidth 8)) a (v >>> 8) n

/-- The address of a scalar load or store. -/
def vuEffective (s : State) (base : Reg) (offset : BitVec 16) : Word := sr s base + sext16To32 offset

/-- A VectorUnit branch target. -/
def vuBranchTarget (pc : BitVec 12) (imm : BitVec 16) : BitVec 12 := (pc + 4) + (imm.setWidth 12 <<< 2)

/-- A VectorUnit J or JAL target. -/
def vuJumpTarget (target : BitVec 26) : BitVec 12 := target.setWidth 12 <<< 2

/-- A VectorUnit JR or JALR target. -/
def vuRegisterTarget (v : Word) : BitVec 12 := v.setWidth 12 &&& 0xFFC

/-- A VectorUnit link value. -/
def vuLink (s : State) : Word := (s.vu.pc + 8).setWidth 32

/-- A VectorUnit branch or jump: refused in a delay slot (R634). -/
def vuControlTransfer (s : State) (r : Result) : Result := if s.vu.ds then .refused .vectorUnitBranchInDelaySlot else r

/-- R639: a link register that is also a source is refused. -/
def vuLinkNotSource (clash : Bool) (r : Result) : Result :=
  if clash then .refused .vectorUnitLinkRegisterIsSource else r

/-- A VectorUnit conditional branch. -/
def vuBranchOn (taken : Bool) (imm : BitVec 16) (s : State) : Result :=
  vuControlTransfer s (.next (vuRetireBranch taken (vuBranchTarget s.vu.pc imm) s))

/-- A VectorUnit conditional branch that links sr[31]. -/
def vuBranchLinkOn (taken : Bool) (rs : Reg) (imm : BitVec 16) (s : State) : Result :=
  vuControlTransfer s (vuLinkNotSource (rs == 31)
    (.next (vuRetireBranch taken (vuBranchTarget s.vu.pc imm) (setSr s 31 (vuLink s)))))

/-- The physical address of the VectorUnit's coprocessor-0 register `rd` (R687); `none` for 16 to 31. -/
def vuCop0Address (rd : Reg) : Option Word :=
  if rd < 8 then some (0x04040000 + (rd.setWidth 32 <<< 2))
  else if rd < 16 then some (0x04100000 + ((rd - 8).setWidth 32 <<< 2))
  else none

/-! ## The VectorUnit's vector operands (R689, R694, R721) -/

/-- Byte `b` of a vector register's image (R689); `b` is taken modulo 16. -/
def imgByte (v : Vector Half 8) (b : Nat) : Byte :=
  let lane := v[b % 16 / 2]'(by omega)
  if b % 2 = 0 then lane.extractLsb' 8 8 else lane.extractLsb' 0 8

/-- A vector register with byte `b` of its image set. -/
def setImgByte (v : Vector Half 8) (b : Nat) (x : Byte) : Vector Half 8 :=
  let lane := v[b % 16 / 2]'(by omega)
  v.set (b % 16 / 2) (if b % 2 = 0 then x ++ lane.extractLsb' 0 8 else lane.extractLsb' 8 8 ++ x) (by omega)

/-- The address of a vector transfer (R694). -/
def vectorAddress (s : State) (base : Reg) (offset : BitVec 7) (size : Nat) : Word :=
  sr s base + offset.signExtend 32 * BitVec.ofNat 32 size

/-- `n` bytes loaded into the image of `v` from element `e` on; bytes past element 15 are dropped (R696). -/
def loadImage (s : State) (a : Word) (e : Nat) (v : Vector Half 8) : Nat → Vector Half 8
  | 0 => v
  | n + 1 =>
    let v' := loadImage s a e v n
    if e + n < 16 then setImgByte v' (e + n) (Memory.byte s.mem (dmemBase + (a.toNat + n) % 4096)) else v'

/-- `n` bytes stored from the image of `v` from element `e` on, the element index wrapping (R701). -/
def storeImage (s : State) (a : Word) (e : Nat) (v : Vector Half 8) : Nat → State
  | 0 => s
  | n + 1 => setDmemByte (storeImage s a e v n) (a.toNat + n) (imgByte v (e + n))

/-- How many bytes of its 16-byte block LQV and SQV move (R699). -/
def quadCount (a : Word) : Nat := 16 - a.toNat % 16

/-- A vector load of up to `n` bytes. -/
def vectorLoad (n : Nat) (a : Word) (vt : Reg) (e : BitVec 4) (s : State) : Result :=
  vuSeq (setVr s vt (loadImage s a e.toNat (vr s vt) n))

/-- A vector store of `n` bytes. -/
def vectorStore (n : Nat) (a : Word) (vt : Reg) (e : BitVec 4) (s : State) : Result :=
  vuSeq (storeImage s a e.toNat (vr s vt) n)

/-- `sel(e, l)` (R721). -/
def element (e : BitVec 4) (l : Nat) : Nat :=
  if e.toNat < 2 then l % 8
  else if e.toNat < 4 then l % 8 / 2 * 2 + e.toNat % 2
  else if e.toNat < 8 then l % 8 / 4 * 4 + e.toNat % 4
  else e.toNat % 8

/-- Lane `l` of a vector register. -/
def lane (v : Vector Half 8) (l : Nat) : Half := v[l % 8]'(by omega)

/-- The vector whose lane l is `f l`. -/
def lanes {α : Type} (f : Nat → α) : Vector α 8 := #v[f 0, f 1, f 2, f 3, f 4, f 5, f 6, f 7]

/-- The flag vector whose bit l is `f l`. -/
def laneBits (f : Nat → Bool) : BitVec 8 :=
  bit 1 (f 7) ++ bit 1 (f 6) ++ bit 1 (f 5) ++ bit 1 (f 4) ++ bit 1 (f 3) ++ bit 1 (f 2) ++ bit 1 (f 1) ++ bit 1 (f 0)

end Sys2Proof.Machine
end

