-- ==== Sys2Proof/Machine/Flags.lean ====
section
/-! DEFINITION. Flag computations: integer overflow (spec/40_integer_alu.md R301), the FCR31 fields
(spec/10_state.md R63), saturation and the vector condition flags (spec/47_vector_ops.md R722, R723). -/

namespace Sys2Proof.Machine

/-! ## Integer overflow (R301) -/

/-- The exact integer `r` does not fit in `n` bits, two's complement. -/
def overflows (n : Nat) (r : Int) : Bool := decide (r < -(2 ^ (n - 1) : Int)) || decide ((2 ^ (n - 1) : Int) - 1 < r)

/-- The end of an overflow-checked instruction of width `n`: the exact result `r`, the value written, the destination. -/
def checked (n : Nat) (r : Int) (rd : Reg) (v : Dword) (s : State) : Result :=
  if overflows n r then raise .integerOverflow s else seq (setGpr s rd v)

/-! ## 32-bit operations (R300) -/

/-- A sign-extended 32-bit value. -/
def isSext32 (v : Dword) : Bool := v == sext32 (lo32 v)

/-- R300: NONSEXT32 applied to the register operands of a 32-bit operation. -/
def on32 (s : State) (operands : List Dword) (r : Result) : Result :=
  match s.cfg.nonSext32 with
  | .low32 => r
  | .refuse => if operands.all isSext32 then r else .refused .nonSignExtendedOperand

/-! ## FCR31 (R63, R574) -/

/-- FCR31.RM. -/
def fcrRm (f : Word) : BitVec 2 := f.extractLsb' 0 2
/-- FCR31.Flags: V Z O U I from bit 4 to bit 0. -/
def fcrFlags (f : Word) : BitVec 5 := f.extractLsb' 2 5
/-- FCR31.Enable, in the same order. -/
def fcrEnable (f : Word) : BitVec 5 := f.extractLsb' 7 5
/-- FCR31.Cause: E V Z O U I from bit 5 to bit 0. -/
def fcrCause (f : Word) : BitVec 6 := f.extractLsb' 12 6
/-- FCR31.C. -/
def fcrC (f : Word) : Bool := f.getLsbD 23
/-- FCR31.FS. -/
def fcrFs (f : Word) : Bool := f.getLsbD 24

/-- FCR31 with Cause replaced. -/
def fcrWithCause (f : Word) (c : BitVec 6) : Word := (f &&& 0xFFFC0FFF) ||| (c.setWidth 32 <<< 12)
/-- FCR31 with `flags` added to Flags. -/
def fcrAddFlags (f : Word) (flags : BitVec 5) : Word := f ||| (flags.setWidth 32 <<< 2)
/-- FCR31 with C replaced. -/
def fcrWithC (f : Word) (c : Bool) : Word := setBit f 23 c

/-- The bits of FCR31 that exist (R63, R577). -/
def fcr31Mask : Word := 0x0183FFFF

/-- A value of FCR31 that raises when CTC1 writes it (R577). -/
def fcrRaises (f : Word) : Bool :=
  (fcrCause f).getLsbD 5 || ((fcrCause f).setWidth 5 &&& fcrEnable f) != 0

/-! ## Saturation and vector flags (R722, R723) -/

/-- `clamp16`. -/
def clamp16 (n : Int) : Half := BitVec.ofInt 16 (clamp (-32768) 32767 n)

/-- `sat48`. -/
def sat48 (n : Int) : BitVec 48 := BitVec.ofInt 48 (clamp (-(2 ^ 47)) (2 ^ 47 - 1) n)

/-- The full result does not fit in 16 bits (R725). -/
def saturates (n : Int) : Bool := decide (n < -32768) || decide (32767 < n)

/-- The two operands of lane `l` (R721, R722). -/
def laneOperands (s : State) (vs vt : Reg) (e : BitVec 4) (l : Nat) : Half × Half :=
  (lane (vr s vs) l, lane (vr s vt) (element e l))

/-- The lane pattern (R722) without its flags: every lane of the accumulator and of vd from the full results. -/
def laneResults (full : Nat → Int) (vd : Reg) (s : State) : State :=
  { setVr s vd (lanes fun l => clamp16 (full l)) with vu.acc := lanes fun l => sat48 (full l) }

/-- The flags of VADD, VSUB and the four compares: VCC overwritten, VCO cleared, VCE unchanged. -/
def setCompareFlags (s : State) (f : Nat → Bool) : State := { s with vu.vcc := laneBits f, vu.vco := 0 }

/-- A lane-wise operation that defines no flag. -/
def vectorOp (f : Half → Half → Int) (vd vs vt : Reg) (e : BitVec 4) (s : State) : State :=
  laneResults (fun l => f (laneOperands s vs vt e l).1 (laneOperands s vs vt e l).2) vd s

/-- A lane-wise operation that defines VCC and VCO. -/
def vectorOpFlags (f : Half → Half → Int) (flag : Half → Half → Bool) (vd vs vt : Reg) (e : BitVec 4) (s : State) :
    State :=
  setCompareFlags (vectorOp f vd vs vt e s) fun l => flag (laneOperands s vs vt e l).1 (laneOperands s vs vt e l).2

end Sys2Proof.Machine
end

