-- ==== Sys2Proof/Machine/Branch.lean ====
section
/-! DEFINITION. Branches and jumps (spec/42_branch_jump.md). -/

namespace Sys2Proof.Machine

/-- s(x[i]) < 0. -/
def isNegative (s : State) (i : Reg) : Bool := (gpr s i).getLsbD 63

/-- x[i] = 0. -/
def isZero (s : State) (i : Reg) : Bool := gpr s i == 0

/-- BEQ (R420). -/
def execBeq (rs rt : Reg) (imm : BitVec 16) (s : State) : Result :=
  branchOn (gpr s rs == gpr s rt) imm false s

/-- BNE (R421). -/
def execBne (rs rt : Reg) (imm : BitVec 16) (s : State) : Result :=
  branchOn (gpr s rs != gpr s rt) imm false s

/-- BLEZ (R422). -/
def execBlez (rs : Reg) (imm : BitVec 16) (s : State) : Result :=
  branchOn (isNegative s rs || isZero s rs) imm false s

/-- BGTZ (R423). -/
def execBgtz (rs : Reg) (imm : BitVec 16) (s : State) : Result :=
  branchOn (!(isNegative s rs || isZero s rs)) imm false s

/-- BLTZ (R424). -/
def execBltz (rs : Reg) (imm : BitVec 16) (s : State) : Result :=
  branchOn (isNegative s rs) imm false s

/-- BGEZ (R425). -/
def execBgez (rs : Reg) (imm : BitVec 16) (s : State) : Result :=
  branchOn (!isNegative s rs) imm false s

/-- BLTZAL (R426). -/
def execBltzal (rs : Reg) (imm : BitVec 16) (s : State) : Result :=
  branchLinkOn (isNegative s rs) rs imm false s

/-- BGEZAL (R427). -/
def execBgezal (rs : Reg) (imm : BitVec 16) (s : State) : Result :=
  branchLinkOn (!isNegative s rs) rs imm false s

/-- BEQL (R428). -/
def execBeql (rs rt : Reg) (imm : BitVec 16) (s : State) : Result :=
  branchOn (gpr s rs == gpr s rt) imm true s

/-- BNEL (R429). -/
def execBnel (rs rt : Reg) (imm : BitVec 16) (s : State) : Result :=
  branchOn (gpr s rs != gpr s rt) imm true s

/-- BLEZL (R430). -/
def execBlezl (rs : Reg) (imm : BitVec 16) (s : State) : Result :=
  branchOn (isNegative s rs || isZero s rs) imm true s

/-- BGTZL (R431). -/
def execBgtzl (rs : Reg) (imm : BitVec 16) (s : State) : Result :=
  branchOn (!(isNegative s rs || isZero s rs)) imm true s

/-- BLTZL (R432). -/
def execBltzl (rs : Reg) (imm : BitVec 16) (s : State) : Result :=
  branchOn (isNegative s rs) imm true s

/-- BGEZL (R433). -/
def execBgezl (rs : Reg) (imm : BitVec 16) (s : State) : Result :=
  branchOn (!isNegative s rs) imm true s

/-- BLTZALL (R434). -/
def execBltzall (rs : Reg) (imm : BitVec 16) (s : State) : Result :=
  branchLinkOn (isNegative s rs) rs imm true s

/-- BGEZALL (R435). -/
def execBgezall (rs : Reg) (imm : BitVec 16) (s : State) : Result :=
  branchLinkOn (!isNegative s rs) rs imm true s

/-- J (R436). -/
def execJ (target : BitVec 26) (s : State) : Result :=
  controlTransfer s (.next (retireBranch true (jumpTarget s.cpu.pc target) false s))

/-- JAL (R437). -/
def execJal (target : BitVec 26) (s : State) : Result :=
  controlTransfer s
    (.next (retireBranch true (jumpTarget s.cpu.pc target) false (setGpr s 31 (linkAddress s))))

/-- JR (R438). -/
def execJr (rs : Reg) (s : State) : Result :=
  controlTransfer s (.next (retireBranch true (gpr s rs) false s))

/-- JALR (R439): the target is read before the link is written (R418). -/
def execJalr (rd rs : Reg) (s : State) : Result :=
  controlTransfer s (linkNotSource (rd == rs)
    (.next (retireBranch true (gpr s rs) false (setGpr s rd (linkAddress s)))))

end Sys2Proof.Machine
end

