-- ==== Sys2Proof/Machine/SoftFloat.lean ====
section
/-! DEFINITION. FPOP_IEEE, the default arithmetic of the FPU (spec/45_fpu.md R573), and the default FPU_UNIMPL (R575).

Operands are unpacked to exact integers, results are computed exactly (or exactly with a sticky bit) and rounded once.
Flags are five bits: I 0, U 1, O 2, Z 3, V 4. A 32-bit value stands in the low half of a `Dword`. -/

namespace Sys2Proof.Machine

/-! ## Formats (R572) -/

/-- Fraction bits of a floating format (0 for the integer formats). -/
def fracBits : Fmt → Nat
  | .s => 23
  | .d => 52
  | .w | .l => 0

/-- The exponent field of infinities and NaNs. -/
def expTop : Fmt → Nat
  | .s => 255
  | .d => 2047
  | .w | .l => 0

/-- The exponent bias. -/
def expBias : Fmt → Nat
  | .s => 127
  | .d => 1023
  | .w | .l => 0

/-- The position of the sign bit. -/
def signPos : Fmt → Nat
  | .s | .w => 31
  | .d | .l => 63

/-- A floating value: a NaN, an infinity, or ± mant · 2 ^ exp. -/
inductive Fp where
  | nan (signalling : Bool)
  | inf (neg : Bool)
  | num (neg : Bool) (mant : Nat) (exp : Int)
  deriving DecidableEq, Repr

/-- The exponent field of `v`. -/
def expField (f : Fmt) (v : Dword) : Nat := v.toNat / 2 ^ fracBits f % (expTop f + 1)

/-- The fraction field of `v`. -/
def fracField (f : Fmt) (v : Dword) : Nat := v.toNat % 2 ^ fracBits f

/-- The sign of `v`. -/
def signField (f : Fmt) (v : Dword) : Bool := v.getLsbD (signPos f)

/-- The value that the bits `v` of format `f` stand for. A NaN whose fraction MSB is 1 is signalling (R573;
notes/assumptions/38.md). -/
def unpack (f : Fmt) (v : Dword) : Fp :=
  if expField f v = expTop f then
    (if fracField f v = 0 then .inf (signField f v) else .nan (decide (2 ^ (fracBits f - 1) ≤ fracField f v)))
  else if expField f v = 0 then .num (signField f v) (fracField f v) (1 - (expBias f : Int) - fracBits f)
  else .num (signField f v) (fracField f v + 2 ^ fracBits f) ((expField f v : Int) - expBias f - fracBits f)

/-- `v` is a denormal number. -/
def isDenormal (f : Fmt) (v : Dword) : Bool := expField f v == 0 && fracField f v != 0

/-- The bits of a sign, an exponent field and a fraction field. -/
def packFields (f : Fmt) (neg : Bool) (e frac : Nat) : Dword :=
  BitVec.ofNat 64 ((if neg then 2 ^ signPos f else 0) + e * 2 ^ fracBits f + frac)

/-- ± 0. -/
def fpZero (f : Fmt) (neg : Bool) : Dword := packFields f neg 0 0

/-- ± ∞. -/
def fpInf (f : Fmt) (neg : Bool) : Dword := packFields f neg (expTop f) 0

/-- The finite value of largest magnitude. -/
def fpMax (f : Fmt) (neg : Bool) : Dword := packFields f neg (expTop f - 1) (2 ^ fracBits f - 1)

/-- The default quiet NaN (R573). -/
def defaultNan (f : Fmt) : Dword := packFields f false (expTop f) (2 ^ (fracBits f - 1) - 1)

/-- The quiet NaN of a sign and a number, a free value's shape: fraction nonzero, its MSB 0. -/
def quietNanOf (f : Fmt) (k : Bool × Nat) : Dword :=
  packFields f k.1 (expTop f) (1 + k.2 % (2 ^ (fracBits f - 1) - 1))

/-! ## Rounding -/

/-- Flag I. -/
def flagI : BitVec 5 := 1
/-- Flag U. -/
def flagU : BitVec 5 := 2
/-- Flag O. -/
def flagO : BitVec 5 := 4
/-- Flag Z. -/
def flagZ : BitVec 5 := 8
/-- Flag V. -/
def flagV : BitVec 5 := 16

/-- Whether rounding mode `rm` (R63) takes the next multiple away from zero: kept value `m`, remainder `rem` of
`2 ^ d`. -/
def roundsUp (rm : BitVec 2) (neg : Bool) (m rem d : Nat) : Bool :=
  if rm = 0 then decide (2 ^ d < 2 * rem) || (decide (2 * rem = 2 ^ d) && decide (m % 2 = 1))
  else if rm = 1 then false
  else if rm = 2 then !neg && rem != 0
  else neg && rem != 0

/-- mant · 2 ^ exp rounded to a multiple of 2 ^ q: the multiple, and whether it is inexact. -/
def roundTo (rm : BitVec 2) (neg : Bool) (mant : Nat) (exp q : Int) : Nat × Bool :=
  if q ≤ exp then (mant * 2 ^ (exp - q).toNat, false)
  else
    let d := (q - exp).toNat
    let m := mant / 2 ^ d
    let rem := mant % 2 ^ d
    (if roundsUp rm neg m rem d then m + 1 else m, rem != 0)

/-- The result of an overflow (R573). -/
def overflowResult (f : Fmt) (rm : BitVec 2) (neg : Bool) : Dword :=
  if rm = 0 || (rm = 2 && !neg) || (rm = 3 && neg) then fpInf f neg else fpMax f neg

/-- A value below the smallest normal is still below it when rounded to full precision with no bound on the exponent:
it is tiny under both of IEEE 754-1985's readings. `top` is the exponent of its leading bit. -/
def tinyAfterRounding (f : Fmt) (rm : BitVec 2) (neg : Bool) (mant : Nat) (exp top : Int) : Bool :=
  decide (top < 1 - (expBias f : Int)) &&
    !(decide (top + 1 = 1 - (expBias f : Int)) &&
      decide ((roundTo rm neg mant exp (top - fracBits f)).1 = 2 ^ (fracBits f + 1)))

/-- ± mant · 2 ^ exp, `mant` nonzero, rounded to format `f` (R573): the bits and the flags. U is set when the result is
tiny and inexact; `tinyFree` says whether a value that is tiny before rounding only counts as tiny. -/
def roundPack (f : Fmt) (rm : BitVec 2) (tinyFree neg : Bool) (mant : Nat) (exp : Int) : Dword × BitVec 5 :=
  let top : Int := exp + Nat.log2 mant
  let emin : Int := 1 - (expBias f : Int)
  let q : Int := max top emin - fracBits f
  let r := roundTo rm neg mant exp q
  let big := decide (2 ^ (fracBits f + 1) ≤ r.1)
  let m := if big then r.1 / 2 else r.1
  let field : Int := (if big then q + 1 else q) + fracBits f + expBias f
  let tiny := tinyAfterRounding f rm neg mant exp top || (decide (top < emin) && tinyFree)
  let flags := if r.2 then (if tiny then flagI ||| flagU else flagI) else 0
  if m < 2 ^ fracBits f then (packFields f neg 0 m, flags)
  else if (expTop f : Int) ≤ field then (overflowResult f rm neg, flagO ||| flagI)
  else (packFields f neg field.toNat (m - 2 ^ fracBits f), flags)

/-- The integer square root by bits from the top. -/
def isqrtGo (n : Nat) : Nat → Nat → Nat
  | 0, r => r
  | i + 1, r => isqrtGo n i (if (r + 2 ^ i) * (r + 2 ^ i) ≤ n then r + 2 ^ i else r)

/-- ⌊√n⌋. -/
def isqrt (n : Nat) : Nat := isqrtGo n (Nat.log2 n / 2 + 1) 0

/-! ## The operations on numbers -/

/-- An exact rational result, ready to round: zero with its sign, or ± mant · 2 ^ exp. -/
def roundOrZero (f : Fmt) (rm : BitVec 2) (tinyFree neg : Bool) (mant : Nat) (exp : Int) : Dword × BitVec 5 :=
  if mant = 0 then (fpZero f neg, 0) else roundPack f rm tinyFree neg mant exp

/-- The signed integer that ± mant · 2 ^ exp is at scale 2 ^ e, e at most exp. -/
def scaled (neg : Bool) (mant : Nat) (exp e : Int) : Int :=
  if neg then -((mant * 2 ^ (exp - e).toNat : Nat) : Int) else ((mant * 2 ^ (exp - e).toNat : Nat) : Int)

/-- The sum of two numbers. An exact zero is +0, but -0 in mode 3; two zeros of one sign keep it. -/
def addNum (f : Fmt) (rm : BitVec 2) (tinyFree : Bool) (an : Bool) (am : Nat) (ae : Int) (bn : Bool) (bm : Nat)
    (be : Int) : Dword × BitVec 5 :=
  let e := min ae be
  let sum := scaled an am ae e + scaled bn bm be e
  if sum = 0 then (fpZero f (if am = 0 && bm = 0 && an == bn then an else rm == 3), 0)
  else roundPack f rm tinyFree (decide (sum < 0)) sum.natAbs e

/-- The quotient of two numbers, the divisor nonzero: exact to a sticky bit below the rounding position. -/
def divNum (f : Fmt) (rm : BitVec 2) (tinyFree neg : Bool) (am : Nat) (ae : Int) (bm : Nat) (be : Int) :
    Dword × BitVec 5 :=
  let k := 2 * fracBits f + 6
  let q := am * 2 ^ k / bm
  let sticky := if am * 2 ^ k % bm = 0 then 0 else 1
  roundOrZero f rm tinyFree neg (2 * q + sticky) (ae - be - k - 1)

/-- The square root of a nonnegative number. -/
def sqrtNum (f : Fmt) (rm : BitVec 2) (tinyFree : Bool) (neg : Bool) (am : Nat) (ae : Int) : Dword × BitVec 5 :=
  let k := 2 * fracBits f + 6 + (ae % 2).toNat
  let n := am * 2 ^ k
  let r := isqrt n
  let sticky := if r * r = n then 0 else 1
  roundOrZero f rm tinyFree neg (2 * r + sticky) ((ae - k) / 2 - 1)

/-- A number rounded to a signed integer of `n` bits: the exact rounded value and whether it is inexact. -/
def toInteger (rm : BitVec 2) (neg : Bool) (mant : Nat) (exp : Int) : Int × Bool :=
  let r := roundTo rm neg mant exp 0
  (if neg then -(r.1 : Int) else (r.1 : Int), r.2)

/-- The width of an integer format. -/
def intWidth : Fmt → Nat
  | .w | .s => 32
  | .l | .d => 64

/-- `i` fits in integer format `f`. -/
def fitsInteger (f : Fmt) (i : Int) : Bool :=
  decide (-(2 ^ (intWidth f - 1) : Int) ≤ i) && decide (i ≤ (2 ^ (intWidth f - 1) : Int) - 1)

/-- The bits of an integer of format `f`. -/
def integerBits (f : Fmt) (i : Int) : Dword :=
  match f with
  | .w | .s => (BitVec.ofInt 32 i).setWidth 64
  | .l | .d => BitVec.ofInt 64 i

/-- The integer that the bits `v` of integer format `f` stand for. -/
def integerValue (f : Fmt) (v : Dword) : Int :=
  match f with
  | .w | .s => (v.setWidth 32).toInt
  | .l | .d => v.toInt

/-! ## NaN results (R573) -/

/-- The result of an invalid operation. -/
def invalid (f : Fmt) : Dword × BitVec 5 := (defaultNan f, flagV)

/-- The result of an operation on NaNs: invalid if one of them signals, else a quiet NaN, which one being a free value
(notes/assumptions/10.md). -/
def nanResult (op : FpOp) (f : Fmt) (a b : Dword) (signalling : Bool) : Dword × BitVec 5 :=
  if signalling then invalid f else (quietNanOf f (Config.quietNan op f a b), 0)

/-! ## The operations (R573), before flushing -/

/-- add. -/
def fpAdd (f : Fmt) (rm : BitVec 2) (a b : Dword) : Dword × BitVec 5 :=
  match unpack f a, unpack f b with
  | .nan p, .nan q => nanResult .add f a b (p || q)
  | .nan p, _ => nanResult .add f a b p
  | _, .nan q => nanResult .add f a b q
  | .inf p, .inf q => if p == q then (fpInf f p, 0) else invalid f
  | .inf p, .num _ _ _ => (fpInf f p, 0)
  | .num _ _ _, .inf q => (fpInf f q, 0)
  | .num an am ae, .num bn bm be => addNum f rm (Config.tinyBeforeRounding .add f a b) an am ae bn bm be

/-- sub. -/
def fpSub (f : Fmt) (rm : BitVec 2) (a b : Dword) : Dword × BitVec 5 :=
  match unpack f a, unpack f b with
  | .nan p, .nan q => nanResult .sub f a b (p || q)
  | .nan p, _ => nanResult .sub f a b p
  | _, .nan q => nanResult .sub f a b q
  | .inf p, .inf q => if p != q then (fpInf f p, 0) else invalid f
  | .inf p, .num _ _ _ => (fpInf f p, 0)
  | .num _ _ _, .inf q => (fpInf f (!q), 0)
  | .num an am ae, .num bn bm be => addNum f rm (Config.tinyBeforeRounding .sub f a b) an am ae (!bn) bm be

/-- mul. -/
def fpMul (f : Fmt) (rm : BitVec 2) (a b : Dword) : Dword × BitVec 5 :=
  match unpack f a, unpack f b with
  | .nan p, .nan q => nanResult .mul f a b (p || q)
  | .nan p, _ => nanResult .mul f a b p
  | _, .nan q => nanResult .mul f a b q
  | .inf p, .inf q => (fpInf f (p != q), 0)
  | .inf p, .num bn bm _ => if bm = 0 then invalid f else (fpInf f (p != bn), 0)
  | .num an am _, .inf q => if am = 0 then invalid f else (fpInf f (an != q), 0)
  | .num an am ae, .num bn bm be =>
    roundOrZero f rm (Config.tinyBeforeRounding .mul f a b) (an != bn) (am * bm) (ae + be)

/-- div. -/
def fpDiv (f : Fmt) (rm : BitVec 2) (a b : Dword) : Dword × BitVec 5 :=
  match unpack f a, unpack f b with
  | .nan p, .nan q => nanResult .div f a b (p || q)
  | .nan p, _ => nanResult .div f a b p
  | _, .nan q => nanResult .div f a b q
  | .inf _, .inf _ => invalid f
  | .inf p, .num bn _ _ => (fpInf f (p != bn), 0)
  | .num an _ _, .inf q => (fpZero f (an != q), 0)
  | .num an am ae, .num bn bm be =>
    if bm = 0 then (if am = 0 then invalid f else (fpInf f (an != bn), flagZ))
    else divNum f rm (Config.tinyBeforeRounding .div f a b) (an != bn) am ae bm be

/-- sqrt. -/
def fpSqrt (f : Fmt) (rm : BitVec 2) (a : Dword) : Dword × BitVec 5 :=
  match unpack f a with
  | .nan p => nanResult .sqrt f a 0 p
  | .inf p => if p then invalid f else (fpInf f false, 0)
  | .num an am ae =>
    if am = 0 then (fpZero f an, 0)
    else if an then invalid f
    else sqrtNum f rm (Config.tinyBeforeRounding .sqrt f a 0) false am ae

/-- abs and neg: `neg` is the new sign of an operand that is no NaN. A signalling NaN is an invalid operation, the model's
choice (notes/assumptions/34.md). -/
def fpSign (op : FpOp) (f : Fmt) (neg : Bool) (a : Dword) : Dword × BitVec 5 :=
  match unpack f a with
  | .nan p => nanResult op f a 0 p
  | .inf _ | .num _ _ _ => (packFields f neg (expField f a) (fracField f a), 0)

/-- cvt from a floating format to a floating format. -/
def fpToFp (fin fout : Fmt) (rm : BitVec 2) (a : Dword) : Dword × BitVec 5 :=
  match unpack fin a with
  | .nan p => nanResult .cvt fout a 0 p
  | .inf p => (fpInf fout p, 0)
  | .num an am ae => roundOrZero fout rm (Config.tinyBeforeRounding .cvt fout a 0) an am ae

/-- cvt from an integer format to a floating format. -/
def intToFp (fin fout : Fmt) (rm : BitVec 2) (a : Dword) : Dword × BitVec 5 :=
  roundOrZero fout rm (Config.tinyBeforeRounding .cvt fout a 0) (decide (integerValue fin a < 0))
    (integerValue fin a).natAbs 0

/-- cvt from a floating format to an integer format. A value that is no number, or does not fit, is invalid, and which
integer it delivers is a free value (notes/assumptions/13.md). -/
def fpToInt (fin fout : Fmt) (rm : BitVec 2) (a : Dword) : Dword × BitVec 5 :=
  match unpack fin a with
  | .nan _ | .inf _ => (Config.invalidInteger fin fout a, flagV)
  | .num an am ae =>
    let r := toInteger rm an am ae
    if fitsInteger fout r.1 then (integerBits fout r.1, if r.2 then flagI else 0)
    else (Config.invalidInteger fin fout a, flagV)

/-- A floating format. -/
def isFloat : Fmt → Bool
  | .s | .d => true
  | .w | .l => false

/-- cvt. -/
def fpCvt (fin fout : Fmt) (rm : BitVec 2) (a : Dword) : Dword × BitVec 5 :=
  if isFloat fin then (if isFloat fout then fpToFp fin fout rm a else fpToInt fin fout rm a)
  else intToFp fin fout rm a

/-- The operation, before flushing. A compare delivers no value here: it is `fpCompareIeee`. -/
def fpExact (op : FpOp) (fin fout : Fmt) (rm : BitVec 2) (a b : Dword) : Dword × BitVec 5 :=
  match op with
  | .add => fpAdd fin rm a b
  | .sub => fpSub fin rm a b
  | .mul => fpMul fin rm a b
  | .div => fpDiv fin rm a b
  | .sqrt => fpSqrt fin rm a
  | .abs => fpSign .abs fin false a
  | .neg => fpSign .neg fin (!signField fin a) a
  | .cvt => fpCvt fin fout rm a
  | .compare => (0, 0)

/-- The result, as rounded, is a denormal number. A nonzero result that rounds to 0 is none, the model's choice
(notes/assumptions/39.md). -/
def denormalResult (fout : Fmt) (v : Dword) : Bool := isFloat fout && isDenormal fout v

/-- FPOP_IEEE (R573): with `fs` a denormal result is flushed to zero, its sign and its U and I flags being free values
(notes/assumptions/11.md). -/
def fpopIeee (op : FpOp) (fin fout : Fmt) (rm : BitVec 2) (fs : Bool) (a b : Dword) : Dword × BitVec 5 :=
  let r := fpExact op fin fout rm a b
  if fs && denormalResult fout r.1 then
    (fpZero fout (Config.flushed op fin fout rm a b).1, (Config.flushed op fin fout rm a b).2.setWidth 5)
  else r

/-- A number's place in the order of its format: bits as sign and magnitude, so that the two zeros are equal. -/
def orderKey (f : Fmt) (v : Dword) : Int :=
  let m : Nat := expField f v * 2 ^ fracBits f + fracField f v
  if signField f v then -(m : Int) else (m : Int)

/-- FPOP_IEEE's compare (R610): less, equal, unordered, and the flags for condition `cond`. -/
def fpCompareIeee (f : Fmt) (cond : BitVec 4) (a b : Dword) : Bool × Bool × Bool × BitVec 5 :=
  let sa := match unpack f a with | .nan p => some p | .inf _ | .num _ _ _ => none
  let sb := match unpack f b with | .nan p => some p | .inf _ | .num _ _ _ => none
  if sa.isSome || sb.isSome then
    (false, false, true, if sa = some true || sb = some true || cond.getLsbD 3 then flagV else 0)
  else (decide (orderKey f a < orderKey f b), decide (orderKey f a = orderKey f b), false, 0)

/-! ## FPU_UNIMPL's default (R575) -/

/-- An operand of a conversion to an integer that is NaN, infinite, or rounds outside the target. -/
def unrepresentable (fin fout : Fmt) (rm : BitVec 2) (a : Dword) : Bool :=
  match unpack fin a with
  | .nan _ | .inf _ => true
  | .num an am ae => !fitsInteger fout (toInteger rm an am ae).1

/-- The default predicate: denormal operands of add, sub, mul, div, sqrt and cvt, denormal results while FS = 0, and
conversions to an integer that cannot be represented. The result it judges is FPOP_IEEE's, whichever FPOP is meant: the
model's choice (notes/assumptions/35.md). -/
def fpuUnimplDefault (op : FpOp) (fin fout : Fmt) (rm : BitVec 2) (fs : Bool) (a b : Dword) : Bool :=
  match op with
  | .add | .sub | .mul | .div =>
    isDenormal fin a || isDenormal fin b || (!fs && denormalResult fout (fpExact op fin fout rm a b).1)
  | .sqrt => isDenormal fin a || (!fs && denormalResult fout (fpExact op fin fout rm a b).1)
  | .cvt =>
    (isFloat fin && isDenormal fin a) || (!fs && denormalResult fout (fpExact op fin fout rm a b).1) ||
      (isFloat fin && !isFloat fout && unrepresentable fin fout rm a)
  | .abs | .neg => !fs && denormalResult fout (fpExact op fin fout rm a b).1
  | .compare => false

end Sys2Proof.Machine
end

