-- ==== Sys2Proof/Machine/Fpu.lean ====
section
/-! DEFINITION. The floating-point unit, coprocessor 1 (spec/45_fpu.md). Every meaning checks Status.CU1 itself (R570), as
the decoder does. -/

namespace Sys2Proof.Machine

/-! ## Operands by format (R572) -/

/-- Register `i` can hold an operand of format `f` (R571). -/
def fprOk (f : Fmt) (s : State) (i : Reg) : Bool :=
  match f with
  | .s | .w => true
  | .d | .l => fprDwordOk s i

/-- The operand of format `f` in register `i`. -/
def readFpr (f : Fmt) (s : State) (i : Reg) : Dword :=
  match f with
  | .s | .w => zext32 (fpr32 s i)
  | .d | .l => fpr64 s i

/-- The result of format `f` written to register `i`. -/
def writeFpr (f : Fmt) (s : State) (i : Reg) (v : Dword) : State :=
  match f with
  | .s | .w => writeFpr32 s i (lo32 v)
  | .d | .l => writeFpr64 s i v

/-- A CP1 instruction on the given registers: CU1 first, then the odd-register refusal, before any effect (R570, R571). -/
def onFprs (s : State) (regs : List (Fmt × Reg)) (r : Result) : Result :=
  withCp1 s (if regs.all (fun p => fprOk p.1 s p.2) then r else .refused .oddFprAsDword)

/-! ## The exception procedure (R574) -/

/-- FPOP (R573). -/
def fpop (s : State) (op : FpOp) (fin fout : Fmt) (rm : BitVec 2) (a b : Dword) : Option (Dword × BitVec 5) :=
  match s.cfg.fpop with
  | .ieee => some (fpopIeee op fin fout rm (fcrFs s.fpu.fcr31) a b)
  | .supplied => Config.fpopSupplied op fin fout rm (fcrFs s.fpu.fcr31) a b

/-- FPU_UNIMPL (R575): the supplied predicate is given FCR31 with the operation's rounding mode in RM. -/
def fpuUnimpl (s : State) (op : FpOp) (fin fout : Fmt) (rm : BitVec 2) (a b : Dword) : Bool :=
  match s.cfg.fpuUnimpl with
  | .vr4300 => fpuUnimplDefault op fin fout rm (fcrFs s.fpu.fcr31) a b
  | .supplied => Config.fpuUnimplSupplied op fin fout a b ((s.fpu.fcr31 &&& 0xFFFFFFFC) ||| rm.setWidth 32)

/-- The unimplemented operation: Cause is {E}, then FloatingPoint is raised (R574). -/
def fpUnimplemented (s : State) : Result := raise .floatingPoint (setFcr31 s (fcrWithCause s.fpu.fcr31 0x20))

/-- Cause is `flags`; an enabled one raises FloatingPoint, with Flags and the destination unchanged; otherwise Flags
takes `flags` in and `write` is applied (R574). -/
def fpFinish (s : State) (flags : BitVec 5) (write : State → State) : Result :=
  let f := fcrWithCause s.fpu.fcr31 (flags.setWidth 6)
  if (flags &&& fcrEnable f) != 0 then raise .floatingPoint (setFcr31 s f)
  else seq (write (setFcr31 s (fcrAddFlags f flags)))

/-- `fp_arith` (R574): the destination is register `fd` in format `fout`. -/
def fpArith (op : FpOp) (fin fout : Fmt) (rm : BitVec 2) (a b : Dword) (fd : Reg) (s : State) : Result :=
  match fpop s op fin fout rm a b with
  | none => fpUnimplemented s
  | some r =>
    if fpuUnimpl s op fin fout rm a b then fpUnimplemented s
    else fpFinish s r.2 fun s' => writeFpr fout s' fd r.1

/-- An arithmetic instruction of two operands. -/
def fpBinary (op : FpOp) (f : Fmt) (fd fs ft : Reg) (s : State) : Result :=
  onFprs s [(f, fd), (f, fs), (f, ft)]
    (fpArith op f f (fcrRm s.fpu.fcr31) (readFpr f s fs) (readFpr f s ft) fd s)

/-- An arithmetic instruction of one operand. -/
def fpUnary (op : FpOp) (f : Fmt) (fd fs : Reg) (s : State) : Result :=
  onFprs s [(f, fd), (f, fs)] (fpArith op f f (fcrRm s.fpu.fcr31) (readFpr f s fs) 0 fd s)

/-- A conversion in rounding mode `rm`. -/
def fpConvert (fin fout : Fmt) (rm : BitVec 2) (fd fs : Reg) (s : State) : Result :=
  onFprs s [(fout, fd), (fin, fs)] (fpArith .cvt fin fout rm (readFpr fin s fs) 0 fd s)

/-- MOV.fmt (R596). -/
def fpMove (f : Fmt) (fd fs : Reg) (s : State) : Result :=
  onFprs s [(f, fd), (f, fs)] (seq (writeFpr f s fd (readFpr f s fs)))

/-- The compare of FPOP (R610). -/
def fpCompareOp (s : State) (f : Fmt) (cond : BitVec 4) (a b : Dword) : Option (Bool × Bool × Bool × BitVec 5) :=
  match s.cfg.fpop with
  | .ieee => some (fpCompareIeee f cond a b)
  | .supplied => Config.fpCompareSupplied f cond a b

/-- C.cond.fmt (R610). -/
def fpCompare (f : Fmt) (cond : BitVec 4) (fs ft : Reg) (s : State) : Result :=
  onFprs s [(f, fs), (f, ft)]
    (match fpCompareOp s f cond (readFpr f s fs) (readFpr f s ft) with
     | none => fpUnimplemented s
     | some r =>
       if fpuUnimpl s .compare f f (fcrRm s.fpu.fcr31) (readFpr f s fs) (readFpr f s ft) then fpUnimplemented s
       else fpFinish s r.2.2.2 fun s' =>
         setFcr31 s' (fcrWithC s'.fpu.fcr31
           ((cond.getLsbD 2 && r.1) || (cond.getLsbD 1 && r.2.1) || (cond.getLsbD 0 && r.2.2.1))))

/-! ## Moves and control (R576 to R581) -/

/-- What CFC1 reads: an FCR other than 0 and 31 reads a draw, a free value (R62, notes/assumptions/5.md). -/
def fcrRead (s : State) (fs : Reg) : Word × State :=
  if fs = 0 then (0x00000A00, s)
  else if fs = 31 then (s.fpu.fcr31, s)
  else (Config.fcrDraw fs s.draws, { s with draws := s.draws + 1 })

/-- CFC1 (R576). -/
def execCfc1 (rt fs : Reg) (s : State) : Result :=
  withCp1 s (seq (setGpr (fcrRead s fs).2 rt (sext32 (fcrRead s fs).1)))

/-- CTC1 (R577): the new FCR31 is kept even when it raises. -/
def execCtc1 (rt fs : Reg) (s : State) : Result :=
  withCp1 s
    (if fs = 31 then
      let s' := setFcr31 s (lo32 (gpr s rt) &&& fcr31Mask)
      if fcrRaises s'.fpu.fcr31 then raise .floatingPoint s' else seq s'
     else seq s)

/-- MFC1 (R578). -/
def execMfc1 (rt fs : Reg) (s : State) : Result :=
  withCp1 s (seq (setGpr s rt (sext32 (fpr32 s fs))))

/-- DMFC1 (R579). -/
def execDmfc1 (rt fs : Reg) (s : State) : Result :=
  onFprs s [(.d, fs)] (seq (setGpr s rt (fpr64 s fs)))

/-- MTC1 (R580). -/
def execMtc1 (rt fs : Reg) (s : State) : Result :=
  withCp1 s (seq (writeFpr32 s fs (lo32 (gpr s rt))))

/-- DMTC1 (R581). -/
def execDmtc1 (rt fs : Reg) (s : State) : Result :=
  onFprs s [(.d, fs)] (seq (writeFpr64 s fs (gpr s rt)))

/-! ## Loads and stores (R582 to R585): CU1, then the odd-register refusal, then the alignment -/

/-- LWC1 (R582). -/
def execLwc1 (ft : Reg) (offset : BitVec 16) (base : Reg) (s : State) : Result :=
  withCp1 s (loadFrom 4 (effective s base offset) s fun v s' => seq (writeFpr32 s' ft (lo32 v)))

/-- LDC1 (R583). -/
def execLdc1 (ft : Reg) (offset : BitVec 16) (base : Reg) (s : State) : Result :=
  onFprs s [(.d, ft)] (loadFrom 8 (effective s base offset) s fun v s' => seq (writeFpr64 s' ft v))

/-- SWC1 (R584). -/
def execSwc1 (ft : Reg) (offset : BitVec 16) (base : Reg) (s : State) : Result :=
  withCp1 s (storeTo 4 (effective s base offset) (zext32 (fpr32 s ft)) s seq)

/-- SDC1 (R585). -/
def execSdc1 (ft : Reg) (offset : BitVec 16) (base : Reg) (s : State) : Result :=
  onFprs s [(.d, ft)] (storeTo 8 (effective s base offset) (fpr64 s ft) s seq)

/-! ## Branches (R586 to R589) -/

/-- BC1F (R586). -/
def execBc1f (imm : BitVec 16) (s : State) : Result :=
  withCp1 s (branchOn (!fcrC s.fpu.fcr31) imm false s)

/-- BC1T (R587). -/
def execBc1t (imm : BitVec 16) (s : State) : Result :=
  withCp1 s (branchOn (fcrC s.fpu.fcr31) imm false s)

/-- BC1FL (R588). -/
def execBc1fl (imm : BitVec 16) (s : State) : Result :=
  withCp1 s (branchOn (!fcrC s.fpu.fcr31) imm true s)

/-- BC1TL (R589). -/
def execBc1tl (imm : BitVec 16) (s : State) : Result :=
  withCp1 s (branchOn (fcrC s.fpu.fcr31) imm true s)

/-! ## Arithmetic (R590 to R597) -/

/-- ADD.S (R590). -/
def execAddS (fd fs ft : Reg) (s : State) : Result :=
  fpBinary .add .s fd fs ft s

/-- SUB.S (R591). -/
def execSubS (fd fs ft : Reg) (s : State) : Result :=
  fpBinary .sub .s fd fs ft s

/-- MUL.S (R592). -/
def execMulS (fd fs ft : Reg) (s : State) : Result :=
  fpBinary .mul .s fd fs ft s

/-- DIV.S (R593). -/
def execDivS (fd fs ft : Reg) (s : State) : Result :=
  fpBinary .div .s fd fs ft s

/-- SQRT.S (R594). -/
def execSqrtS (fd fs : Reg) (s : State) : Result :=
  fpUnary .sqrt .s fd fs s

/-- ABS.S (R595). -/
def execAbsS (fd fs : Reg) (s : State) : Result :=
  fpUnary .abs .s fd fs s

/-- MOV.S (R596). -/
def execMovS (fd fs : Reg) (s : State) : Result :=
  fpMove .s fd fs s

/-- NEG.S (R597). -/
def execNegS (fd fs : Reg) (s : State) : Result :=
  fpUnary .neg .s fd fs s

/-- ADD.D (R590). -/
def execAddD (fd fs ft : Reg) (s : State) : Result :=
  fpBinary .add .d fd fs ft s

/-- SUB.D (R591). -/
def execSubD (fd fs ft : Reg) (s : State) : Result :=
  fpBinary .sub .d fd fs ft s

/-- MUL.D (R592). -/
def execMulD (fd fs ft : Reg) (s : State) : Result :=
  fpBinary .mul .d fd fs ft s

/-- DIV.D (R593). -/
def execDivD (fd fs ft : Reg) (s : State) : Result :=
  fpBinary .div .d fd fs ft s

/-- SQRT.D (R594). -/
def execSqrtD (fd fs : Reg) (s : State) : Result :=
  fpUnary .sqrt .d fd fs s

/-- ABS.D (R595). -/
def execAbsD (fd fs : Reg) (s : State) : Result :=
  fpUnary .abs .d fd fs s

/-- MOV.D (R596). -/
def execMovD (fd fs : Reg) (s : State) : Result :=
  fpMove .d fd fs s

/-- NEG.D (R597). -/
def execNegD (fd fs : Reg) (s : State) : Result :=
  fpUnary .neg .d fd fs s

/-! ## Conversions (R598 to R609) -/

/-- ROUND.L.S (R598). -/
def execRoundLS (fd fs : Reg) (s : State) : Result :=
  fpConvert .s .l 0 fd fs s

/-- ROUND.L.D (R598). -/
def execRoundLD (fd fs : Reg) (s : State) : Result :=
  fpConvert .d .l 0 fd fs s

/-- TRUNC.L.S (R599). -/
def execTruncLS (fd fs : Reg) (s : State) : Result :=
  fpConvert .s .l 1 fd fs s

/-- TRUNC.L.D (R599). -/
def execTruncLD (fd fs : Reg) (s : State) : Result :=
  fpConvert .d .l 1 fd fs s

/-- CEIL.L.S (R600). -/
def execCeilLS (fd fs : Reg) (s : State) : Result :=
  fpConvert .s .l 2 fd fs s

/-- CEIL.L.D (R600). -/
def execCeilLD (fd fs : Reg) (s : State) : Result :=
  fpConvert .d .l 2 fd fs s

/-- FLOOR.L.S (R601). -/
def execFloorLS (fd fs : Reg) (s : State) : Result :=
  fpConvert .s .l 3 fd fs s

/-- FLOOR.L.D (R601). -/
def execFloorLD (fd fs : Reg) (s : State) : Result :=
  fpConvert .d .l 3 fd fs s

/-- ROUND.W.S (R602). -/
def execRoundWS (fd fs : Reg) (s : State) : Result :=
  fpConvert .s .w 0 fd fs s

/-- ROUND.W.D (R602). -/
def execRoundWD (fd fs : Reg) (s : State) : Result :=
  fpConvert .d .w 0 fd fs s

/-- TRUNC.W.S (R603). -/
def execTruncWS (fd fs : Reg) (s : State) : Result :=
  fpConvert .s .w 1 fd fs s

/-- TRUNC.W.D (R603). -/
def execTruncWD (fd fs : Reg) (s : State) : Result :=
  fpConvert .d .w 1 fd fs s

/-- CEIL.W.S (R604). -/
def execCeilWS (fd fs : Reg) (s : State) : Result :=
  fpConvert .s .w 2 fd fs s

/-- CEIL.W.D (R604). -/
def execCeilWD (fd fs : Reg) (s : State) : Result :=
  fpConvert .d .w 2 fd fs s

/-- FLOOR.W.S (R605). -/
def execFloorWS (fd fs : Reg) (s : State) : Result :=
  fpConvert .s .w 3 fd fs s

/-- FLOOR.W.D (R605). -/
def execFloorWD (fd fs : Reg) (s : State) : Result :=
  fpConvert .d .w 3 fd fs s

/-- CVT.S.D (R606). -/
def execCvtSD (fd fs : Reg) (s : State) : Result :=
  fpConvert .d .s (fcrRm s.fpu.fcr31) fd fs s

/-- CVT.S.W (R606). -/
def execCvtSW (fd fs : Reg) (s : State) : Result :=
  fpConvert .w .s (fcrRm s.fpu.fcr31) fd fs s

/-- CVT.S.L (R606). -/
def execCvtSL (fd fs : Reg) (s : State) : Result :=
  fpConvert .l .s (fcrRm s.fpu.fcr31) fd fs s

/-- CVT.D.S (R607). -/
def execCvtDS (fd fs : Reg) (s : State) : Result :=
  fpConvert .s .d (fcrRm s.fpu.fcr31) fd fs s

/-- CVT.D.W (R607). -/
def execCvtDW (fd fs : Reg) (s : State) : Result :=
  fpConvert .w .d (fcrRm s.fpu.fcr31) fd fs s

/-- CVT.D.L (R607). -/
def execCvtDL (fd fs : Reg) (s : State) : Result :=
  fpConvert .l .d (fcrRm s.fpu.fcr31) fd fs s

/-- CVT.W.S (R608). -/
def execCvtWS (fd fs : Reg) (s : State) : Result :=
  fpConvert .s .w (fcrRm s.fpu.fcr31) fd fs s

/-- CVT.W.D (R608). -/
def execCvtWD (fd fs : Reg) (s : State) : Result :=
  fpConvert .d .w (fcrRm s.fpu.fcr31) fd fs s

/-- CVT.L.S (R609). -/
def execCvtLS (fd fs : Reg) (s : State) : Result :=
  fpConvert .s .l (fcrRm s.fpu.fcr31) fd fs s

/-- CVT.L.D (R609). -/
def execCvtLD (fd fs : Reg) (s : State) : Result :=
  fpConvert .d .l (fcrRm s.fpu.fcr31) fd fs s

/-! ## Compares (R610) -/

/-- C.F.S (R610). -/
def execCFS (fs ft : Reg) (s : State) : Result :=
  fpCompare .s 0 fs ft s

/-- C.UN.S (R610). -/
def execCUnS (fs ft : Reg) (s : State) : Result :=
  fpCompare .s 1 fs ft s

/-- C.EQ.S (R610). -/
def execCEqS (fs ft : Reg) (s : State) : Result :=
  fpCompare .s 2 fs ft s

/-- C.UEQ.S (R610). -/
def execCUeqS (fs ft : Reg) (s : State) : Result :=
  fpCompare .s 3 fs ft s

/-- C.OLT.S (R610). -/
def execCOltS (fs ft : Reg) (s : State) : Result :=
  fpCompare .s 4 fs ft s

/-- C.ULT.S (R610). -/
def execCUltS (fs ft : Reg) (s : State) : Result :=
  fpCompare .s 5 fs ft s

/-- C.OLE.S (R610). -/
def execCOleS (fs ft : Reg) (s : State) : Result :=
  fpCompare .s 6 fs ft s

/-- C.ULE.S (R610). -/
def execCUleS (fs ft : Reg) (s : State) : Result :=
  fpCompare .s 7 fs ft s

/-- C.SF.S (R610). -/
def execCSfS (fs ft : Reg) (s : State) : Result :=
  fpCompare .s 8 fs ft s

/-- C.NGLE.S (R610). -/
def execCNgleS (fs ft : Reg) (s : State) : Result :=
  fpCompare .s 9 fs ft s

/-- C.SEQ.S (R610). -/
def execCSeqS (fs ft : Reg) (s : State) : Result :=
  fpCompare .s 10 fs ft s

/-- C.NGL.S (R610). -/
def execCNglS (fs ft : Reg) (s : State) : Result :=
  fpCompare .s 11 fs ft s

/-- C.LT.S (R610). -/
def execCLtS (fs ft : Reg) (s : State) : Result :=
  fpCompare .s 12 fs ft s

/-- C.NGE.S (R610). -/
def execCNgeS (fs ft : Reg) (s : State) : Result :=
  fpCompare .s 13 fs ft s

/-- C.LE.S (R610). -/
def execCLeS (fs ft : Reg) (s : State) : Result :=
  fpCompare .s 14 fs ft s

/-- C.NGT.S (R610). -/
def execCNgtS (fs ft : Reg) (s : State) : Result :=
  fpCompare .s 15 fs ft s

/-- C.F.D (R610). -/
def execCFD (fs ft : Reg) (s : State) : Result :=
  fpCompare .d 0 fs ft s

/-- C.UN.D (R610). -/
def execCUnD (fs ft : Reg) (s : State) : Result :=
  fpCompare .d 1 fs ft s

/-- C.EQ.D (R610). -/
def execCEqD (fs ft : Reg) (s : State) : Result :=
  fpCompare .d 2 fs ft s

/-- C.UEQ.D (R610). -/
def execCUeqD (fs ft : Reg) (s : State) : Result :=
  fpCompare .d 3 fs ft s

/-- C.OLT.D (R610). -/
def execCOltD (fs ft : Reg) (s : State) : Result :=
  fpCompare .d 4 fs ft s

/-- C.ULT.D (R610). -/
def execCUltD (fs ft : Reg) (s : State) : Result :=
  fpCompare .d 5 fs ft s

/-- C.OLE.D (R610). -/
def execCOleD (fs ft : Reg) (s : State) : Result :=
  fpCompare .d 6 fs ft s

/-- C.ULE.D (R610). -/
def execCUleD (fs ft : Reg) (s : State) : Result :=
  fpCompare .d 7 fs ft s

/-- C.SF.D (R610). -/
def execCSfD (fs ft : Reg) (s : State) : Result :=
  fpCompare .d 8 fs ft s

/-- C.NGLE.D (R610). -/
def execCNgleD (fs ft : Reg) (s : State) : Result :=
  fpCompare .d 9 fs ft s

/-- C.SEQ.D (R610). -/
def execCSeqD (fs ft : Reg) (s : State) : Result :=
  fpCompare .d 10 fs ft s

/-- C.NGL.D (R610). -/
def execCNglD (fs ft : Reg) (s : State) : Result :=
  fpCompare .d 11 fs ft s

/-- C.LT.D (R610). -/
def execCLtD (fs ft : Reg) (s : State) : Result :=
  fpCompare .d 12 fs ft s

/-- C.NGE.D (R610). -/
def execCNgeD (fs ft : Reg) (s : State) : Result :=
  fpCompare .d 13 fs ft s

/-- C.LE.D (R610). -/
def execCLeD (fs ft : Reg) (s : State) : Result :=
  fpCompare .d 14 fs ft s

/-- C.NGT.D (R610). -/
def execCNgtD (fs ft : Reg) (s : State) : Result :=
  fpCompare .d 15 fs ft s

end Sys2Proof.Machine
end

