-- ==== Sys2Proof/Machine/IntegerAlu.lean ====
section
/-! DEFINITION. Integer arithmetic, logic, compare and shift (spec/40_integer_alu.md). -/

namespace Sys2Proof.Machine

/-- The low word of x[i], the operand of a 32-bit operation (R300). -/
def word (s : State) (i : Reg) : Word := lo32 (gpr s i)

/-- x[rd] <- sext_32(v). -/
def setWord (s : State) (rd : Reg) (v : Word) : State := setGpr s rd (sext32 v)

/-- The truth of a comparison as a register value. -/
def truth (b : Bool) : Dword := if b then 1 else 0

/-! ## Add and subtract (R302 to R313) -/

/-- ADD (R302). -/
def execAdd (rd rs rt : Reg) (s : State) : Result :=
  on32 s [gpr s rs, gpr s rt]
    (checked 32 ((word s rs).toInt + (word s rt).toInt) rd (sext32 (word s rs + word s rt)) s)

/-- ADDU (R303). -/
def execAddu (rd rs rt : Reg) (s : State) : Result :=
  on32 s [gpr s rs, gpr s rt] (seq (setWord s rd (word s rs + word s rt)))

/-- SUB (R304). -/
def execSub (rd rs rt : Reg) (s : State) : Result :=
  on32 s [gpr s rs, gpr s rt]
    (checked 32 ((word s rs).toInt - (word s rt).toInt) rd (sext32 (word s rs - word s rt)) s)

/-- SUBU (R305). -/
def execSubu (rd rs rt : Reg) (s : State) : Result :=
  on32 s [gpr s rs, gpr s rt] (seq (setWord s rd (word s rs - word s rt)))

/-- ADDI (R306). -/
def execAddi (rt rs : Reg) (imm : BitVec 16) (s : State) : Result :=
  on32 s [gpr s rs]
    (checked 32 ((word s rs).toInt + imm.toInt) rt (sext32 (word s rs + sext16To32 imm)) s)

/-- ADDIU (R307). -/
def execAddiu (rt rs : Reg) (imm : BitVec 16) (s : State) : Result :=
  on32 s [gpr s rs] (seq (setWord s rt (word s rs + sext16To32 imm)))

/-- DADD (R308). -/
def execDadd (rd rs rt : Reg) (s : State) : Result :=
  checked 64 ((gpr s rs).toInt + (gpr s rt).toInt) rd (gpr s rs + gpr s rt) s

/-- DADDU (R309). -/
def execDaddu (rd rs rt : Reg) (s : State) : Result :=
  seq (setGpr s rd (gpr s rs + gpr s rt))

/-- DSUB (R310). -/
def execDsub (rd rs rt : Reg) (s : State) : Result :=
  checked 64 ((gpr s rs).toInt - (gpr s rt).toInt) rd (gpr s rs - gpr s rt) s

/-- DSUBU (R311). -/
def execDsubu (rd rs rt : Reg) (s : State) : Result :=
  seq (setGpr s rd (gpr s rs - gpr s rt))

/-- DADDI (R312). -/
def execDaddi (rt rs : Reg) (imm : BitVec 16) (s : State) : Result :=
  checked 64 ((gpr s rs).toInt + imm.toInt) rt (gpr s rs + sext16 imm) s

/-- DADDIU (R313). -/
def execDaddiu (rt rs : Reg) (imm : BitVec 16) (s : State) : Result :=
  seq (setGpr s rt (gpr s rs + sext16 imm))

/-! ## Logic and LUI (R314 to R321) -/

/-- AND (R314). -/
def execAnd (rd rs rt : Reg) (s : State) : Result :=
  seq (setGpr s rd (gpr s rs &&& gpr s rt))

/-- OR (R315). -/
def execOr (rd rs rt : Reg) (s : State) : Result :=
  seq (setGpr s rd (gpr s rs ||| gpr s rt))

/-- XOR (R316). -/
def execXor (rd rs rt : Reg) (s : State) : Result :=
  seq (setGpr s rd (gpr s rs ^^^ gpr s rt))

/-- NOR (R317). -/
def execNor (rd rs rt : Reg) (s : State) : Result :=
  seq (setGpr s rd (~~~(gpr s rs ||| gpr s rt)))

/-- ANDI (R318). -/
def execAndi (rt rs : Reg) (imm : BitVec 16) (s : State) : Result :=
  seq (setGpr s rt (gpr s rs &&& zext16 imm))

/-- ORI (R319). -/
def execOri (rt rs : Reg) (imm : BitVec 16) (s : State) : Result :=
  seq (setGpr s rt (gpr s rs ||| zext16 imm))

/-- XORI (R320). -/
def execXori (rt rs : Reg) (imm : BitVec 16) (s : State) : Result :=
  seq (setGpr s rt (gpr s rs ^^^ zext16 imm))

/-- LUI (R321). -/
def execLui (rt : Reg) (imm : BitVec 16) (s : State) : Result :=
  seq (setWord s rt (imm ++ (0 : BitVec 16)))

/-! ## Set on less than (R322 to R325) -/

/-- SLT (R322). -/
def execSlt (rd rs rt : Reg) (s : State) : Result :=
  seq (setGpr s rd (truth ((gpr s rs).slt (gpr s rt))))

/-- SLTU (R323). -/
def execSltu (rd rs rt : Reg) (s : State) : Result :=
  seq (setGpr s rd (truth ((gpr s rs).ult (gpr s rt))))

/-- SLTI (R324). -/
def execSlti (rt rs : Reg) (imm : BitVec 16) (s : State) : Result :=
  seq (setGpr s rt (truth ((gpr s rs).slt (sext16 imm))))

/-- SLTIU (R325). -/
def execSltiu (rt rs : Reg) (imm : BitVec 16) (s : State) : Result :=
  seq (setGpr s rt (truth ((gpr s rs).ult (sext16 imm))))

/-! ## Shifts (R326 to R340) -/

/-- SLL (R326). -/
def execSll (rd rt : Reg) (sa : BitVec 5) (s : State) : Result :=
  on32 s [gpr s rt] (seq (setWord s rd (word s rt <<< sa.toNat)))

/-- SRL (R327). -/
def execSrl (rd rt : Reg) (sa : BitVec 5) (s : State) : Result :=
  on32 s [gpr s rt] (seq (setWord s rd (word s rt >>> sa.toNat)))

/-- SRA (R328). -/
def execSra (rd rt : Reg) (sa : BitVec 5) (s : State) : Result :=
  on32 s [gpr s rt] (seq (setWord s rd ((word s rt).sshiftRight sa.toNat)))

/-- The amount of a 32-bit variable shift: x[rs][4:0]. -/
def amount5 (s : State) (rs : Reg) : Nat := ((gpr s rs).setWidth 5).toNat

/-- The amount of a 64-bit variable shift: x[rs][5:0]. -/
def amount6 (s : State) (rs : Reg) : Nat := ((gpr s rs).setWidth 6).toNat

/-- SLLV (R329). -/
def execSllv (rd rt rs : Reg) (s : State) : Result :=
  on32 s [gpr s rt, gpr s rs] (seq (setWord s rd (word s rt <<< amount5 s rs)))

/-- SRLV (R330). -/
def execSrlv (rd rt rs : Reg) (s : State) : Result :=
  on32 s [gpr s rt, gpr s rs] (seq (setWord s rd (word s rt >>> amount5 s rs)))

/-- SRAV (R331). -/
def execSrav (rd rt rs : Reg) (s : State) : Result :=
  on32 s [gpr s rt, gpr s rs] (seq (setWord s rd ((word s rt).sshiftRight (amount5 s rs))))

/-- DSLL (R332). -/
def execDsll (rd rt : Reg) (sa : BitVec 5) (s : State) : Result :=
  seq (setGpr s rd (gpr s rt <<< sa.toNat))

/-- DSRL (R333). -/
def execDsrl (rd rt : Reg) (sa : BitVec 5) (s : State) : Result :=
  seq (setGpr s rd (gpr s rt >>> sa.toNat))

/-- DSRA (R334). -/
def execDsra (rd rt : Reg) (sa : BitVec 5) (s : State) : Result :=
  seq (setGpr s rd ((gpr s rt).sshiftRight sa.toNat))

/-- DSLL32 (R335). -/
def execDsll32 (rd rt : Reg) (sa : BitVec 5) (s : State) : Result :=
  seq (setGpr s rd (gpr s rt <<< (sa.toNat + 32)))

/-- DSRL32 (R336). -/
def execDsrl32 (rd rt : Reg) (sa : BitVec 5) (s : State) : Result :=
  seq (setGpr s rd (gpr s rt >>> (sa.toNat + 32)))

/-- DSRA32 (R337). -/
def execDsra32 (rd rt : Reg) (sa : BitVec 5) (s : State) : Result :=
  seq (setGpr s rd ((gpr s rt).sshiftRight (sa.toNat + 32)))

/-- DSLLV (R338). -/
def execDsllv (rd rt rs : Reg) (s : State) : Result :=
  seq (setGpr s rd (gpr s rt <<< amount6 s rs))

/-- DSRLV (R339). -/
def execDsrlv (rd rt rs : Reg) (s : State) : Result :=
  seq (setGpr s rd (gpr s rt >>> amount6 s rs))

/-- DSRAV (R340). -/
def execDsrav (rd rt rs : Reg) (s : State) : Result :=
  seq (setGpr s rd ((gpr s rt).sshiftRight (amount6 s rs)))

end Sys2Proof.Machine
end

