-- ==== Sys2Proof/Machine/LoadStore.lean ====
section
/-! DEFINITION. Loads, stores, the unaligned accesses and load-linked/store-conditional (spec/43_load_store.md). -/

namespace Sys2Proof.Machine

/-- x[rt] <- v, then retire. -/
def loadGpr (rt : Reg) (v : Dword) (s : State) : Result := seq (setGpr s rt v)

/-- LB (R463). -/
def execLb (rt : Reg) (offset : BitVec 16) (base : Reg) (s : State) : Result :=
  loadFrom 1 (effective s base offset) s fun v s' => loadGpr rt ((v.setWidth 8).signExtend 64) s'

/-- LBU (R464). -/
def execLbu (rt : Reg) (offset : BitVec 16) (base : Reg) (s : State) : Result :=
  loadFrom 1 (effective s base offset) s fun v s' => loadGpr rt ((v.setWidth 8).setWidth 64) s'

/-- LH (R465). -/
def execLh (rt : Reg) (offset : BitVec 16) (base : Reg) (s : State) : Result :=
  loadFrom 2 (effective s base offset) s fun v s' => loadGpr rt (sext16 (v.setWidth 16)) s'

/-- LHU (R466). -/
def execLhu (rt : Reg) (offset : BitVec 16) (base : Reg) (s : State) : Result :=
  loadFrom 2 (effective s base offset) s fun v s' => loadGpr rt (zext16 (v.setWidth 16)) s'

/-- LW (R467). -/
def execLw (rt : Reg) (offset : BitVec 16) (base : Reg) (s : State) : Result :=
  loadFrom 4 (effective s base offset) s fun v s' => loadGpr rt (sext32 (lo32 v)) s'

/-- LWU (R468). -/
def execLwu (rt : Reg) (offset : BitVec 16) (base : Reg) (s : State) : Result :=
  loadFrom 4 (effective s base offset) s fun v s' => loadGpr rt (zext32 (lo32 v)) s'

/-- LD (R469). -/
def execLd (rt : Reg) (offset : BitVec 16) (base : Reg) (s : State) : Result :=
  loadFrom 8 (effective s base offset) s fun v s' => loadGpr rt (v) s'

/-- SB (R470). -/
def execSb (rt : Reg) (offset : BitVec 16) (base : Reg) (s : State) : Result :=
  storeTo 1 (effective s base offset) (gpr s rt) s seq

/-- SH (R471). -/
def execSh (rt : Reg) (offset : BitVec 16) (base : Reg) (s : State) : Result :=
  storeTo 2 (effective s base offset) (gpr s rt) s seq

/-- SW (R472). -/
def execSw (rt : Reg) (offset : BitVec 16) (base : Reg) (s : State) : Result :=
  storeTo 4 (effective s base offset) (gpr s rt) s seq

/-- SD (R473). -/
def execSd (rt : Reg) (offset : BitVec 16) (base : Reg) (s : State) : Result :=
  storeTo 8 (effective s base offset) (gpr s rt) s seq

/-! ## Unaligned accesses (R479 to R487) -/

/-- LWL (R480). -/
def execLwl (rt : Reg) (offset : BitVec 16) (base : Reg) (s : State) : Result :=
  loadUnit 4 (effective s base offset) s fun m k s' =>
    loadGpr rt (sext32 (mergeLwl (lo32 m) k (lo32 (gpr s rt)))) s'

/-- LWR (R481). -/
def execLwr (rt : Reg) (offset : BitVec 16) (base : Reg) (s : State) : Result :=
  loadUnit 4 (effective s base offset) s fun m k s' =>
    loadGpr rt (sext32 (mergeLwr (lo32 m) k (lo32 (gpr s rt)))) s'

/-- LDL (R482). -/
def execLdl (rt : Reg) (offset : BitVec 16) (base : Reg) (s : State) : Result :=
  loadUnit 8 (effective s base offset) s fun m k s' => loadGpr rt (mergeLdl m k (gpr s rt)) s'

/-- LDR (R483). -/
def execLdr (rt : Reg) (offset : BitVec 16) (base : Reg) (s : State) : Result :=
  loadUnit 8 (effective s base offset) s fun m k s' => loadGpr rt (mergeLdr m k (gpr s rt)) s'

/-- SWL (R484). -/
def execSwl (rt : Reg) (offset : BitVec 16) (base : Reg) (s : State) : Result :=
  storeUnit 4 (effective s base offset) (fun k => zext32 (lo32 (gpr s rt) >>> (8 * k))) (fun k => 0x0F >>> k) s

/-- SWR (R485). -/
def execSwr (rt : Reg) (offset : BitVec 16) (base : Reg) (s : State) : Result :=
  storeUnit 4 (effective s base offset) (fun k => zext32 (lo32 (gpr s rt) <<< (8 * (3 - k))))
    (fun k => (0x0F <<< (3 - k)) &&& 0x0F) s

/-- SDL (R486). -/
def execSdl (rt : Reg) (offset : BitVec 16) (base : Reg) (s : State) : Result :=
  storeUnit 8 (effective s base offset) (fun k => gpr s rt >>> (8 * k)) (fun k => 0xFF >>> k) s

/-- SDR (R487). -/
def execSdr (rt : Reg) (offset : BitVec 16) (base : Reg) (s : State) : Result :=
  storeUnit 8 (effective s base offset) (fun k => gpr s rt <<< (8 * (7 - k))) (fun k => 0xFF <<< (7 - k)) s

/-! ## Load-linked and store-conditional (R490 to R493) -/

/-- LLbit <- 1 and LLAddr <- pa >> 4. -/
def link (s : State) (pa : Word) : State := { setLlbit s true with cp0.llAddr := pa >>> 4 }

/-- A store-conditional of `n` bytes (R492, R493): the checks are made whatever LLbit holds. -/
def storeConditional (n : Nat) (va : Dword) (rt : Reg) (s : State) : Result :=
  storeAt n va s fun pa =>
    if s.cpu.llbit then stored (memWrite s pa n (gpr s rt)) (fun s' => seq (setGpr s' rt 1)) else seq (setGpr s rt 0)

/-- LL (R490). -/
def execLl (rt : Reg) (offset : BitVec 16) (base : Reg) (s : State) : Result :=
  loadAt 4 (effective s base offset) s fun pa v s' => seq (link (setGpr s' rt (sext32 (lo32 v))) pa)

/-- LLD (R491). -/
def execLld (rt : Reg) (offset : BitVec 16) (base : Reg) (s : State) : Result :=
  loadAt 8 (effective s base offset) s fun pa v s' => seq (link (setGpr s' rt v) pa)

/-- SC (R492). -/
def execSc (rt : Reg) (offset : BitVec 16) (base : Reg) (s : State) : Result :=
  storeConditional 4 (effective s base offset) rt s

/-- SCD (R493). -/
def execScd (rt : Reg) (offset : BitVec 16) (base : Reg) (s : State) : Result :=
  storeConditional 8 (effective s base offset) rt s

end Sys2Proof.Machine
end

