-- ==== Sys2Proof/Machine/MulDiv.lean ====
section
/-! DEFINITION. Multiply, divide and the HI and LO transfers (spec/41_muldiv.md). -/

namespace Sys2Proof.Machine

/-- (HI, LO) <- (hi, lo). -/
def setHiLo (s : State) (hi lo : Dword) : State := setLo (setHi s hi) lo

/-- A 64-bit product split into sign-extended halves (R381, R382). -/
def setProduct32 (s : State) (p : Dword) : State := setHiLo s (sext32 (hi32 p)) (sext32 (lo32 p))

/-- A 128-bit product split into halves (R383, R384). -/
def setProduct64 (s : State) (p : BitVec 128) : State := setHiLo s (p.extractLsb' 64 64) (p.extractLsb' 0 64)

/-- MULT (R381). -/
def execMult (rs rt : Reg) (s : State) : Result :=
  on32 s [gpr s rs, gpr s rt]
    (seq (setProduct32 s (BitVec.ofInt 64 ((word s rs).toInt * (word s rt).toInt))))

/-- MULTU (R382). -/
def execMultu (rs rt : Reg) (s : State) : Result :=
  on32 s [gpr s rs, gpr s rt]
    (seq (setProduct32 s (BitVec.ofNat 64 ((word s rs).toNat * (word s rt).toNat))))

/-- DMULT (R383). -/
def execDmult (rs rt : Reg) (s : State) : Result :=
  seq (setProduct64 s (BitVec.ofInt 128 ((gpr s rs).toInt * (gpr s rt).toInt)))

/-- DMULTU (R384). -/
def execDmultu (rs rt : Reg) (s : State) : Result :=
  seq (setProduct64 s (BitVec.ofNat 128 ((gpr s rs).toNat * (gpr s rt).toNat)))

/-- The VR4300's (LO, HI) for a zero divisor (R390): `n` is the dividend, extended to 64 bits. -/
def div0Default (k : DivKind) (n : Dword) : Dword × Dword :=
  match k with
  | .div | .ddiv => (if n.toInt < 0 then 1 else 0xFFFFFFFFFFFFFFFF, n)
  | .divu => (0xFFFFFFFFFFFFFFFF, sext32 (lo32 n))
  | .ddivu => (0xFFFFFFFFFFFFFFFF, n)

/-- The end of a divide by zero: DIV0 (R390). -/
def divideByZero (k : DivKind) (n : Dword) (s : State) : Result :=
  match s.cfg.div0 with
  | .vr4300 => seq (setHiLo s (div0Default k n).2 (div0Default k n).1)
  | .supplied => seq (setHiLo s (Config.div0Supplied k n).2 (Config.div0Supplied k n).1)
  | .refuse => .refused .divisionByZero

/-- DIV (R386): the quotient truncates toward zero (R385). Where NONSEXT32 and DIV0 both refuse (R300, R390), the operand is
named, not the divisor: the model's choice (notes/assumptions/21.md). -/
def execDiv (rs rt : Reg) (s : State) : Result :=
  on32 s [gpr s rs, gpr s rt]
    (if word s rt = 0 then divideByZero .div (sext32 (word s rs)) s
     else seq (setHiLo s (sext32 (BitVec.ofInt 32 ((word s rs).toInt.tmod (word s rt).toInt)))
       (sext32 (BitVec.ofInt 32 ((word s rs).toInt.tdiv (word s rt).toInt)))))

/-- DIVU (R387). As DIV, it names the operand where both refuse: the model's choice (notes/assumptions/21.md). -/
def execDivu (rs rt : Reg) (s : State) : Result :=
  on32 s [gpr s rs, gpr s rt]
    (if word s rt = 0 then divideByZero .divu (zext32 (word s rs)) s
     else seq (setHiLo s (sext32 (word s rs % word s rt)) (sext32 (word s rs / word s rt))))

/-- DDIV (R388). -/
def execDdiv (rs rt : Reg) (s : State) : Result :=
  if gpr s rt = 0 then divideByZero .ddiv (gpr s rs) s
  else seq (setHiLo s (BitVec.ofInt 64 ((gpr s rs).toInt.tmod (gpr s rt).toInt))
    (BitVec.ofInt 64 ((gpr s rs).toInt.tdiv (gpr s rt).toInt)))

/-- DDIVU (R389). -/
def execDdivu (rs rt : Reg) (s : State) : Result :=
  if gpr s rt = 0 then divideByZero .ddivu (gpr s rs) s
  else seq (setHiLo s (gpr s rs % gpr s rt) (gpr s rs / gpr s rt))

/-- MFHI (R391). -/
def execMfhi (rd : Reg) (s : State) : Result :=
  seq (setGpr s rd s.cpu.hi)

/-- MFLO (R392). -/
def execMflo (rd : Reg) (s : State) : Result :=
  seq (setGpr s rd s.cpu.lo)

/-- MTHI (R393). -/
def execMthi (rs : Reg) (s : State) : Result :=
  seq (setHi s (gpr s rs))

/-- MTLO (R394). -/
def execMtlo (rs : Reg) (s : State) : Result :=
  seq (setLo s (gpr s rs))

end Sys2Proof.Machine
end

