-- ==== Sys2Proof/Machine/Rdp.lean ====
section
/-! DEFINITION. The DisplayProcessor's commands (spec/48_rasterizer.md R1010 to R1049). -/

namespace Sys2Proof.Machine

/-! ## The buffers (R1007, R1008) -/

/-- FAR (R73). -/
def depthFar : Word := 0xFFFFFFFF

/-- fb[y][x] as its colour value (R1007). -/
def pixel (s : State) (x y : Nat) : Word := Store.get 0 s.rdp.fb (y * s.rdp.fbWidth + x)

/-- depth[y][x]. -/
def depthAt (s : State) (x y : Nat) : Word := Store.get depthFar s.rdp.depth (y * s.rdp.fbWidth + x)

/-- fb[y][x] <- c. -/
def setPixel (s : State) (x y : Nat) (c : Word) : State :=
  { s with rdp.fb := Store.set 0 s.rdp.fb (y * s.rdp.fbWidth + x) c }

/-- depth[y][x] <- z. -/
def setDepth (s : State) (x y : Nat) (z : Word) : State :=
  { s with rdp.depth := Store.set depthFar s.rdp.depth (y * s.rdp.fbWidth + x) z }

/-- Both buffers replaced by fresh ones of width `w` (R1008). -/
def newBuffers (s : State) (w : Nat) : State :=
  { s with rdp.fbWidth := w, rdp.fb := [], rdp.depth := [] }

/-! ## Set-commands (R1004) -/

/-- dp_state[op] <- w, w being the whole command word. -/
def setDpState (op : BitVec 8) (payload : BitVec 56) (s : State) : State :=
  { s with rdp.dpState := Store.set 0 s.rdp.dpState op.toNat (op ++ payload) }

/-- A set-command with no other effect. -/
def setCommand (op : BitVec 8) (payload : BitVec 56) (s : State) : Result := .next (setDpState op payload s)

/-! ## Triangles (R1011 to R1014) -/

/-- Every field of two vertices combined. -/
def Vertex.zip (f : Rat → Rat → Rat) (p q : Vertex) : Vertex where
  x := f p.x q.x
  y := f p.y q.y
  z := f p.z q.z
  r := f p.r q.r
  g := f p.g q.g
  b := f p.b q.b
  a := f p.a q.a
  s := f p.s q.s
  t := f p.t q.t
  w := f p.w q.w

/-- P + (Q - P) · k, field by field. -/
def Vertex.along (p q : Vertex) (k : Rat) : Vertex := Vertex.zip (fun a b => a + (b - a) * k) p q

/-- `lerp(P, Q, y)` (R1012). -/
def Vertex.lerp (p q : Vertex) (y : Rat) : Vertex := Vertex.along p q ((y - p.y) / (q.y - p.y))

/-- The stable sort by ascending y (R1012). -/
def sortByY (v1 v2 v3 : Vertex) : Vertex × Vertex × Vertex :=
  let p := if v1.y ≤ v2.y then v1 else v2
  let q := if v1.y ≤ v2.y then v2 else v1
  if q.y ≤ v3.y then (p, q, v3) else if p.y ≤ v3.y then (p, v3, q) else (v3, p, q)

/-- ⌊r⌋ clamped to 0 .. hi. -/
def clampFloor (r : Rat) (hi : Int) : Int := clamp 0 hi r.floor

/-- TRI_SHADE (R1014). -/
def triShade (s : State) (op : BitVec 8) (p : Vertex) : Word :=
  match s.cfg.triShade with
  | .vertexColour =>
    BitVec.ofInt 8 (clampFloor p.r 255) ++ BitVec.ofInt 8 (clampFloor p.g 255) ++ BitVec.ofInt 8 (clampFloor p.b 255) ++
      BitVec.ofInt 8 (clampFloor p.a 255)
  | .supplied => Config.triShadeSupplied op p s.rdp.dpState

/-- `plot` (R1013). -/
def plot (op : BitVec 8) (px py : Nat) (p : Vertex) (s : State) : State :=
  if op.getLsbD 0 then
    let zi := BitVec.ofInt 32 (clampFloor p.z 0xFFFFFFFF)
    if zi < depthAt s px py then setDepth (setPixel s px py (triShade s op p)) px py zi else s
  else setPixel s px py (triShade s op p)

/-- One pixel of a scanline from L to R: drawn when L.x ≤ px < R.x (R1012). -/
def scanPixel (op : BitVec 8) (l r : Vertex) (py px : Nat) (s : State) : State :=
  if l.x ≤ (px : Rat) ∧ (px : Rat) < r.x then plot op px py (Vertex.along l r (((px : Rat) - l.x) / (r.x - l.x))) s
  else s

/-- One scanline of the sorted triangle A, B, C, when A.y ≤ py < C.y (R1012). -/
def scanLine (op : BitVec 8) (a b c : Vertex) (py : Nat) (s : State) : State :=
  if a.y ≤ (py : Rat) ∧ (py : Rat) < c.y then
    let long := Vertex.lerp a c py
    let short := if (py : Rat) < b.y then Vertex.lerp a b py else Vertex.lerp b c py
    let l := if long.x ≤ short.x then long else short
    let r := if long.x ≤ short.x then short else long
    (List.range s.rdp.fbWidth).foldl (fun s' px => scanPixel op l r py px s') s
  else s

/-- `draw_triangle` (R1012). -/
def drawTriangle (op : BitVec 8) (v : Vertex × Vertex × Vertex) (s : State) : State :=
  let t := sortByY v.1 v.2.1 v.2.2
  (List.range s.rdp.fbHeight).foldl (fun s' py => scanLine op t.1 t.2.1 t.2.2 py s') s

/-- A triangle command: decoded by TRI_DECODE, then drawn. The default TRI_DECODE refuses (R1011). -/
def triangle (op : BitVec 8) (payload : BitVec 56) (rest : List Dword) (s : State) : Result :=
  match s.cfg.triDecode with
  | .refuse => .refused .triangleDecoding
  | .supplied => .next (drawTriangle op (Config.triDecodeSupplied op ((op ++ payload) :: rest)) s)

/-! ## Fill (R1040) -/

/-- Row `y` of a filled rectangle: pixels x0 to x1 - 1, clipped to the buffer. -/
def fillRow (x0 x1 : Nat) (c : Word) (y : Nat) (s : State) : State :=
  { s with rdp.fb := Store.fill 0 s.rdp.fb (y * s.rdp.fbWidth + x0) (min x1 s.rdp.fbWidth - x0) c }

/-- The half-open rectangle [x0, x1) × [y0, y1), clipped to the buffer. -/
def fillRectangle (x0 x1 y0 y1 : Nat) (s : State) : State :=
  (List.range (min y1 s.rdp.fbHeight - y0)).foldl (fun s' k => fillRow x0 x1 s.rdp.fillColor (y0 + k) s') s

/-- An unsigned 10.2 coordinate in whole pixels. -/
def pixels (c : BitVec 12) : Nat := c.toNat / 4

/-! ## The commands -/

/-- NOP (R1010). -/
def execRdpNop (s : State) : Result := .next s

/-- TRIANGLE (R1015). -/
def execRdpTriangle (payload : BitVec 56) (rest : List Dword) (s : State) : Result := triangle 0x08 payload rest s

/-- TRIANGLE_Z (R1016). -/
def execRdpTriangleZ (payload : BitVec 56) (rest : List Dword) (s : State) : Result := triangle 0x09 payload rest s

/-- TRIANGLE_TEX (R1017). -/
def execRdpTriangleTex (payload : BitVec 56) (rest : List Dword) (s : State) : Result := triangle 0x0A payload rest s

/-- TRIANGLE_TEX_Z (R1018). -/
def execRdpTriangleTexZ (payload : BitVec 56) (rest : List Dword) (s : State) : Result := triangle 0x0B payload rest s

/-- TRIANGLE_SHADE (R1019). -/
def execRdpTriangleShade (payload : BitVec 56) (rest : List Dword) (s : State) : Result := triangle 0x0C payload rest s

/-- TRIANGLE_SHADE_Z (R1020). -/
def execRdpTriangleShadeZ (payload : BitVec 56) (rest : List Dword) (s : State) : Result := triangle 0x0D payload rest s

/-- TRIANGLE_SHADE_TEX (R1021). -/
def execRdpTriangleShadeTex (payload : BitVec 56) (rest : List Dword) (s : State) : Result := triangle 0x0E payload rest s

/-- TRIANGLE_SHADE_TEX_Z (R1022). -/
def execRdpTriangleShadeTexZ (payload : BitVec 56) (rest : List Dword) (s : State) : Result := triangle 0x0F payload rest s

/-- TEXTURE_RECTANGLE (R1023): refused. -/
def execRdpTextureRectangle (_payload : BitVec 56) (_rest : List Dword) (_s : State) : Result := .refused .textureRectangle

/-- TEXTURE_RECTANGLE_FLIP (R1024): refused. -/
def execRdpTextureRectangleFlip (_payload : BitVec 56) (_rest : List Dword) (_s : State) : Result :=
  .refused .textureRectangleFlip

/-- SYNC_LOAD (R1025): no effect. -/
def execRdpSyncLoad (s : State) : Result := .next s

/-- SYNC_PIPE (R1026): no effect. -/
def execRdpSyncPipe (s : State) : Result := .next s

/-- SYNC_TILE (R1027): no effect. -/
def execRdpSyncTile (s : State) : Result := .next s

/-- SYNC_FULL (R1028). -/
def execRdpSyncFull (s : State) : Result := .next (miRaise s .dp)

/-- SET_KEY_GB (R1029). -/
def execRdpSetKeyGb (payload : BitVec 56) (s : State) : Result := setCommand 0x2A payload s

/-- SET_KEY_R (R1030). -/
def execRdpSetKeyR (payload : BitVec 56) (s : State) : Result := setCommand 0x2B payload s

/-- SET_CONVERT (R1031). -/
def execRdpSetConvert (payload : BitVec 56) (s : State) : Result := setCommand 0x2C payload s

/-- SET_SCISSOR (R1032). -/
def execRdpSetScissor (payload : BitVec 56) (s : State) : Result := setCommand 0x2D payload s

/-- SET_PRIM_DEPTH (R1033). -/
def execRdpSetPrimDepth (payload : BitVec 56) (s : State) : Result := setCommand 0x2E payload s

/-- SET_OTHER_MODES (R1034). -/
def execRdpSetOtherModes (payload : BitVec 56) (s : State) : Result := setCommand 0x2F payload s

/-- LOAD_TLUT (R1035). -/
def execRdpLoadTlut (payload : BitVec 56) (s : State) : Result := setCommand 0x30 payload s

/-- SET_TILE_SIZE (R1036). -/
def execRdpSetTileSize (payload : BitVec 56) (s : State) : Result := setCommand 0x32 payload s

/-- LOAD_BLOCK (R1037). -/
def execRdpLoadBlock (payload : BitVec 56) (s : State) : Result := setCommand 0x33 payload s

/-- LOAD_TILE (R1038). -/
def execRdpLoadTile (payload : BitVec 56) (s : State) : Result := setCommand 0x34 payload s

/-- SET_TILE (R1039). -/
def execRdpSetTile (payload : BitVec 56) (s : State) : Result := setCommand 0x35 payload s

/-- FILL_RECTANGLE (R1040). -/
def execRdpFillRectangle (xl yl xh yh : BitVec 12) (s : State) : Result :=
  .next (fillRectangle (pixels xh) (pixels xl) (pixels yh) (pixels yl) s)

/-- SET_FILL_COLOR (R1041). -/
def execRdpSetFillColor (color : Word) (s : State) : Result := .next { s with rdp.fillColor := color }

/-- SET_FOG_COLOR (R1042). -/
def execRdpSetFogColor (payload : BitVec 56) (s : State) : Result := setCommand 0x38 payload s

/-- SET_BLEND_COLOR (R1043). -/
def execRdpSetBlendColor (payload : BitVec 56) (s : State) : Result := setCommand 0x39 payload s

/-- SET_PRIM_COLOR (R1044). -/
def execRdpSetPrimColor (payload : BitVec 56) (s : State) : Result := setCommand 0x3A payload s

/-- SET_ENV_COLOR (R1045). -/
def execRdpSetEnvColor (payload : BitVec 56) (s : State) : Result := setCommand 0x3B payload s

/-- SET_COMBINE_MODE (R1046). -/
def execRdpSetCombineMode (payload : BitVec 56) (s : State) : Result := setCommand 0x3C payload s

/-- SET_TEXTURE_IMAGE (R1047). -/
def execRdpSetTextureImage (payload : BitVec 56) (s : State) : Result := setCommand 0x3D payload s

/-- SET_Z_IMAGE (R1048). -/
def execRdpSetZImage (payload : BitVec 56) (s : State) : Result := setCommand 0x3E payload s

/-- The width that SET_COLOR_IMAGE's field names (R1049). -/
def imageWidth (payload : BitVec 56) : Nat := (payload.extractLsb' 32 10).toNat + 1

/-- SET_COLOR_IMAGE (R1049): a new width replaces both buffers. -/
def execRdpSetColorImage (payload : BitVec 56) (s : State) : Result :=
  if imageWidth payload = s.rdp.fbWidth then setCommand 0x3F payload s
  else .next (newBuffers (setDpState 0x3F payload s) (imageWidth payload))

end Sys2Proof.Machine
end

