-- ==== Sys2Proof/Machine/RspScalar.lean ====
section
/-! DEFINITION. The VectorUnit's scalar instructions and coprocessor-0 moves (spec/46_vector_unit.md R635 to R688). -/

namespace Sys2Proof.Machine

/-- sr[rd] <- v, then retire. -/
def vuWrite (rd : Reg) (v : Word) (s : State) : Result := vuSeq (setSr s rd v)

/-- The truth of a comparison as a scalar register value. -/
def vuTruth (b : Bool) : Word := if b then 1 else 0

/-! ## Shifts (R642 to R647) -/

/-- SLL (R642). -/
def execRspSll (rd rt : Reg) (sa : BitVec 5) (s : State) : Result :=
  vuWrite rd (sr s rt <<< sa.toNat) s

/-- SRL (R643). -/
def execRspSrl (rd rt : Reg) (sa : BitVec 5) (s : State) : Result :=
  vuWrite rd (sr s rt >>> sa.toNat) s

/-- SRA (R644). -/
def execRspSra (rd rt : Reg) (sa : BitVec 5) (s : State) : Result :=
  vuWrite rd ((sr s rt).sshiftRight sa.toNat) s

/-- The amount of a variable shift: sr[rs][4:0]. -/
def vuAmount (s : State) (rs : Reg) : Nat := ((sr s rs).setWidth 5).toNat

/-- SLLV (R645). -/
def execRspSllv (rd rt rs : Reg) (s : State) : Result :=
  vuWrite rd (sr s rt <<< vuAmount s rs) s

/-- SRLV (R646). -/
def execRspSrlv (rd rt rs : Reg) (s : State) : Result :=
  vuWrite rd (sr s rt >>> vuAmount s rs) s

/-- SRAV (R647). -/
def execRspSrav (rd rt rs : Reg) (s : State) : Result :=
  vuWrite rd ((sr s rt).sshiftRight (vuAmount s rs)) s

/-! ## Arithmetic and logic (R648 to R665): no scalar instruction traps -/

/-- ADD (R648). -/
def execRspAdd (rd rs rt : Reg) (s : State) : Result :=
  vuWrite rd (sr s rs + sr s rt) s

/-- ADDU (R649). -/
def execRspAddu (rd rs rt : Reg) (s : State) : Result :=
  vuWrite rd (sr s rs + sr s rt) s

/-- SUB (R650). -/
def execRspSub (rd rs rt : Reg) (s : State) : Result :=
  vuWrite rd (sr s rs - sr s rt) s

/-- SUBU (R651). -/
def execRspSubu (rd rs rt : Reg) (s : State) : Result :=
  vuWrite rd (sr s rs - sr s rt) s

/-- AND (R652). -/
def execRspAnd (rd rs rt : Reg) (s : State) : Result :=
  vuWrite rd (sr s rs &&& sr s rt) s

/-- OR (R653). -/
def execRspOr (rd rs rt : Reg) (s : State) : Result :=
  vuWrite rd (sr s rs ||| sr s rt) s

/-- XOR (R654). -/
def execRspXor (rd rs rt : Reg) (s : State) : Result :=
  vuWrite rd (sr s rs ^^^ sr s rt) s

/-- NOR (R655). -/
def execRspNor (rd rs rt : Reg) (s : State) : Result :=
  vuWrite rd (~~~(sr s rs ||| sr s rt)) s

/-- SLT (R656). -/
def execRspSlt (rd rs rt : Reg) (s : State) : Result :=
  vuWrite rd (vuTruth ((sr s rs).slt (sr s rt))) s

/-- SLTU (R657). -/
def execRspSltu (rd rs rt : Reg) (s : State) : Result :=
  vuWrite rd (vuTruth ((sr s rs).ult (sr s rt))) s

/-- ADDI (R658). -/
def execRspAddi (rt rs : Reg) (imm : BitVec 16) (s : State) : Result :=
  vuWrite rt (sr s rs + sext16To32 imm) s

/-- ADDIU (R659). -/
def execRspAddiu (rt rs : Reg) (imm : BitVec 16) (s : State) : Result :=
  vuWrite rt (sr s rs + sext16To32 imm) s

/-- SLTI (R660). -/
def execRspSlti (rt rs : Reg) (imm : BitVec 16) (s : State) : Result :=
  vuWrite rt (vuTruth ((sr s rs).slt (sext16To32 imm))) s

/-- SLTIU (R661). -/
def execRspSltiu (rt rs : Reg) (imm : BitVec 16) (s : State) : Result :=
  vuWrite rt (vuTruth ((sr s rs).ult (sext16To32 imm))) s

/-- ANDI (R662). -/
def execRspAndi (rt rs : Reg) (imm : BitVec 16) (s : State) : Result :=
  vuWrite rt (sr s rs &&& zext16To32 imm) s

/-- ORI (R663). -/
def execRspOri (rt rs : Reg) (imm : BitVec 16) (s : State) : Result :=
  vuWrite rt (sr s rs ||| zext16To32 imm) s

/-- XORI (R664). -/
def execRspXori (rt rs : Reg) (imm : BitVec 16) (s : State) : Result :=
  vuWrite rt (sr s rs ^^^ zext16To32 imm) s

/-- LUI (R665). -/
def execRspLui (rt : Reg) (imm : BitVec 16) (s : State) : Result :=
  vuWrite rt (imm ++ (0 : BitVec 16)) s

/-! ## Branches and jumps (R666 to R677) -/

/-- JR (R666). -/
def execRspJr (rs : Reg) (s : State) : Result :=
  vuControlTransfer s (.next (vuRetireBranch true (vuRegisterTarget (sr s rs)) s))

/-- JALR (R667): the target is read before the link is written. -/
def execRspJalr (rd rs : Reg) (s : State) : Result :=
  vuControlTransfer s (vuLinkNotSource (rd == rs)
    (.next (vuRetireBranch true (vuRegisterTarget (sr s rs)) (setSr s rd (vuLink s)))))

/-- J (R668). -/
def execRspJ (target : BitVec 26) (s : State) : Result :=
  vuControlTransfer s (.next (vuRetireBranch true (vuJumpTarget target) s))

/-- JAL (R669). -/
def execRspJal (target : BitVec 26) (s : State) : Result :=
  vuControlTransfer s (.next (vuRetireBranch true (vuJumpTarget target) (setSr s 31 (vuLink s))))

/-- s(sr[i]) < 0. -/
def vuNegative (s : State) (i : Reg) : Bool := (sr s i).getLsbD 31

/-- sr[i] = 0. -/
def vuZero (s : State) (i : Reg) : Bool := sr s i == 0

/-- BEQ (R670). -/
def execRspBeq (rs rt : Reg) (imm : BitVec 16) (s : State) : Result :=
  vuBranchOn (sr s rs == sr s rt) imm s

/-- BNE (R671). -/
def execRspBne (rs rt : Reg) (imm : BitVec 16) (s : State) : Result :=
  vuBranchOn (sr s rs != sr s rt) imm s

/-- BLEZ (R672). -/
def execRspBlez (rs : Reg) (imm : BitVec 16) (s : State) : Result :=
  vuBranchOn (vuNegative s rs || vuZero s rs) imm s

/-- BGTZ (R673). -/
def execRspBgtz (rs : Reg) (imm : BitVec 16) (s : State) : Result :=
  vuBranchOn (!(vuNegative s rs || vuZero s rs)) imm s

/-- BLTZ (R674). -/
def execRspBltz (rs : Reg) (imm : BitVec 16) (s : State) : Result :=
  vuBranchOn (vuNegative s rs) imm s

/-- BGEZ (R675). -/
def execRspBgez (rs : Reg) (imm : BitVec 16) (s : State) : Result :=
  vuBranchOn (!vuNegative s rs) imm s

/-- BLTZAL (R676). -/
def execRspBltzal (rs : Reg) (imm : BitVec 16) (s : State) : Result :=
  vuBranchLinkOn (vuNegative s rs) rs imm s

/-- BGEZAL (R677). -/
def execRspBgezal (rs : Reg) (imm : BitVec 16) (s : State) : Result :=
  vuBranchLinkOn (!vuNegative s rs) rs imm s

/-! ## BREAK (R637) -/

/-- BREAK (R637): it retires as a sequential instruction, then halts the unit. The code field has no effect. -/
def execRspBreak (_code : BitVec 20) (s : State) : Result := .next (vuBreak (vuRetireSeq s))

/-! ## Loads and stores (R678 to R686) -/

/-- LB (R678). -/
def execRspLb (rt : Reg) (offset : BitVec 16) (base : Reg) (s : State) : Result :=
  vuWrite rt (((dmemRead s (vuEffective s base offset) 1).setWidth 8).signExtend 32) s

/-- LH (R679). -/
def execRspLh (rt : Reg) (offset : BitVec 16) (base : Reg) (s : State) : Result :=
  vuWrite rt (sext16To32 ((dmemRead s (vuEffective s base offset) 2).setWidth 16)) s

/-- LW (R680). -/
def execRspLw (rt : Reg) (offset : BitVec 16) (base : Reg) (s : State) : Result :=
  vuWrite rt (dmemRead s (vuEffective s base offset) 4) s

/-- LBU (R681). -/
def execRspLbu (rt : Reg) (offset : BitVec 16) (base : Reg) (s : State) : Result :=
  vuWrite rt (dmemRead s (vuEffective s base offset) 1) s

/-- LHU (R682). -/
def execRspLhu (rt : Reg) (offset : BitVec 16) (base : Reg) (s : State) : Result :=
  vuWrite rt (dmemRead s (vuEffective s base offset) 2) s

/-- LWU (R683). -/
def execRspLwu (rt : Reg) (offset : BitVec 16) (base : Reg) (s : State) : Result :=
  vuWrite rt (dmemRead s (vuEffective s base offset) 4) s

/-- SB (R684). -/
def execRspSb (rt : Reg) (offset : BitVec 16) (base : Reg) (s : State) : Result :=
  vuSeq (dmemWrite s (vuEffective s base offset) (sr s rt) 1)

/-- SH (R685). -/
def execRspSh (rt : Reg) (offset : BitVec 16) (base : Reg) (s : State) : Result :=
  vuSeq (dmemWrite s (vuEffective s base offset) (sr s rt) 2)

/-- SW (R686). -/
def execRspSw (rt : Reg) (offset : BitVec 16) (base : Reg) (s : State) : Result :=
  vuSeq (dmemWrite s (vuEffective s base offset) (sr s rt) 4)

/-! ## Coprocessor-0 moves (R687, R688) -/

/-- MFC0 (R687), with every read side effect of the register. -/
def execRspMfc0 (rt rd : Reg) (s : State) : Result :=
  match vuCop0Address rd with
  | none => .refused .vectorUnitCop0Register
  | some pa => vuWrite rt (lo32 (memRead s pa 4).1) (memRead s pa 4).2

/-- MTC0 (R688), with every write side effect of the register. -/
def execRspMtc0 (rt rd : Reg) (s : State) : Result :=
  match vuCop0Address rd with
  | none => .refused .vectorUnitCop0Register
  | some pa => stored (memWrite s pa 4 (zext32 (sr s rt))) vuSeq

end Sys2Proof.Machine
end

