-- ==== Sys2Proof/Machine/RspTransfer.lean ====
section
/-! DEFINITION. The VectorUnit's scalar-vector moves and vector transfers (spec/46_vector_unit.md R689 to R718). -/

namespace Sys2Proof.Machine

/-! ## Moves (R690 to R693) -/

/-- MFC2 (R690). -/
def execRspMfc2 (rt vs : Reg) (e : BitVec 4) (s : State) : Result :=
  vuSeq (setSr s rt (sext16To32 (imgByte (vr s vs) e.toNat ++ imgByte (vr s vs) (e.toNat + 1))))

/-- The register that MTC2 leaves: byte e, and byte e + 1 when there is one (R691). -/
def mtc2Image (v : Vector Half 8) (e : Nat) (x : Word) : Vector Half 8 :=
  if e < 15 then setImgByte (setImgByte v e (x.extractLsb' 8 8)) (e + 1) (x.extractLsb' 0 8)
  else setImgByte v e (x.extractLsb' 8 8)

/-- MTC2 (R691). -/
def execRspMtc2 (rt vd : Reg) (e : BitVec 4) (s : State) : Result :=
  vuSeq (setVr s vd (mtc2Image (vr s vd) e.toNat (sr s rt)))

/-- CFC2 (R692). -/
def execRspCfc2 (rt rd : Reg) (s : State) : Result :=
  if rd = 0 then vuSeq (setSr s rt (s.vu.vco.setWidth 32))
  else if rd = 1 then vuSeq (setSr s rt (s.vu.vcc.setWidth 32))
  else if rd = 2 then vuSeq (setSr s rt (s.vu.vce.setWidth 32))
  else .refused .vectorUnitControlRegister

/-- CTC2 (R693). -/
def execRspCtc2 (rt rd : Reg) (s : State) : Result :=
  if rd = 0 then vuSeq { s with vu.vco := (sr s rt).setWidth 8 }
  else if rd = 1 then vuSeq { s with vu.vcc := (sr s rt).setWidth 8 }
  else if rd = 2 then vuSeq { s with vu.vce := (sr s rt).setWidth 8 }
  else .refused .vectorUnitControlRegister

/-! ## Loads and stores (R695 to R704) -/

/-- LBV (R695). -/
def execRspLbv (vt : Reg) (e : BitVec 4) (offset : BitVec 7) (base : Reg) (s : State) : Result :=
  vectorLoad 1 (vectorAddress s base offset 1) vt e s

/-- LSV (R696). -/
def execRspLsv (vt : Reg) (e : BitVec 4) (offset : BitVec 7) (base : Reg) (s : State) : Result :=
  vectorLoad 2 (vectorAddress s base offset 2) vt e s

/-- LLV (R697). -/
def execRspLlv (vt : Reg) (e : BitVec 4) (offset : BitVec 7) (base : Reg) (s : State) : Result :=
  vectorLoad 4 (vectorAddress s base offset 4) vt e s

/-- LDV (R698). -/
def execRspLdv (vt : Reg) (e : BitVec 4) (offset : BitVec 7) (base : Reg) (s : State) : Result :=
  vectorLoad 8 (vectorAddress s base offset 8) vt e s

/-- LQV (R699): to the end of the 16-byte block. -/
def execRspLqv (vt : Reg) (e : BitVec 4) (offset : BitVec 7) (base : Reg) (s : State) : Result :=
  vectorLoad (quadCount (vectorAddress s base offset 16)) (vectorAddress s base offset 16) vt e s

/-- SBV (R700). -/
def execRspSbv (vt : Reg) (e : BitVec 4) (offset : BitVec 7) (base : Reg) (s : State) : Result :=
  vectorStore 1 (vectorAddress s base offset 1) vt e s

/-- SSV (R701). -/
def execRspSsv (vt : Reg) (e : BitVec 4) (offset : BitVec 7) (base : Reg) (s : State) : Result :=
  vectorStore 2 (vectorAddress s base offset 2) vt e s

/-- SLV (R702). -/
def execRspSlv (vt : Reg) (e : BitVec 4) (offset : BitVec 7) (base : Reg) (s : State) : Result :=
  vectorStore 4 (vectorAddress s base offset 4) vt e s

/-- SDV (R703). -/
def execRspSdv (vt : Reg) (e : BitVec 4) (offset : BitVec 7) (base : Reg) (s : State) : Result :=
  vectorStore 8 (vectorAddress s base offset 8) vt e s

/-- SQV (R704): to the end of the 16-byte block. -/
def execRspSqv (vt : Reg) (e : BitVec 4) (offset : BitVec 7) (base : Reg) (s : State) : Result :=
  vectorStore (quadCount (vectorAddress s base offset 16)) (vectorAddress s base offset 16) vt e s

/-! ## The refused transfers (R705 to R718) -/

/-- LRV (R705): refused. -/
def execRspLrv (_vt : Reg) (_e : BitVec 4) (_offset : BitVec 7) (_base : Reg) (_s : State) : Result :=
  .refused (.vectorTransfer "LRV")

/-- LPV (R706): refused. -/
def execRspLpv (_vt : Reg) (_e : BitVec 4) (_offset : BitVec 7) (_base : Reg) (_s : State) : Result :=
  .refused (.vectorTransfer "LPV")

/-- LUV (R707): refused. -/
def execRspLuv (_vt : Reg) (_e : BitVec 4) (_offset : BitVec 7) (_base : Reg) (_s : State) : Result :=
  .refused (.vectorTransfer "LUV")

/-- LHV (R708): refused. -/
def execRspLhv (_vt : Reg) (_e : BitVec 4) (_offset : BitVec 7) (_base : Reg) (_s : State) : Result :=
  .refused (.vectorTransfer "LHV")

/-- LFV (R709): refused. -/
def execRspLfv (_vt : Reg) (_e : BitVec 4) (_offset : BitVec 7) (_base : Reg) (_s : State) : Result :=
  .refused (.vectorTransfer "LFV")

/-- LWV (R710): refused. -/
def execRspLwv (_vt : Reg) (_e : BitVec 4) (_offset : BitVec 7) (_base : Reg) (_s : State) : Result :=
  .refused (.vectorTransfer "LWV")

/-- LTV (R711): refused. -/
def execRspLtv (_vt : Reg) (_e : BitVec 4) (_offset : BitVec 7) (_base : Reg) (_s : State) : Result :=
  .refused (.vectorTransfer "LTV")

/-- SRV (R712): refused. -/
def execRspSrv (_vt : Reg) (_e : BitVec 4) (_offset : BitVec 7) (_base : Reg) (_s : State) : Result :=
  .refused (.vectorTransfer "SRV")

/-- SPV (R713): refused. -/
def execRspSpv (_vt : Reg) (_e : BitVec 4) (_offset : BitVec 7) (_base : Reg) (_s : State) : Result :=
  .refused (.vectorTransfer "SPV")

/-- SUV (R714): refused. -/
def execRspSuv (_vt : Reg) (_e : BitVec 4) (_offset : BitVec 7) (_base : Reg) (_s : State) : Result :=
  .refused (.vectorTransfer "SUV")

/-- SHV (R715): refused. -/
def execRspShv (_vt : Reg) (_e : BitVec 4) (_offset : BitVec 7) (_base : Reg) (_s : State) : Result :=
  .refused (.vectorTransfer "SHV")

/-- SFV (R716): refused. -/
def execRspSfv (_vt : Reg) (_e : BitVec 4) (_offset : BitVec 7) (_base : Reg) (_s : State) : Result :=
  .refused (.vectorTransfer "SFV")

/-- SWV (R717): refused. -/
def execRspSwv (_vt : Reg) (_e : BitVec 4) (_offset : BitVec 7) (_base : Reg) (_s : State) : Result :=
  .refused (.vectorTransfer "SWV")

/-- STV (R718): refused. -/
def execRspStv (_vt : Reg) (_e : BitVec 4) (_offset : BitVec 7) (_base : Reg) (_s : State) : Result :=
  .refused (.vectorTransfer "STV")

end Sys2Proof.Machine
end

