-- ==== Sys2Proof/Machine/RspVector.lean ====
section
/-! DEFINITION. The VectorUnit's vector computational instructions (spec/47_vector_ops.md). -/

namespace Sys2Proof.Machine

/-! ## Add, subtract, absolute value (R725 to R727) -/

/-- VADD (R725): VCC is saturation, VCO is cleared. -/
def execRspVadd (vd vs vt : Reg) (e : BitVec 4) (s : State) : Result :=
  vuSeq (vectorOpFlags (fun a b => a.toInt + b.toInt) (fun a b => saturates (a.toInt + b.toInt)) vd vs vt e s)

/-- VSUB (R726). -/
def execRspVsub (vd vs vt : Reg) (e : BitVec 4) (s : State) : Result :=
  vuSeq (vectorOpFlags (fun a b => a.toInt - b.toInt) (fun a b => saturates (a.toInt - b.toInt)) vd vs vt e s)

/-- The full result of VABS (R727): the sign of `a` applied to `b`. -/
def vabsFull (a b : Half) : Int := if a.toInt < 0 then -b.toInt else if 0 < a.toInt then b.toInt else 0

/-- VABS (R727). -/
def execRspVabs (vd vs vt : Reg) (e : BitVec 4) (s : State) : Result :=
  vuSeq (vectorOp vabsFull vd vs vt e s)

/-! ## Logic (R728 to R733) -/

/-- VAND (R728). -/
def execRspVand (vd vs vt : Reg) (e : BitVec 4) (s : State) : Result :=
  vuSeq (vectorOp (fun a b => (a &&& b).toInt) vd vs vt e s)

/-- VNAND (R729). -/
def execRspVnand (vd vs vt : Reg) (e : BitVec 4) (s : State) : Result :=
  vuSeq (vectorOp (fun a b => (~~~(a &&& b)).toInt) vd vs vt e s)

/-- VOR (R730). -/
def execRspVor (vd vs vt : Reg) (e : BitVec 4) (s : State) : Result :=
  vuSeq (vectorOp (fun a b => (a ||| b).toInt) vd vs vt e s)

/-- VNOR (R731). -/
def execRspVnor (vd vs vt : Reg) (e : BitVec 4) (s : State) : Result :=
  vuSeq (vectorOp (fun a b => (~~~(a ||| b)).toInt) vd vs vt e s)

/-- VXOR (R732). -/
def execRspVxor (vd vs vt : Reg) (e : BitVec 4) (s : State) : Result :=
  vuSeq (vectorOp (fun a b => (a ^^^ b).toInt) vd vs vt e s)

/-- VNXOR (R733). -/
def execRspVnxor (vd vs vt : Reg) (e : BitVec 4) (s : State) : Result :=
  vuSeq (vectorOp (fun a b => (~~~(a ^^^ b)).toInt) vd vs vt e s)

/-! ## Compare and merge (R734 to R738) -/

/-- A compare (R734 to R737): the selected operand, VCC the comparison, VCO cleared. -/
def vectorCompare (c : Half → Half → Bool) (vd vs vt : Reg) (e : BitVec 4) (s : State) : Result :=
  vuSeq (vectorOpFlags (fun a b => if c a b then a.toInt else b.toInt) c vd vs vt e s)

/-- VLT (R734). -/
def execRspVlt (vd vs vt : Reg) (e : BitVec 4) (s : State) : Result :=
  vectorCompare (fun a b => a.slt b) vd vs vt e s

/-- VEQ (R735). -/
def execRspVeq (vd vs vt : Reg) (e : BitVec 4) (s : State) : Result :=
  vectorCompare (fun a b => a == b) vd vs vt e s

/-- VNE (R736). -/
def execRspVne (vd vs vt : Reg) (e : BitVec 4) (s : State) : Result :=
  vectorCompare (fun a b => a != b) vd vs vt e s

/-- VGE (R737). -/
def execRspVge (vd vs vt : Reg) (e : BitVec 4) (s : State) : Result :=
  vectorCompare (fun a b => !a.slt b) vd vs vt e s

/-- VMRG (R738): VCC as it was selects. -/
def execRspVmrg (vd vs vt : Reg) (e : BitVec 4) (s : State) : Result :=
  vuSeq (laneResults (fun l =>
    if s.vu.vcc.getLsbD l then (laneOperands s vs vt e l).1.toInt else (laneOperands s vs vt e l).2.toInt) vd s)

/-! ## Accumulator read and no-op (R739, R740) -/

/-- The slice of an accumulator that VSAR's element names (R739). -/
def accSlice (e : BitVec 4) (a : BitVec 48) : Half :=
  if e = 8 then a.extractLsb' 32 16 else if e = 9 then a.extractLsb' 16 16 else if e = 10 then a.extractLsb' 0 16 else 0

/-- VSAR (R739). -/
def execRspVsar (vd : Reg) (e : BitVec 4) (s : State) : Result := vuSeq (setVr s vd (s.vu.acc.map (accSlice e)))

/-- VNOP (R740). -/
def execRspVnop (s : State) : Result := vuSeq s

/-! ## The refused operations (R741 to R768) -/

/-- VMULF (R741): refused. -/
def execRspVmulf (_vd _vs _vt : Reg) (_e : BitVec 4) (_s : State) : Result := .refused (.vectorOp "VMULF")

/-- VMULU (R742): refused. -/
def execRspVmulu (_vd _vs _vt : Reg) (_e : BitVec 4) (_s : State) : Result := .refused (.vectorOp "VMULU")

/-- VRNDP (R743): refused. -/
def execRspVrndp (_vd _vs _vt : Reg) (_e : BitVec 4) (_s : State) : Result := .refused (.vectorOp "VRNDP")

/-- VMULQ (R744): refused. -/
def execRspVmulq (_vd _vs _vt : Reg) (_e : BitVec 4) (_s : State) : Result := .refused (.vectorOp "VMULQ")

/-- VMUDL (R745): refused. -/
def execRspVmudl (_vd _vs _vt : Reg) (_e : BitVec 4) (_s : State) : Result := .refused (.vectorOp "VMUDL")

/-- VMUDM (R746): refused. -/
def execRspVmudm (_vd _vs _vt : Reg) (_e : BitVec 4) (_s : State) : Result := .refused (.vectorOp "VMUDM")

/-- VMUDN (R747): refused. -/
def execRspVmudn (_vd _vs _vt : Reg) (_e : BitVec 4) (_s : State) : Result := .refused (.vectorOp "VMUDN")

/-- VMUDH (R748): refused. -/
def execRspVmudh (_vd _vs _vt : Reg) (_e : BitVec 4) (_s : State) : Result := .refused (.vectorOp "VMUDH")

/-- VMACF (R749): refused. -/
def execRspVmacf (_vd _vs _vt : Reg) (_e : BitVec 4) (_s : State) : Result := .refused (.vectorOp "VMACF")

/-- VMACU (R750): refused. -/
def execRspVmacu (_vd _vs _vt : Reg) (_e : BitVec 4) (_s : State) : Result := .refused (.vectorOp "VMACU")

/-- VRNDN (R751): refused. -/
def execRspVrndn (_vd _vs _vt : Reg) (_e : BitVec 4) (_s : State) : Result := .refused (.vectorOp "VRNDN")

/-- VMACQ (R752): refused. -/
def execRspVmacq (_vd _vs _vt : Reg) (_e : BitVec 4) (_s : State) : Result := .refused (.vectorOp "VMACQ")

/-- VMADL (R753): refused. -/
def execRspVmadl (_vd _vs _vt : Reg) (_e : BitVec 4) (_s : State) : Result := .refused (.vectorOp "VMADL")

/-- VMADM (R754): refused. -/
def execRspVmadm (_vd _vs _vt : Reg) (_e : BitVec 4) (_s : State) : Result := .refused (.vectorOp "VMADM")

/-- VMADN (R755): refused. -/
def execRspVmadn (_vd _vs _vt : Reg) (_e : BitVec 4) (_s : State) : Result := .refused (.vectorOp "VMADN")

/-- VMADH (R756): refused. -/
def execRspVmadh (_vd _vs _vt : Reg) (_e : BitVec 4) (_s : State) : Result := .refused (.vectorOp "VMADH")

/-- VADDC (R757): refused. -/
def execRspVaddc (_vd _vs _vt : Reg) (_e : BitVec 4) (_s : State) : Result := .refused (.vectorOp "VADDC")

/-- VSUBC (R758): refused. -/
def execRspVsubc (_vd _vs _vt : Reg) (_e : BitVec 4) (_s : State) : Result := .refused (.vectorOp "VSUBC")

/-- VCL (R759): refused. -/
def execRspVcl (_vd _vs _vt : Reg) (_e : BitVec 4) (_s : State) : Result := .refused (.vectorOp "VCL")

/-- VCH (R760): refused. -/
def execRspVch (_vd _vs _vt : Reg) (_e : BitVec 4) (_s : State) : Result := .refused (.vectorOp "VCH")

/-- VCR (R761): refused. -/
def execRspVcr (_vd _vs _vt : Reg) (_e : BitVec 4) (_s : State) : Result := .refused (.vectorOp "VCR")

/-- VRCP (R762): refused. -/
def execRspVrcp (_vd _vs _vt : Reg) (_e : BitVec 4) (_s : State) : Result := .refused (.vectorOp "VRCP")

/-- VRCPL (R763): refused. -/
def execRspVrcpl (_vd _vs _vt : Reg) (_e : BitVec 4) (_s : State) : Result := .refused (.vectorOp "VRCPL")

/-- VRCPH (R764): refused. -/
def execRspVrcph (_vd _vs _vt : Reg) (_e : BitVec 4) (_s : State) : Result := .refused (.vectorOp "VRCPH")

/-- VMOV (R765): refused. -/
def execRspVmov (_vd _vs _vt : Reg) (_e : BitVec 4) (_s : State) : Result := .refused (.vectorOp "VMOV")

/-- VRSQ (R766): refused. -/
def execRspVrsq (_vd _vs _vt : Reg) (_e : BitVec 4) (_s : State) : Result := .refused (.vectorOp "VRSQ")

/-- VRSQL (R767): refused. -/
def execRspVrsql (_vd _vs _vt : Reg) (_e : BitVec 4) (_s : State) : Result := .refused (.vectorOp "VRSQL")

/-- VRSQH (R768): refused. -/
def execRspVrsqh (_vd _vs _vt : Reg) (_e : BitVec 4) (_s : State) : Result := .refused (.vectorOp "VRSQH")

end Sys2Proof.Machine
end

