-- ==== Sys2Proof/Machine/System.lean ====
section
/-! DEFINITION. System, trap and CP0 instructions (spec/44_system_cp0.md). -/

namespace Sys2Proof.Machine

/-- SYSCALL (R520): the code field has no effect. -/
def execSyscall (_code : BitVec 20) (s : State) : Result := raise .syscall s

/-- BREAK (R521). -/
def execBrk (_code : BitVec 20) (s : State) : Result := raise .breakpoint s

/-! ## Traps (R522 to R533) -/

/-- Trap when the condition holds. -/
def trapIf (c : Bool) (s : State) : Result := if c then raise .trap s else seq s

/-- TGE (R522). -/
def execTge (rs rt : Reg) (_code : BitVec 10) (s : State) : Result :=
  trapIf (!(gpr s rs).slt (gpr s rt)) s

/-- TGEU (R523). -/
def execTgeu (rs rt : Reg) (_code : BitVec 10) (s : State) : Result :=
  trapIf (!(gpr s rs).ult (gpr s rt)) s

/-- TLT (R524). -/
def execTlt (rs rt : Reg) (_code : BitVec 10) (s : State) : Result :=
  trapIf ((gpr s rs).slt (gpr s rt)) s

/-- TLTU (R525). -/
def execTltu (rs rt : Reg) (_code : BitVec 10) (s : State) : Result :=
  trapIf ((gpr s rs).ult (gpr s rt)) s

/-- TEQ (R526). -/
def execTeq (rs rt : Reg) (_code : BitVec 10) (s : State) : Result :=
  trapIf (gpr s rs == gpr s rt) s

/-- TNE (R527). -/
def execTne (rs rt : Reg) (_code : BitVec 10) (s : State) : Result :=
  trapIf (gpr s rs != gpr s rt) s

/-- TGEI (R528). -/
def execTgei (rs : Reg) (imm : BitVec 16) (s : State) : Result :=
  trapIf (!(gpr s rs).slt (sext16 imm)) s

/-- TGEIU (R529). -/
def execTgeiu (rs : Reg) (imm : BitVec 16) (s : State) : Result :=
  trapIf (!(gpr s rs).ult (sext16 imm)) s

/-- TLTI (R530). -/
def execTlti (rs : Reg) (imm : BitVec 16) (s : State) : Result :=
  trapIf ((gpr s rs).slt (sext16 imm)) s

/-- TLTIU (R531). -/
def execTltiu (rs : Reg) (imm : BitVec 16) (s : State) : Result :=
  trapIf ((gpr s rs).ult (sext16 imm)) s

/-- TEQI (R532). -/
def execTeqi (rs : Reg) (imm : BitVec 16) (s : State) : Result :=
  trapIf (gpr s rs == sext16 imm) s

/-- TNEI (R533). -/
def execTnei (rs : Reg) (imm : BitVec 16) (s : State) : Result :=
  trapIf (gpr s rs != sext16 imm) s

/-! ## CP0 moves (R535 to R538) -/

/-- MFC0 (R535). -/
def execMfc0 (rt rd : Reg) (s : State) : Result :=
  seq (setGpr (cp0Read s rd).2 rt (sext32 (lo32 (cp0Read s rd).1)))

/-- DMFC0 (R536). -/
def execDmfc0 (rt rd : Reg) (s : State) : Result :=
  if cp0Is64 rd then seq (setGpr (cp0Read s rd).2 rt (cp0Read s rd).1) else .refused .dmfc0Of32Bit

/-- MTC0 (R537): the low word, sign-extended for a 64-bit register. -/
def execMtc0 (rt rd : Reg) (s : State) : Result :=
  stored (cp0Write s rd (if cp0Is64 rd then sext32 (lo32 (gpr s rt)) else zext32 (lo32 (gpr s rt)))) seq

/-- DMTC0 (R538). -/
def execDmtc0 (rt rd : Reg) (s : State) : Result :=
  if cp0Is64 rd then stored (cp0Write s rd (gpr s rt)) seq else .refused .dmtc0Of32Bit

/-! ## ERET, the TLB instructions, SYNC and CACHE -/

/-- ERET (R540, R413). -/
def execEret (s : State) : Result := controlTransfer s (exceptionReturn s)

/-- TLBR (R545). -/
def execTlbr (_s : State) : Result := .refused .tlbNotModelled

/-- TLBWI (R546). -/
def execTlbwi (_s : State) : Result := .refused .tlbNotModelled

/-- TLBWR (R547). -/
def execTlbwr (_s : State) : Result := .refused .tlbNotModelled

/-- TLBP (R548). -/
def execTlbp (_s : State) : Result := .refused .tlbNotModelled

/-- SYNC (R550): no effect. -/
def execSync (s : State) : Result := seq s

/-- CACHE (R551): no effect, the address is not even computed. -/
def execCache (_op : BitVec 5) (_offset : BitVec 16) (_base : Reg) (s : State) : Result := seq s

end Sys2Proof.Machine
end

