-- ==== Sys2Proof/Machine/Dispatch.lean ====
section
/-! DEFINITION. The one match from instructions to meanings. -/

namespace Sys2Proof.Machine

def exec (i : Instr) (s : State) : Host.Outcome State Fault Refusal :=
  match i with
  | .add rd rs rt => Sys2Proof.Machine.execAdd rd rs rt s
  | .addu rd rs rt => Sys2Proof.Machine.execAddu rd rs rt s
  | .sub rd rs rt => Sys2Proof.Machine.execSub rd rs rt s
  | .subu rd rs rt => Sys2Proof.Machine.execSubu rd rs rt s
  | .addi rt rs imm => Sys2Proof.Machine.execAddi rt rs imm s
  | .addiu rt rs imm => Sys2Proof.Machine.execAddiu rt rs imm s
  | .dadd rd rs rt => Sys2Proof.Machine.execDadd rd rs rt s
  | .daddu rd rs rt => Sys2Proof.Machine.execDaddu rd rs rt s
  | .dsub rd rs rt => Sys2Proof.Machine.execDsub rd rs rt s
  | .dsubu rd rs rt => Sys2Proof.Machine.execDsubu rd rs rt s
  | .daddi rt rs imm => Sys2Proof.Machine.execDaddi rt rs imm s
  | .daddiu rt rs imm => Sys2Proof.Machine.execDaddiu rt rs imm s
  | .and rd rs rt => Sys2Proof.Machine.execAnd rd rs rt s
  | .or rd rs rt => Sys2Proof.Machine.execOr rd rs rt s
  | .xor rd rs rt => Sys2Proof.Machine.execXor rd rs rt s
  | .nor rd rs rt => Sys2Proof.Machine.execNor rd rs rt s
  | .andi rt rs imm => Sys2Proof.Machine.execAndi rt rs imm s
  | .ori rt rs imm => Sys2Proof.Machine.execOri rt rs imm s
  | .xori rt rs imm => Sys2Proof.Machine.execXori rt rs imm s
  | .lui rt imm => Sys2Proof.Machine.execLui rt imm s
  | .slt rd rs rt => Sys2Proof.Machine.execSlt rd rs rt s
  | .sltu rd rs rt => Sys2Proof.Machine.execSltu rd rs rt s
  | .slti rt rs imm => Sys2Proof.Machine.execSlti rt rs imm s
  | .sltiu rt rs imm => Sys2Proof.Machine.execSltiu rt rs imm s
  | .sll rd rt sa => Sys2Proof.Machine.execSll rd rt sa s
  | .srl rd rt sa => Sys2Proof.Machine.execSrl rd rt sa s
  | .sra rd rt sa => Sys2Proof.Machine.execSra rd rt sa s
  | .sllv rd rt rs => Sys2Proof.Machine.execSllv rd rt rs s
  | .srlv rd rt rs => Sys2Proof.Machine.execSrlv rd rt rs s
  | .srav rd rt rs => Sys2Proof.Machine.execSrav rd rt rs s
  | .dsll rd rt sa => Sys2Proof.Machine.execDsll rd rt sa s
  | .dsrl rd rt sa => Sys2Proof.Machine.execDsrl rd rt sa s
  | .dsra rd rt sa => Sys2Proof.Machine.execDsra rd rt sa s
  | .dsll32 rd rt sa => Sys2Proof.Machine.execDsll32 rd rt sa s
  | .dsrl32 rd rt sa => Sys2Proof.Machine.execDsrl32 rd rt sa s
  | .dsra32 rd rt sa => Sys2Proof.Machine.execDsra32 rd rt sa s
  | .dsllv rd rt rs => Sys2Proof.Machine.execDsllv rd rt rs s
  | .dsrlv rd rt rs => Sys2Proof.Machine.execDsrlv rd rt rs s
  | .dsrav rd rt rs => Sys2Proof.Machine.execDsrav rd rt rs s
  | .mult rs rt => Sys2Proof.Machine.execMult rs rt s
  | .multu rs rt => Sys2Proof.Machine.execMultu rs rt s
  | .dmult rs rt => Sys2Proof.Machine.execDmult rs rt s
  | .dmultu rs rt => Sys2Proof.Machine.execDmultu rs rt s
  | .div rs rt => Sys2Proof.Machine.execDiv rs rt s
  | .divu rs rt => Sys2Proof.Machine.execDivu rs rt s
  | .ddiv rs rt => Sys2Proof.Machine.execDdiv rs rt s
  | .ddivu rs rt => Sys2Proof.Machine.execDdivu rs rt s
  | .mfhi rd => Sys2Proof.Machine.execMfhi rd s
  | .mflo rd => Sys2Proof.Machine.execMflo rd s
  | .mthi rs => Sys2Proof.Machine.execMthi rs s
  | .mtlo rs => Sys2Proof.Machine.execMtlo rs s
  | .beq rs rt imm => Sys2Proof.Machine.execBeq rs rt imm s
  | .bne rs rt imm => Sys2Proof.Machine.execBne rs rt imm s
  | .blez rs imm => Sys2Proof.Machine.execBlez rs imm s
  | .bgtz rs imm => Sys2Proof.Machine.execBgtz rs imm s
  | .bltz rs imm => Sys2Proof.Machine.execBltz rs imm s
  | .bgez rs imm => Sys2Proof.Machine.execBgez rs imm s
  | .bltzal rs imm => Sys2Proof.Machine.execBltzal rs imm s
  | .bgezal rs imm => Sys2Proof.Machine.execBgezal rs imm s
  | .beql rs rt imm => Sys2Proof.Machine.execBeql rs rt imm s
  | .bnel rs rt imm => Sys2Proof.Machine.execBnel rs rt imm s
  | .blezl rs imm => Sys2Proof.Machine.execBlezl rs imm s
  | .bgtzl rs imm => Sys2Proof.Machine.execBgtzl rs imm s
  | .bltzl rs imm => Sys2Proof.Machine.execBltzl rs imm s
  | .bgezl rs imm => Sys2Proof.Machine.execBgezl rs imm s
  | .bltzall rs imm => Sys2Proof.Machine.execBltzall rs imm s
  | .bgezall rs imm => Sys2Proof.Machine.execBgezall rs imm s
  | .j target => Sys2Proof.Machine.execJ target s
  | .jal target => Sys2Proof.Machine.execJal target s
  | .jr rs => Sys2Proof.Machine.execJr rs s
  | .jalr rd rs => Sys2Proof.Machine.execJalr rd rs s
  | .lb rt offset base => Sys2Proof.Machine.execLb rt offset base s
  | .lbu rt offset base => Sys2Proof.Machine.execLbu rt offset base s
  | .lh rt offset base => Sys2Proof.Machine.execLh rt offset base s
  | .lhu rt offset base => Sys2Proof.Machine.execLhu rt offset base s
  | .lw rt offset base => Sys2Proof.Machine.execLw rt offset base s
  | .lwu rt offset base => Sys2Proof.Machine.execLwu rt offset base s
  | .ld rt offset base => Sys2Proof.Machine.execLd rt offset base s
  | .sb rt offset base => Sys2Proof.Machine.execSb rt offset base s
  | .sh rt offset base => Sys2Proof.Machine.execSh rt offset base s
  | .sw rt offset base => Sys2Proof.Machine.execSw rt offset base s
  | .sd rt offset base => Sys2Proof.Machine.execSd rt offset base s
  | .lwl rt offset base => Sys2Proof.Machine.execLwl rt offset base s
  | .lwr rt offset base => Sys2Proof.Machine.execLwr rt offset base s
  | .ldl rt offset base => Sys2Proof.Machine.execLdl rt offset base s
  | .ldr rt offset base => Sys2Proof.Machine.execLdr rt offset base s
  | .swl rt offset base => Sys2Proof.Machine.execSwl rt offset base s
  | .swr rt offset base => Sys2Proof.Machine.execSwr rt offset base s
  | .sdl rt offset base => Sys2Proof.Machine.execSdl rt offset base s
  | .sdr rt offset base => Sys2Proof.Machine.execSdr rt offset base s
  | .ll rt offset base => Sys2Proof.Machine.execLl rt offset base s
  | .lld rt offset base => Sys2Proof.Machine.execLld rt offset base s
  | .sc rt offset base => Sys2Proof.Machine.execSc rt offset base s
  | .scd rt offset base => Sys2Proof.Machine.execScd rt offset base s
  | .syscall code => Sys2Proof.Machine.execSyscall code s
  | .brk code => Sys2Proof.Machine.execBrk code s
  | .tge rs rt code => Sys2Proof.Machine.execTge rs rt code s
  | .tgeu rs rt code => Sys2Proof.Machine.execTgeu rs rt code s
  | .tlt rs rt code => Sys2Proof.Machine.execTlt rs rt code s
  | .tltu rs rt code => Sys2Proof.Machine.execTltu rs rt code s
  | .teq rs rt code => Sys2Proof.Machine.execTeq rs rt code s
  | .tne rs rt code => Sys2Proof.Machine.execTne rs rt code s
  | .tgei rs imm => Sys2Proof.Machine.execTgei rs imm s
  | .tgeiu rs imm => Sys2Proof.Machine.execTgeiu rs imm s
  | .tlti rs imm => Sys2Proof.Machine.execTlti rs imm s
  | .tltiu rs imm => Sys2Proof.Machine.execTltiu rs imm s
  | .teqi rs imm => Sys2Proof.Machine.execTeqi rs imm s
  | .tnei rs imm => Sys2Proof.Machine.execTnei rs imm s
  | .mfc0 rt rd => Sys2Proof.Machine.execMfc0 rt rd s
  | .dmfc0 rt rd => Sys2Proof.Machine.execDmfc0 rt rd s
  | .mtc0 rt rd => Sys2Proof.Machine.execMtc0 rt rd s
  | .dmtc0 rt rd => Sys2Proof.Machine.execDmtc0 rt rd s
  | .eret => Sys2Proof.Machine.execEret s
  | .tlbr => Sys2Proof.Machine.execTlbr s
  | .tlbwi => Sys2Proof.Machine.execTlbwi s
  | .tlbwr => Sys2Proof.Machine.execTlbwr s
  | .tlbp => Sys2Proof.Machine.execTlbp s
  | .sync => Sys2Proof.Machine.execSync s
  | .cache op offset base => Sys2Proof.Machine.execCache op offset base s
  | .cfc1 rt fs => Sys2Proof.Machine.execCfc1 rt fs s
  | .ctc1 rt fs => Sys2Proof.Machine.execCtc1 rt fs s
  | .mfc1 rt fs => Sys2Proof.Machine.execMfc1 rt fs s
  | .dmfc1 rt fs => Sys2Proof.Machine.execDmfc1 rt fs s
  | .mtc1 rt fs => Sys2Proof.Machine.execMtc1 rt fs s
  | .dmtc1 rt fs => Sys2Proof.Machine.execDmtc1 rt fs s
  | .lwc1 ft offset base => Sys2Proof.Machine.execLwc1 ft offset base s
  | .ldc1 ft offset base => Sys2Proof.Machine.execLdc1 ft offset base s
  | .swc1 ft offset base => Sys2Proof.Machine.execSwc1 ft offset base s
  | .sdc1 ft offset base => Sys2Proof.Machine.execSdc1 ft offset base s
  | .bc1f imm => Sys2Proof.Machine.execBc1f imm s
  | .bc1t imm => Sys2Proof.Machine.execBc1t imm s
  | .bc1fl imm => Sys2Proof.Machine.execBc1fl imm s
  | .bc1tl imm => Sys2Proof.Machine.execBc1tl imm s
  | .addS fd fs ft => Sys2Proof.Machine.execAddS fd fs ft s
  | .addD fd fs ft => Sys2Proof.Machine.execAddD fd fs ft s
  | .subS fd fs ft => Sys2Proof.Machine.execSubS fd fs ft s
  | .subD fd fs ft => Sys2Proof.Machine.execSubD fd fs ft s
  | .mulS fd fs ft => Sys2Proof.Machine.execMulS fd fs ft s
  | .mulD fd fs ft => Sys2Proof.Machine.execMulD fd fs ft s
  | .divS fd fs ft => Sys2Proof.Machine.execDivS fd fs ft s
  | .divD fd fs ft => Sys2Proof.Machine.execDivD fd fs ft s
  | .sqrtS fd fs => Sys2Proof.Machine.execSqrtS fd fs s
  | .sqrtD fd fs => Sys2Proof.Machine.execSqrtD fd fs s
  | .absS fd fs => Sys2Proof.Machine.execAbsS fd fs s
  | .absD fd fs => Sys2Proof.Machine.execAbsD fd fs s
  | .movS fd fs => Sys2Proof.Machine.execMovS fd fs s
  | .movD fd fs => Sys2Proof.Machine.execMovD fd fs s
  | .negS fd fs => Sys2Proof.Machine.execNegS fd fs s
  | .negD fd fs => Sys2Proof.Machine.execNegD fd fs s
  | .roundLS fd fs => Sys2Proof.Machine.execRoundLS fd fs s
  | .roundLD fd fs => Sys2Proof.Machine.execRoundLD fd fs s
  | .truncLS fd fs => Sys2Proof.Machine.execTruncLS fd fs s
  | .truncLD fd fs => Sys2Proof.Machine.execTruncLD fd fs s
  | .ceilLS fd fs => Sys2Proof.Machine.execCeilLS fd fs s
  | .ceilLD fd fs => Sys2Proof.Machine.execCeilLD fd fs s
  | .floorLS fd fs => Sys2Proof.Machine.execFloorLS fd fs s
  | .floorLD fd fs => Sys2Proof.Machine.execFloorLD fd fs s
  | .roundWS fd fs => Sys2Proof.Machine.execRoundWS fd fs s
  | .roundWD fd fs => Sys2Proof.Machine.execRoundWD fd fs s
  | .truncWS fd fs => Sys2Proof.Machine.execTruncWS fd fs s
  | .truncWD fd fs => Sys2Proof.Machine.execTruncWD fd fs s
  | .ceilWS fd fs => Sys2Proof.Machine.execCeilWS fd fs s
  | .ceilWD fd fs => Sys2Proof.Machine.execCeilWD fd fs s
  | .floorWS fd fs => Sys2Proof.Machine.execFloorWS fd fs s
  | .floorWD fd fs => Sys2Proof.Machine.execFloorWD fd fs s
  | .cvtSD fd fs => Sys2Proof.Machine.execCvtSD fd fs s
  | .cvtSW fd fs => Sys2Proof.Machine.execCvtSW fd fs s
  | .cvtSL fd fs => Sys2Proof.Machine.execCvtSL fd fs s
  | .cvtDS fd fs => Sys2Proof.Machine.execCvtDS fd fs s
  | .cvtDW fd fs => Sys2Proof.Machine.execCvtDW fd fs s
  | .cvtDL fd fs => Sys2Proof.Machine.execCvtDL fd fs s
  | .cvtWS fd fs => Sys2Proof.Machine.execCvtWS fd fs s
  | .cvtWD fd fs => Sys2Proof.Machine.execCvtWD fd fs s
  | .cvtLS fd fs => Sys2Proof.Machine.execCvtLS fd fs s
  | .cvtLD fd fs => Sys2Proof.Machine.execCvtLD fd fs s
  | .cFS fs ft => Sys2Proof.Machine.execCFS fs ft s
  | .cFD fs ft => Sys2Proof.Machine.execCFD fs ft s
  | .cUnS fs ft => Sys2Proof.Machine.execCUnS fs ft s
  | .cUnD fs ft => Sys2Proof.Machine.execCUnD fs ft s
  | .cEqS fs ft => Sys2Proof.Machine.execCEqS fs ft s
  | .cEqD fs ft => Sys2Proof.Machine.execCEqD fs ft s
  | .cUeqS fs ft => Sys2Proof.Machine.execCUeqS fs ft s
  | .cUeqD fs ft => Sys2Proof.Machine.execCUeqD fs ft s
  | .cOltS fs ft => Sys2Proof.Machine.execCOltS fs ft s
  | .cOltD fs ft => Sys2Proof.Machine.execCOltD fs ft s
  | .cUltS fs ft => Sys2Proof.Machine.execCUltS fs ft s
  | .cUltD fs ft => Sys2Proof.Machine.execCUltD fs ft s
  | .cOleS fs ft => Sys2Proof.Machine.execCOleS fs ft s
  | .cOleD fs ft => Sys2Proof.Machine.execCOleD fs ft s
  | .cUleS fs ft => Sys2Proof.Machine.execCUleS fs ft s
  | .cUleD fs ft => Sys2Proof.Machine.execCUleD fs ft s
  | .cSfS fs ft => Sys2Proof.Machine.execCSfS fs ft s
  | .cSfD fs ft => Sys2Proof.Machine.execCSfD fs ft s
  | .cNgleS fs ft => Sys2Proof.Machine.execCNgleS fs ft s
  | .cNgleD fs ft => Sys2Proof.Machine.execCNgleD fs ft s
  | .cSeqS fs ft => Sys2Proof.Machine.execCSeqS fs ft s
  | .cSeqD fs ft => Sys2Proof.Machine.execCSeqD fs ft s
  | .cNglS fs ft => Sys2Proof.Machine.execCNglS fs ft s
  | .cNglD fs ft => Sys2Proof.Machine.execCNglD fs ft s
  | .cLtS fs ft => Sys2Proof.Machine.execCLtS fs ft s
  | .cLtD fs ft => Sys2Proof.Machine.execCLtD fs ft s
  | .cNgeS fs ft => Sys2Proof.Machine.execCNgeS fs ft s
  | .cNgeD fs ft => Sys2Proof.Machine.execCNgeD fs ft s
  | .cLeS fs ft => Sys2Proof.Machine.execCLeS fs ft s
  | .cLeD fs ft => Sys2Proof.Machine.execCLeD fs ft s
  | .cNgtS fs ft => Sys2Proof.Machine.execCNgtS fs ft s
  | .cNgtD fs ft => Sys2Proof.Machine.execCNgtD fs ft s
  | .rspSll rd rt sa => Sys2Proof.Machine.execRspSll rd rt sa s
  | .rspSrl rd rt sa => Sys2Proof.Machine.execRspSrl rd rt sa s
  | .rspSra rd rt sa => Sys2Proof.Machine.execRspSra rd rt sa s
  | .rspSllv rd rt rs => Sys2Proof.Machine.execRspSllv rd rt rs s
  | .rspSrlv rd rt rs => Sys2Proof.Machine.execRspSrlv rd rt rs s
  | .rspSrav rd rt rs => Sys2Proof.Machine.execRspSrav rd rt rs s
  | .rspAdd rd rs rt => Sys2Proof.Machine.execRspAdd rd rs rt s
  | .rspAddu rd rs rt => Sys2Proof.Machine.execRspAddu rd rs rt s
  | .rspSub rd rs rt => Sys2Proof.Machine.execRspSub rd rs rt s
  | .rspSubu rd rs rt => Sys2Proof.Machine.execRspSubu rd rs rt s
  | .rspAnd rd rs rt => Sys2Proof.Machine.execRspAnd rd rs rt s
  | .rspOr rd rs rt => Sys2Proof.Machine.execRspOr rd rs rt s
  | .rspXor rd rs rt => Sys2Proof.Machine.execRspXor rd rs rt s
  | .rspNor rd rs rt => Sys2Proof.Machine.execRspNor rd rs rt s
  | .rspSlt rd rs rt => Sys2Proof.Machine.execRspSlt rd rs rt s
  | .rspSltu rd rs rt => Sys2Proof.Machine.execRspSltu rd rs rt s
  | .rspJr rs => Sys2Proof.Machine.execRspJr rs s
  | .rspJalr rd rs => Sys2Proof.Machine.execRspJalr rd rs s
  | .rspBreak code => Sys2Proof.Machine.execRspBreak code s
  | .rspAddi rt rs imm => Sys2Proof.Machine.execRspAddi rt rs imm s
  | .rspAddiu rt rs imm => Sys2Proof.Machine.execRspAddiu rt rs imm s
  | .rspSlti rt rs imm => Sys2Proof.Machine.execRspSlti rt rs imm s
  | .rspSltiu rt rs imm => Sys2Proof.Machine.execRspSltiu rt rs imm s
  | .rspAndi rt rs imm => Sys2Proof.Machine.execRspAndi rt rs imm s
  | .rspOri rt rs imm => Sys2Proof.Machine.execRspOri rt rs imm s
  | .rspXori rt rs imm => Sys2Proof.Machine.execRspXori rt rs imm s
  | .rspLui rt imm => Sys2Proof.Machine.execRspLui rt imm s
  | .rspBeq rs rt imm => Sys2Proof.Machine.execRspBeq rs rt imm s
  | .rspBne rs rt imm => Sys2Proof.Machine.execRspBne rs rt imm s
  | .rspBlez rs imm => Sys2Proof.Machine.execRspBlez rs imm s
  | .rspBgtz rs imm => Sys2Proof.Machine.execRspBgtz rs imm s
  | .rspJ target => Sys2Proof.Machine.execRspJ target s
  | .rspJal target => Sys2Proof.Machine.execRspJal target s
  | .rspBltz rs imm => Sys2Proof.Machine.execRspBltz rs imm s
  | .rspBgez rs imm => Sys2Proof.Machine.execRspBgez rs imm s
  | .rspBltzal rs imm => Sys2Proof.Machine.execRspBltzal rs imm s
  | .rspBgezal rs imm => Sys2Proof.Machine.execRspBgezal rs imm s
  | .rspLb rt offset base => Sys2Proof.Machine.execRspLb rt offset base s
  | .rspLh rt offset base => Sys2Proof.Machine.execRspLh rt offset base s
  | .rspLw rt offset base => Sys2Proof.Machine.execRspLw rt offset base s
  | .rspLbu rt offset base => Sys2Proof.Machine.execRspLbu rt offset base s
  | .rspLhu rt offset base => Sys2Proof.Machine.execRspLhu rt offset base s
  | .rspLwu rt offset base => Sys2Proof.Machine.execRspLwu rt offset base s
  | .rspSb rt offset base => Sys2Proof.Machine.execRspSb rt offset base s
  | .rspSh rt offset base => Sys2Proof.Machine.execRspSh rt offset base s
  | .rspSw rt offset base => Sys2Proof.Machine.execRspSw rt offset base s
  | .rspMfc0 rt rd => Sys2Proof.Machine.execRspMfc0 rt rd s
  | .rspMtc0 rt rd => Sys2Proof.Machine.execRspMtc0 rt rd s
  | .rspMfc2 rt vs e => Sys2Proof.Machine.execRspMfc2 rt vs e s
  | .rspMtc2 rt vd e => Sys2Proof.Machine.execRspMtc2 rt vd e s
  | .rspCfc2 rt rd => Sys2Proof.Machine.execRspCfc2 rt rd s
  | .rspCtc2 rt rd => Sys2Proof.Machine.execRspCtc2 rt rd s
  | .rspLbv vt e offset base => Sys2Proof.Machine.execRspLbv vt e offset base s
  | .rspLsv vt e offset base => Sys2Proof.Machine.execRspLsv vt e offset base s
  | .rspLlv vt e offset base => Sys2Proof.Machine.execRspLlv vt e offset base s
  | .rspLdv vt e offset base => Sys2Proof.Machine.execRspLdv vt e offset base s
  | .rspLqv vt e offset base => Sys2Proof.Machine.execRspLqv vt e offset base s
  | .rspLrv vt e offset base => Sys2Proof.Machine.execRspLrv vt e offset base s
  | .rspLpv vt e offset base => Sys2Proof.Machine.execRspLpv vt e offset base s
  | .rspLuv vt e offset base => Sys2Proof.Machine.execRspLuv vt e offset base s
  | .rspLhv vt e offset base => Sys2Proof.Machine.execRspLhv vt e offset base s
  | .rspLfv vt e offset base => Sys2Proof.Machine.execRspLfv vt e offset base s
  | .rspLwv vt e offset base => Sys2Proof.Machine.execRspLwv vt e offset base s
  | .rspLtv vt e offset base => Sys2Proof.Machine.execRspLtv vt e offset base s
  | .rspSbv vt e offset base => Sys2Proof.Machine.execRspSbv vt e offset base s
  | .rspSsv vt e offset base => Sys2Proof.Machine.execRspSsv vt e offset base s
  | .rspSlv vt e offset base => Sys2Proof.Machine.execRspSlv vt e offset base s
  | .rspSdv vt e offset base => Sys2Proof.Machine.execRspSdv vt e offset base s
  | .rspSqv vt e offset base => Sys2Proof.Machine.execRspSqv vt e offset base s
  | .rspSrv vt e offset base => Sys2Proof.Machine.execRspSrv vt e offset base s
  | .rspSpv vt e offset base => Sys2Proof.Machine.execRspSpv vt e offset base s
  | .rspSuv vt e offset base => Sys2Proof.Machine.execRspSuv vt e offset base s
  | .rspShv vt e offset base => Sys2Proof.Machine.execRspShv vt e offset base s
  | .rspSfv vt e offset base => Sys2Proof.Machine.execRspSfv vt e offset base s
  | .rspSwv vt e offset base => Sys2Proof.Machine.execRspSwv vt e offset base s
  | .rspStv vt e offset base => Sys2Proof.Machine.execRspStv vt e offset base s
  | .rspVadd vd vs vt e => Sys2Proof.Machine.execRspVadd vd vs vt e s
  | .rspVsub vd vs vt e => Sys2Proof.Machine.execRspVsub vd vs vt e s
  | .rspVabs vd vs vt e => Sys2Proof.Machine.execRspVabs vd vs vt e s
  | .rspVand vd vs vt e => Sys2Proof.Machine.execRspVand vd vs vt e s
  | .rspVnand vd vs vt e => Sys2Proof.Machine.execRspVnand vd vs vt e s
  | .rspVor vd vs vt e => Sys2Proof.Machine.execRspVor vd vs vt e s
  | .rspVnor vd vs vt e => Sys2Proof.Machine.execRspVnor vd vs vt e s
  | .rspVxor vd vs vt e => Sys2Proof.Machine.execRspVxor vd vs vt e s
  | .rspVnxor vd vs vt e => Sys2Proof.Machine.execRspVnxor vd vs vt e s
  | .rspVlt vd vs vt e => Sys2Proof.Machine.execRspVlt vd vs vt e s
  | .rspVeq vd vs vt e => Sys2Proof.Machine.execRspVeq vd vs vt e s
  | .rspVne vd vs vt e => Sys2Proof.Machine.execRspVne vd vs vt e s
  | .rspVge vd vs vt e => Sys2Proof.Machine.execRspVge vd vs vt e s
  | .rspVmrg vd vs vt e => Sys2Proof.Machine.execRspVmrg vd vs vt e s
  | .rspVsar vd e => Sys2Proof.Machine.execRspVsar vd e s
  | .rspVnop => Sys2Proof.Machine.execRspVnop s
  | .rspVmulf vd vs vt e => Sys2Proof.Machine.execRspVmulf vd vs vt e s
  | .rspVmulu vd vs vt e => Sys2Proof.Machine.execRspVmulu vd vs vt e s
  | .rspVrndp vd vs vt e => Sys2Proof.Machine.execRspVrndp vd vs vt e s
  | .rspVmulq vd vs vt e => Sys2Proof.Machine.execRspVmulq vd vs vt e s
  | .rspVmudl vd vs vt e => Sys2Proof.Machine.execRspVmudl vd vs vt e s
  | .rspVmudm vd vs vt e => Sys2Proof.Machine.execRspVmudm vd vs vt e s
  | .rspVmudn vd vs vt e => Sys2Proof.Machine.execRspVmudn vd vs vt e s
  | .rspVmudh vd vs vt e => Sys2Proof.Machine.execRspVmudh vd vs vt e s
  | .rspVmacf vd vs vt e => Sys2Proof.Machine.execRspVmacf vd vs vt e s
  | .rspVmacu vd vs vt e => Sys2Proof.Machine.execRspVmacu vd vs vt e s
  | .rspVrndn vd vs vt e => Sys2Proof.Machine.execRspVrndn vd vs vt e s
  | .rspVmacq vd vs vt e => Sys2Proof.Machine.execRspVmacq vd vs vt e s
  | .rspVmadl vd vs vt e => Sys2Proof.Machine.execRspVmadl vd vs vt e s
  | .rspVmadm vd vs vt e => Sys2Proof.Machine.execRspVmadm vd vs vt e s
  | .rspVmadn vd vs vt e => Sys2Proof.Machine.execRspVmadn vd vs vt e s
  | .rspVmadh vd vs vt e => Sys2Proof.Machine.execRspVmadh vd vs vt e s
  | .rspVaddc vd vs vt e => Sys2Proof.Machine.execRspVaddc vd vs vt e s
  | .rspVsubc vd vs vt e => Sys2Proof.Machine.execRspVsubc vd vs vt e s
  | .rspVcl vd vs vt e => Sys2Proof.Machine.execRspVcl vd vs vt e s
  | .rspVch vd vs vt e => Sys2Proof.Machine.execRspVch vd vs vt e s
  | .rspVcr vd vs vt e => Sys2Proof.Machine.execRspVcr vd vs vt e s
  | .rspVrcp vd vs vt e => Sys2Proof.Machine.execRspVrcp vd vs vt e s
  | .rspVrcpl vd vs vt e => Sys2Proof.Machine.execRspVrcpl vd vs vt e s
  | .rspVrcph vd vs vt e => Sys2Proof.Machine.execRspVrcph vd vs vt e s
  | .rspVmov vd vs vt e => Sys2Proof.Machine.execRspVmov vd vs vt e s
  | .rspVrsq vd vs vt e => Sys2Proof.Machine.execRspVrsq vd vs vt e s
  | .rspVrsql vd vs vt e => Sys2Proof.Machine.execRspVrsql vd vs vt e s
  | .rspVrsqh vd vs vt e => Sys2Proof.Machine.execRspVrsqh vd vs vt e s
  | .rdpNop => Sys2Proof.Machine.execRdpNop s
  | .rdpTriangle payload rest => Sys2Proof.Machine.execRdpTriangle payload rest s
  | .rdpTriangleZ payload rest => Sys2Proof.Machine.execRdpTriangleZ payload rest s
  | .rdpTriangleTex payload rest => Sys2Proof.Machine.execRdpTriangleTex payload rest s
  | .rdpTriangleTexZ payload rest => Sys2Proof.Machine.execRdpTriangleTexZ payload rest s
  | .rdpTriangleShade payload rest => Sys2Proof.Machine.execRdpTriangleShade payload rest s
  | .rdpTriangleShadeZ payload rest => Sys2Proof.Machine.execRdpTriangleShadeZ payload rest s
  | .rdpTriangleShadeTex payload rest => Sys2Proof.Machine.execRdpTriangleShadeTex payload rest s
  | .rdpTriangleShadeTexZ payload rest => Sys2Proof.Machine.execRdpTriangleShadeTexZ payload rest s
  | .rdpTextureRectangle payload rest => Sys2Proof.Machine.execRdpTextureRectangle payload rest s
  | .rdpTextureRectangleFlip payload rest => Sys2Proof.Machine.execRdpTextureRectangleFlip payload rest s
  | .rdpSyncLoad => Sys2Proof.Machine.execRdpSyncLoad s
  | .rdpSyncPipe => Sys2Proof.Machine.execRdpSyncPipe s
  | .rdpSyncTile => Sys2Proof.Machine.execRdpSyncTile s
  | .rdpSyncFull => Sys2Proof.Machine.execRdpSyncFull s
  | .rdpSetKeyGb payload => Sys2Proof.Machine.execRdpSetKeyGb payload s
  | .rdpSetKeyR payload => Sys2Proof.Machine.execRdpSetKeyR payload s
  | .rdpSetConvert payload => Sys2Proof.Machine.execRdpSetConvert payload s
  | .rdpSetScissor payload => Sys2Proof.Machine.execRdpSetScissor payload s
  | .rdpSetPrimDepth payload => Sys2Proof.Machine.execRdpSetPrimDepth payload s
  | .rdpSetOtherModes payload => Sys2Proof.Machine.execRdpSetOtherModes payload s
  | .rdpLoadTlut payload => Sys2Proof.Machine.execRdpLoadTlut payload s
  | .rdpSetTileSize payload => Sys2Proof.Machine.execRdpSetTileSize payload s
  | .rdpLoadBlock payload => Sys2Proof.Machine.execRdpLoadBlock payload s
  | .rdpLoadTile payload => Sys2Proof.Machine.execRdpLoadTile payload s
  | .rdpSetTile payload => Sys2Proof.Machine.execRdpSetTile payload s
  | .rdpFillRectangle xl yl xh yh => Sys2Proof.Machine.execRdpFillRectangle xl yl xh yh s
  | .rdpSetFillColor color => Sys2Proof.Machine.execRdpSetFillColor color s
  | .rdpSetFogColor payload => Sys2Proof.Machine.execRdpSetFogColor payload s
  | .rdpSetBlendColor payload => Sys2Proof.Machine.execRdpSetBlendColor payload s
  | .rdpSetPrimColor payload => Sys2Proof.Machine.execRdpSetPrimColor payload s
  | .rdpSetEnvColor payload => Sys2Proof.Machine.execRdpSetEnvColor payload s
  | .rdpSetCombineMode payload => Sys2Proof.Machine.execRdpSetCombineMode payload s
  | .rdpSetTextureImage payload => Sys2Proof.Machine.execRdpSetTextureImage payload s
  | .rdpSetZImage payload => Sys2Proof.Machine.execRdpSetZImage payload s
  | .rdpSetColorImage payload => Sys2Proof.Machine.execRdpSetColorImage payload s

end Sys2Proof.Machine
end

