-- ==== Sys2Proof/Machine/Direct.lean ====
section
/-! DEFINITION. Decoding and running a VectorUnit word and a DisplayProcessor command.

`vuRun` and `rdpRun` are the definitions. Their decoders build instructions whose constructors are past the 245 tags that
Lean's compiled code can hold, so each has a twin, `vuRunDirect` and `rdpRunDirect`, that goes from the words straight to
the meaning: proved equal, and used by compiled code alone, so that the machine runs. -/

namespace Sys2Proof.Machine

/-- The refusal of a word that is no instruction (R640, R719, R769, R1005). Where R640 and the rule of a refused transfer or
vector operation give two reasons, the rule's own is recorded (notes/assumptions/36.md). -/
def rejection : Rejected → Refusal
  | .vectorTransferReserved => .reservedVectorTransfer
  | .vectorOpReserved => .reservedVectorOp
  | .commandUnknown op => .unknownCommand op
  | .reserved | .coprocessorUnusable _ | .vectorUnitUnlisted | .commandTruncated => .unmodelledVectorUnitInstruction

/-- Decode and execute a VectorUnit word (R634, R640). -/
noncomputable def vuRun (w : Word) (s : State) : Result :=
  match decodeRsp w with
  | .ok i => exec i s
  | .error e => .refused (rejection e)

/-- Decode and execute a DisplayProcessor command; one that is shorter than its length is discarded (R1003, R1004). -/
noncomputable def rdpRun (ws : List Dword) (s : State) : Result :=
  match decodeRdp ws with
  | .ok i => exec i s
  | .error .commandTruncated => .next s
  | .error e => .refused (rejection e)

/-! ## The twins -/

/-- The twin of `rspSpecial`. -/
def rspSpecialDirect (w : Word) (s : State) : Result :=
  match fFunct w with
  | 0#6 => execRspSll (fRd w) (fRt w) (fSa w) s
  | 2#6 => execRspSrl (fRd w) (fRt w) (fSa w) s
  | 3#6 => execRspSra (fRd w) (fRt w) (fSa w) s
  | 4#6 => execRspSllv (fRd w) (fRt w) (fRs w) s
  | 6#6 => execRspSrlv (fRd w) (fRt w) (fRs w) s
  | 7#6 => execRspSrav (fRd w) (fRt w) (fRs w) s
  | 8#6 => execRspJr (fRs w) s
  | 9#6 => execRspJalr (fRd w) (fRs w) s
  | 13#6 => execRspBreak (fCode20 w) s
  | 32#6 => execRspAdd (fRd w) (fRs w) (fRt w) s
  | 33#6 => execRspAddu (fRd w) (fRs w) (fRt w) s
  | 34#6 => execRspSub (fRd w) (fRs w) (fRt w) s
  | 35#6 => execRspSubu (fRd w) (fRs w) (fRt w) s
  | 36#6 => execRspAnd (fRd w) (fRs w) (fRt w) s
  | 37#6 => execRspOr (fRd w) (fRs w) (fRt w) s
  | 38#6 => execRspXor (fRd w) (fRs w) (fRt w) s
  | 39#6 => execRspNor (fRd w) (fRs w) (fRt w) s
  | 42#6 => execRspSlt (fRd w) (fRs w) (fRt w) s
  | 43#6 => execRspSltu (fRd w) (fRs w) (fRt w) s
  | _ => .refused (rejection .vectorUnitUnlisted)

/-- The twin of `rspRegimm`. -/
def rspRegimmDirect (w : Word) (s : State) : Result :=
  match fRt w with
  | 0#5 => execRspBltz (fRs w) (fImm w) s
  | 1#5 => execRspBgez (fRs w) (fImm w) s
  | 16#5 => execRspBltzal (fRs w) (fImm w) s
  | 17#5 => execRspBgezal (fRs w) (fImm w) s
  | _ => .refused (rejection .vectorUnitUnlisted)

/-- The twin of `rspCop0`. -/
def rspCop0Direct (w : Word) (s : State) : Result :=
  match fRs w with
  | 0#5 => execRspMfc0 (fRt w) (fRd w) s
  | 4#5 => execRspMtc0 (fRt w) (fRd w) s
  | _ => .refused (rejection .vectorUnitUnlisted)

/-- The twin of `rspCop2Move`. -/
def rspCop2MoveDirect (w : Word) (s : State) : Result :=
  match fRs w with
  | 0#5 => execRspMfc2 (fRt w) (fRd w) (fElem w) s
  | 2#5 => execRspCfc2 (fRt w) (fRd w) s
  | 4#5 => execRspMtc2 (fRt w) (fRd w) (fElem w) s
  | 6#5 => execRspCtc2 (fRt w) (fRd w) s
  | _ => .refused (rejection .vectorUnitUnlisted)

/-- The twin of `rspVector`. -/
def rspVectorDirect (w : Word) (s : State) : Result :=
  match fFunct w with
  | 0#6 => execRspVmulf (fSa w) (fRd w) (fRt w) (fVElem w) s
  | 1#6 => execRspVmulu (fSa w) (fRd w) (fRt w) (fVElem w) s
  | 2#6 => execRspVrndp (fSa w) (fRd w) (fRt w) (fVElem w) s
  | 3#6 => execRspVmulq (fSa w) (fRd w) (fRt w) (fVElem w) s
  | 4#6 => execRspVmudl (fSa w) (fRd w) (fRt w) (fVElem w) s
  | 5#6 => execRspVmudm (fSa w) (fRd w) (fRt w) (fVElem w) s
  | 6#6 => execRspVmudn (fSa w) (fRd w) (fRt w) (fVElem w) s
  | 7#6 => execRspVmudh (fSa w) (fRd w) (fRt w) (fVElem w) s
  | 8#6 => execRspVmacf (fSa w) (fRd w) (fRt w) (fVElem w) s
  | 9#6 => execRspVmacu (fSa w) (fRd w) (fRt w) (fVElem w) s
  | 10#6 => execRspVrndn (fSa w) (fRd w) (fRt w) (fVElem w) s
  | 11#6 => execRspVmacq (fSa w) (fRd w) (fRt w) (fVElem w) s
  | 12#6 => execRspVmadl (fSa w) (fRd w) (fRt w) (fVElem w) s
  | 13#6 => execRspVmadm (fSa w) (fRd w) (fRt w) (fVElem w) s
  | 14#6 => execRspVmadn (fSa w) (fRd w) (fRt w) (fVElem w) s
  | 15#6 => execRspVmadh (fSa w) (fRd w) (fRt w) (fVElem w) s
  | 16#6 => execRspVadd (fSa w) (fRd w) (fRt w) (fVElem w) s
  | 17#6 => execRspVsub (fSa w) (fRd w) (fRt w) (fVElem w) s
  | 19#6 => execRspVabs (fSa w) (fRd w) (fRt w) (fVElem w) s
  | 20#6 => execRspVaddc (fSa w) (fRd w) (fRt w) (fVElem w) s
  | 21#6 => execRspVsubc (fSa w) (fRd w) (fRt w) (fVElem w) s
  | 29#6 => execRspVsar (fSa w) (fVElem w) s
  | 32#6 => execRspVlt (fSa w) (fRd w) (fRt w) (fVElem w) s
  | 33#6 => execRspVeq (fSa w) (fRd w) (fRt w) (fVElem w) s
  | 34#6 => execRspVne (fSa w) (fRd w) (fRt w) (fVElem w) s
  | 35#6 => execRspVge (fSa w) (fRd w) (fRt w) (fVElem w) s
  | 36#6 => execRspVcl (fSa w) (fRd w) (fRt w) (fVElem w) s
  | 37#6 => execRspVch (fSa w) (fRd w) (fRt w) (fVElem w) s
  | 38#6 => execRspVcr (fSa w) (fRd w) (fRt w) (fVElem w) s
  | 39#6 => execRspVmrg (fSa w) (fRd w) (fRt w) (fVElem w) s
  | 40#6 => execRspVand (fSa w) (fRd w) (fRt w) (fVElem w) s
  | 41#6 => execRspVnand (fSa w) (fRd w) (fRt w) (fVElem w) s
  | 42#6 => execRspVor (fSa w) (fRd w) (fRt w) (fVElem w) s
  | 43#6 => execRspVnor (fSa w) (fRd w) (fRt w) (fVElem w) s
  | 44#6 => execRspVxor (fSa w) (fRd w) (fRt w) (fVElem w) s
  | 45#6 => execRspVnxor (fSa w) (fRd w) (fRt w) (fVElem w) s
  | 48#6 => execRspVrcp (fSa w) (fRd w) (fRt w) (fVElem w) s
  | 49#6 => execRspVrcpl (fSa w) (fRd w) (fRt w) (fVElem w) s
  | 50#6 => execRspVrcph (fSa w) (fRd w) (fRt w) (fVElem w) s
  | 51#6 => execRspVmov (fSa w) (fRd w) (fRt w) (fVElem w) s
  | 52#6 => execRspVrsq (fSa w) (fRd w) (fRt w) (fVElem w) s
  | 53#6 => execRspVrsql (fSa w) (fRd w) (fRt w) (fVElem w) s
  | 54#6 => execRspVrsqh (fSa w) (fRd w) (fRt w) (fVElem w) s
  | 55#6 => execRspVnop s
  | _ => .refused (rejection .vectorOpReserved)

/-- The twin of `rspLwc2`. -/
def rspLwc2Direct (w : Word) (s : State) : Result :=
  match fRd w with
  | 0#5 => execRspLbv (fRt w) (fElem w) (fOffset7 w) (fRs w) s
  | 1#5 => execRspLsv (fRt w) (fElem w) (fOffset7 w) (fRs w) s
  | 2#5 => execRspLlv (fRt w) (fElem w) (fOffset7 w) (fRs w) s
  | 3#5 => execRspLdv (fRt w) (fElem w) (fOffset7 w) (fRs w) s
  | 4#5 => execRspLqv (fRt w) (fElem w) (fOffset7 w) (fRs w) s
  | 5#5 => execRspLrv (fRt w) (fElem w) (fOffset7 w) (fRs w) s
  | 6#5 => execRspLpv (fRt w) (fElem w) (fOffset7 w) (fRs w) s
  | 7#5 => execRspLuv (fRt w) (fElem w) (fOffset7 w) (fRs w) s
  | 8#5 => execRspLhv (fRt w) (fElem w) (fOffset7 w) (fRs w) s
  | 9#5 => execRspLfv (fRt w) (fElem w) (fOffset7 w) (fRs w) s
  | 10#5 => execRspLwv (fRt w) (fElem w) (fOffset7 w) (fRs w) s
  | 11#5 => execRspLtv (fRt w) (fElem w) (fOffset7 w) (fRs w) s
  | _ => .refused (rejection .vectorTransferReserved)

/-- The twin of `rspSwc2`. -/
def rspSwc2Direct (w : Word) (s : State) : Result :=
  match fRd w with
  | 0#5 => execRspSbv (fRt w) (fElem w) (fOffset7 w) (fRs w) s
  | 1#5 => execRspSsv (fRt w) (fElem w) (fOffset7 w) (fRs w) s
  | 2#5 => execRspSlv (fRt w) (fElem w) (fOffset7 w) (fRs w) s
  | 3#5 => execRspSdv (fRt w) (fElem w) (fOffset7 w) (fRs w) s
  | 4#5 => execRspSqv (fRt w) (fElem w) (fOffset7 w) (fRs w) s
  | 5#5 => execRspSrv (fRt w) (fElem w) (fOffset7 w) (fRs w) s
  | 6#5 => execRspSpv (fRt w) (fElem w) (fOffset7 w) (fRs w) s
  | 7#5 => execRspSuv (fRt w) (fElem w) (fOffset7 w) (fRs w) s
  | 8#5 => execRspShv (fRt w) (fElem w) (fOffset7 w) (fRs w) s
  | 9#5 => execRspSfv (fRt w) (fElem w) (fOffset7 w) (fRs w) s
  | 10#5 => execRspSwv (fRt w) (fElem w) (fOffset7 w) (fRs w) s
  | 11#5 => execRspStv (fRt w) (fElem w) (fOffset7 w) (fRs w) s
  | _ => .refused (rejection .vectorTransferReserved)

/-- The twin of `vuRun`. -/
def vuRunDirect (w : Word) (s : State) : Result :=
  match fOp w with
  | 0#6 => rspSpecialDirect w s
  | 1#6 => rspRegimmDirect w s
  | 2#6 => execRspJ (fTarget w) s
  | 3#6 => execRspJal (fTarget w) s
  | 4#6 => execRspBeq (fRs w) (fRt w) (fImm w) s
  | 5#6 => execRspBne (fRs w) (fRt w) (fImm w) s
  | 6#6 => execRspBlez (fRs w) (fImm w) s
  | 7#6 => execRspBgtz (fRs w) (fImm w) s
  | 8#6 => execRspAddi (fRt w) (fRs w) (fImm w) s
  | 9#6 => execRspAddiu (fRt w) (fRs w) (fImm w) s
  | 10#6 => execRspSlti (fRt w) (fRs w) (fImm w) s
  | 11#6 => execRspSltiu (fRt w) (fRs w) (fImm w) s
  | 12#6 => execRspAndi (fRt w) (fRs w) (fImm w) s
  | 13#6 => execRspOri (fRt w) (fRs w) (fImm w) s
  | 14#6 => execRspXori (fRt w) (fRs w) (fImm w) s
  | 15#6 => execRspLui (fRt w) (fImm w) s
  | 16#6 => rspCop0Direct w s
  | 18#6 => if fCo w then rspVectorDirect w s else rspCop2MoveDirect w s
  | 32#6 => execRspLb (fRt w) (fImm w) (fRs w) s
  | 33#6 => execRspLh (fRt w) (fImm w) (fRs w) s
  | 35#6 => execRspLw (fRt w) (fImm w) (fRs w) s
  | 36#6 => execRspLbu (fRt w) (fImm w) (fRs w) s
  | 37#6 => execRspLhu (fRt w) (fImm w) (fRs w) s
  | 39#6 => execRspLwu (fRt w) (fImm w) (fRs w) s
  | 40#6 => execRspSb (fRt w) (fImm w) (fRs w) s
  | 41#6 => execRspSh (fRt w) (fImm w) (fRs w) s
  | 43#6 => execRspSw (fRt w) (fImm w) (fRs w) s
  | 50#6 => rspLwc2Direct w s
  | 58#6 => rspSwc2Direct w s
  | _ => .refused (rejection .vectorUnitUnlisted)

/-- The twin of `rdpTable`. -/
def rdpTableDirect (w : Dword) (rest : List Dword) (s : State) : Result :=
  match commandOp w with
  | 0x00#8 => execRdpNop s
  | 0x08#8 => execRdpTriangle (commandPayload w) rest s
  | 0x09#8 => execRdpTriangleZ (commandPayload w) rest s
  | 0x0A#8 => execRdpTriangleTex (commandPayload w) rest s
  | 0x0B#8 => execRdpTriangleTexZ (commandPayload w) rest s
  | 0x0C#8 => execRdpTriangleShade (commandPayload w) rest s
  | 0x0D#8 => execRdpTriangleShadeZ (commandPayload w) rest s
  | 0x0E#8 => execRdpTriangleShadeTex (commandPayload w) rest s
  | 0x0F#8 => execRdpTriangleShadeTexZ (commandPayload w) rest s
  | 0x24#8 => execRdpTextureRectangle (commandPayload w) rest s
  | 0x25#8 => execRdpTextureRectangleFlip (commandPayload w) rest s
  | 0x26#8 => execRdpSyncLoad s
  | 0x27#8 => execRdpSyncPipe s
  | 0x28#8 => execRdpSyncTile s
  | 0x29#8 => execRdpSyncFull s
  | 0x2A#8 => execRdpSetKeyGb (commandPayload w) s
  | 0x2B#8 => execRdpSetKeyR (commandPayload w) s
  | 0x2C#8 => execRdpSetConvert (commandPayload w) s
  | 0x2D#8 => execRdpSetScissor (commandPayload w) s
  | 0x2E#8 => execRdpSetPrimDepth (commandPayload w) s
  | 0x2F#8 => execRdpSetOtherModes (commandPayload w) s
  | 0x30#8 => execRdpLoadTlut (commandPayload w) s
  | 0x32#8 => execRdpSetTileSize (commandPayload w) s
  | 0x33#8 => execRdpLoadBlock (commandPayload w) s
  | 0x34#8 => execRdpLoadTile (commandPayload w) s
  | 0x35#8 => execRdpSetTile (commandPayload w) s
  | 0x36#8 => execRdpFillRectangle (w.extractLsb' 44 12) (w.extractLsb' 32 12) (w.extractLsb' 12 12) (w.extractLsb' 0 12) s
  | 0x37#8 => execRdpSetFillColor (w.extractLsb' 0 32) s
  | 0x38#8 => execRdpSetFogColor (commandPayload w) s
  | 0x39#8 => execRdpSetBlendColor (commandPayload w) s
  | 0x3A#8 => execRdpSetPrimColor (commandPayload w) s
  | 0x3B#8 => execRdpSetEnvColor (commandPayload w) s
  | 0x3C#8 => execRdpSetCombineMode (commandPayload w) s
  | 0x3D#8 => execRdpSetTextureImage (commandPayload w) s
  | 0x3E#8 => execRdpSetZImage (commandPayload w) s
  | 0x3F#8 => execRdpSetColorImage (commandPayload w) s
  | op => .refused (rejection (.commandUnknown op))

/-- The twin of `rdpRun`. -/
def rdpRunDirect (ws : List Dword) (s : State) : Result :=
  match ws with
  | [] => .next s
  | w :: rest => if rest.length + 1 = commandLength (commandOp w) then rdpTableDirect w rest s else .next s

/-- What a decoded VectorUnit word does, for the twins' equations. -/
noncomputable def vuRunDecoded (d : Except Rejected Instr) (s : State) : Result :=
  match d with
  | .ok i => exec i s
  | .error e => .refused (rejection e)

theorem rspSpecial_direct (w : Word) (s : State) : vuRunDecoded (rspSpecial w) s = rspSpecialDirect w s := by
  unfold rspSpecial rspSpecialDirect
  split <;> first
    | rfl
    | (rename_i h; simp only [h]; rfl)
    | (split <;> first | rfl | (exfalso; simp_all))

theorem rspRegimm_direct (w : Word) (s : State) : vuRunDecoded (rspRegimm w) s = rspRegimmDirect w s := by
  unfold rspRegimm rspRegimmDirect
  split <;> first
    | rfl
    | (rename_i h; simp only [h]; rfl)
    | (split <;> first | rfl | (exfalso; simp_all))

theorem rspCop0_direct (w : Word) (s : State) : vuRunDecoded (rspCop0 w) s = rspCop0Direct w s := by
  unfold rspCop0 rspCop0Direct
  split <;> first
    | rfl
    | (rename_i h; simp only [h]; rfl)
    | (split <;> first | rfl | (exfalso; simp_all))

theorem rspCop2Move_direct (w : Word) (s : State) : vuRunDecoded (rspCop2Move w) s = rspCop2MoveDirect w s := by
  unfold rspCop2Move rspCop2MoveDirect
  split <;> first
    | rfl
    | (rename_i h; simp only [h]; rfl)
    | (split <;> first | rfl | (exfalso; simp_all))

theorem rspVector_direct (w : Word) (s : State) : vuRunDecoded (rspVector w) s = rspVectorDirect w s := by
  unfold rspVector rspVectorDirect
  split <;> first
    | rfl
    | (rename_i h; simp only [h]; rfl)
    | (split <;> first | rfl | (exfalso; simp_all))

theorem rspLwc2_direct (w : Word) (s : State) : vuRunDecoded (rspLwc2 w) s = rspLwc2Direct w s := by
  unfold rspLwc2 rspLwc2Direct
  split <;> first
    | rfl
    | (rename_i h; simp only [h]; rfl)
    | (split <;> first | rfl | (exfalso; simp_all))

theorem rspSwc2_direct (w : Word) (s : State) : vuRunDecoded (rspSwc2 w) s = rspSwc2Direct w s := by
  unfold rspSwc2 rspSwc2Direct
  split <;> first
    | rfl
    | (rename_i h; simp only [h]; rfl)
    | (split <;> first | rfl | (exfalso; simp_all))

theorem decodeRsp_direct (w : Word) (s : State) : vuRunDecoded (decodeRsp w) s = vuRunDirect w s := by
  unfold decodeRsp vuRunDirect
  simp only [← rspSpecial_direct, ← rspRegimm_direct, ← rspCop0_direct, ← rspCop2Move_direct, ← rspVector_direct,
    ← rspLwc2_direct, ← rspSwc2_direct]
  split <;> first
    | rfl
    | (rename_i h; simp only [h]; rfl)
    | (rename_i h; simp only [h]; split <;> rfl)
    | (split <;> first | rfl | (exfalso; simp_all))

/-- Compiled code runs the twin. -/
@[csimp] theorem vuRun_eq_direct : @vuRun = @vuRunDirect := by
  funext w s
  exact decodeRsp_direct w s

theorem rdpTable_direct (w : Dword) (rest : List Dword) (s : State) :
    vuRunDecoded (rdpTable w rest) s = rdpTableDirect w rest s := by
  unfold rdpTable rdpTableDirect
  split <;> first
    | rfl
    | (rename_i h; simp only [h]; rfl)
    | (split <;> first | rfl | (exfalso; simp_all))

theorem rdpTable_not_truncated (w : Dword) (rest : List Dword) : rdpTable w rest ≠ .error .commandTruncated := by
  unfold rdpTable
  split <;> simp

/-- Compiled code runs the twin. -/
@[csimp] theorem rdpRun_eq_direct : @rdpRun = @rdpRunDirect := by
  funext ws s
  cases ws with
  | nil => rfl
  | cons w rest =>
    unfold rdpRun rdpRunDirect decodeRdp
    by_cases h : rest.length + 1 = commandLength (commandOp w)
    · simp only [h, if_true, ← rdpTable_direct]
      unfold vuRunDecoded
      have := rdpTable_not_truncated w rest
      split <;> simp_all
    · simp only [h]
      rfl

end Sys2Proof.Machine
end

