-- ==== Sys2Proof/Machine/Clock.lean ====
section
/-! DEFINITION. The steps of the agents (spec/00_scope.md R8) and SystemClock, which orders them
(spec/60_exceptions.md R850 to R854): the CPU step, the completion of a DMA request, the VectorUnit step, the flush, the
frame counter; booting and stopping the machine. -/

namespace Sys2Proof.Machine

/-- The phase of the tick. -/
def setPhase (p : Phase) (s : State) : State := { s with clock.phase := p }

/-! ## The CPU step (spec/42_branch_jump.md R411) -/

/-- The end of a CPU step: `count_tick`, then the interrupt poll where R411 has one. -/
def cpuEnd (poll : Bool) (r : Result) : Result :=
  match r with
  | .next s => .next (if poll then pollInterrupt (countTick s) else countTick s)
  | .fault f => .fault f
  | .refused why => .refused why

/-- The polls of R411: none after a branch, none after a delay slot. After an exception the poll finds EXL = 1 and does
nothing. -/
def polls (i : Instr) (s : State) : Bool := !isBranch i && !s.cpu.ds

/-- Decode and execute the word `w` (R265, R411). -/
def cpuRun (w : Word) (s : State) : Result :=
  match decodeCpu (statusCu1 s) (statusCu2 s) (statusCu3 s) w with
  | .ok i => cpuEnd (polls i s) (exec i s)
  | .error (.coprocessorUnusable z) => cpuEnd false (raise (.coprocessorUnusable z) s)
  | .error _ => cpuEnd false (raise .reservedInstruction s)

/-- One CPU step: fetch (R150, R141), decode, execute, retire. -/
def cpuStep (s : State) : Result :=
  if s.cpu.pc.toNat % 4 ≠ 0 then cpuEnd false (raise (.addressErrorLoad s.cpu.pc) s)
  else
    match translateVa s .fetch s.cpu.pc with
    | .physical pa => cpuRun (lo32 (memRead s pa 4).1) (memRead s pa 4).2
    | .exception e => cpuEnd false (raise e s)
    | .refusal r => .refused r

/-! ## DMA completion (spec/20_memory.md R204 to R206) -/

/-- The address of byte `i` of row `row` in RDRAM (R205). -/
def rowAddress (q : DmaRequest) (base : Word) (row i : Nat) : Word :=
  base + BitVec.ofNat 32 (row * (q.len + q.skip) + i)

/-- The key in memory of byte `i` of row `row` of an SPMEM place (R205). -/
def spMemKey (q : DmaRequest) (imem : Bool) (offset : BitVec 12) (row i : Nat) : Nat :=
  (if imem then imemBase else dmemBase) + (offset.toNat + row * q.len + i) % 4096

/-- Byte `i` of row `row` of the source (R205). -/
def dmaRead (q : DmaRequest) (row i : Nat) (s : State) : Byte × State :=
  match q.src with
  | .rdram pa => ((memRead s (rowAddress q pa row i) 1).1.setWidth 8, (memRead s (rowAddress q pa row i) 1).2)
  | .cart pa => ((memRead s (rowAddress q pa row i) 1).1.setWidth 8, (memRead s (rowAddress q pa row i) 1).2)
  | .pif => (Memory.byte s.mem (pifBase + i % 64), s)
  | .spMem imem offset => (Memory.byte s.mem (spMemKey q imem offset row i), s)
  | .audio => (0, s)

/-- Byte `i` of row `row` of the destination set to `b` (R205). -/
def dmaWrite (q : DmaRequest) (row i : Nat) (b : Byte) (s : State) : Except Refusal State :=
  match q.dst with
  | .rdram pa => memWrite s (rowAddress q pa row i) 1 (b.setWidth 64)
  | .cart _ => .ok s
  | .pif => .ok { s with mem := Memory.setByte s.mem (pifBase + i % 64) b }
  | .spMem imem offset => .ok { s with mem := Memory.setByte s.mem (spMemKey q imem offset row i) b }
  | .audio => .ok { s with out.audio := s.out.audio ++ [b] }

/-- One byte copied. -/
def dmaByte (q : DmaRequest) (row i : Nat) (s : State) : Except Refusal State :=
  dmaWrite q row i (dmaRead q row i s).1 (dmaRead q row i s).2

/-- The byte copy of a request (R205). -/
def dmaCopy (q : DmaRequest) (s : State) : Except Refusal State :=
  (List.range q.rows).foldlM (fun s' row => (List.range q.len).foldlM (fun s'' i => dmaByte q row i s'') s') s

/-- PIF RAM. -/
def pifRam (s : State) : List Byte := (List.range 64).map fun k => Memory.byte s.mem (pifBase + k)

/-- PIF RAM <- PIF_PROCESS(PIF RAM, controller_latch) (R206). -/
def pifProcess (s : State) : State :=
  { s with
    mem := (List.range 64).foldl
      (fun m k => Memory.setByte m (pifBase + k) (Config.pifProcess (pifRam s) s.controllerLatch k)) s.mem }

/-- The MI source of a completion; SP raises nothing (R204). -/
def dmaSource : DmaOwner → Option MiSource
  | .pi => some .pi
  | .si => some .si
  | .ai => some .ai
  | .sp => none

/-- What follows the copy: PIF processing, the queue, the busy bit, the interrupt (R204, R206). -/
def dmaEnd (q : DmaRequest) (queue : List DmaRequest) (s : State) : State :=
  let p := if q.owner = .si ∧ q.dst = .pif then pifProcess s else s
  let b := setBusy { p with dma := queue } q.owner false
  match dmaSource q.owner with
  | some m => miRaise b m
  | none => b

/-- A request is due (R204). -/
def dmaDue (s : State) (q : DmaRequest) : Bool := decide (q.deadline ≤ s.clock.tick)

/-- One step of the DMA phase: the oldest due request completes; with none due the VectorUnit phase begins. -/
def dmaStep (s : State) : Result :=
  match s.dma.find? (dmaDue s) with
  | some q => stored (dmaCopy q s) fun s' => .next (dmaEnd q (s.dma.eraseP (dmaDue s)) s')
  | none => .next (setPhase (.vu s.cfg.rspBudget) s)

/-! ## The VectorUnit step (spec/46_vector_unit.md R631, R634) -/

/-- The word at rsp_pc. -/
def vuFetch (s : State) : Word :=
  Memory.byte s.mem (imemBase + s.vu.pc.toNat) ++ Memory.byte s.mem (imemBase + (s.vu.pc + 1).toNat) ++
    Memory.byte s.mem (imemBase + (s.vu.pc + 2).toNat) ++ Memory.byte s.mem (imemBase + (s.vu.pc + 3).toNat)

/-- Single step: halt after the instruction (R633). -/
def vuSingleStep (s : State) : State := if s.sp.sstep then { s with sp.halt := true } else s

/-- The end of a VectorUnit step. -/
def vuEnd (r : Result) : Result :=
  match r with
  | .next s => .next (vuSingleStep s)
  | .fault f => .fault f
  | .refused why => .refused why

/-- One VectorUnit step. -/
noncomputable def vuStep (s : State) : Result := vuEnd (vuRun (vuFetch s) s)

/-- The twin of `vuStep` for compiled code. -/
def vuStepDirect (s : State) : Result := vuEnd (vuRunDirect (vuFetch s) s)

/-- Compiled code runs the twin. -/
@[csimp] theorem vuStep_eq_direct : @vuStep = @vuStepDirect := by
  funext s
  unfold vuStep vuStepDirect
  rw [vuRun_eq_direct]

/-! ## The flush (spec/48_rasterizer.md R1001 to R1006) -/

/-- The complete commands of a stream, each as its words; a truncated trailing one is dropped (R1003). The first argument
bounds the number of commands. -/
def cutCommands : Nat → List Dword → List (List Dword)
  | 0, _ => []
  | _ + 1, [] => []
  | n + 1, w :: rest =>
    let k := commandLength (commandOp w)
    if k ≤ rest.length + 1 then (w :: rest).take k :: cutCommands n ((w :: rest).drop k) else []

/-- The stream's complete commands. -/
def streamCommands (s : State) : List (List Dword) := cutCommands s.rdp.stream.length s.rdp.stream

/-- A command is the clear directive (R1006). -/
def isClearDirective (c : Config) (ws : List Dword) : Bool :=
  match ws with
  | [] => false
  | w :: _ => commandOp w == c.clearDirective

/-- The beginning of a flush: the stream is cut, and the depth buffer cleared if a directive is in it, wherever it stands
(R1001, R1006). That this is followed where R1050's law 4 says otherwise is notes/assumptions/40.md. -/
def flushBegin (s : State) : State :=
  setPhase (.draw (streamCommands s))
    { s with rdp.depth := if (streamCommands s).any (isClearDirective s.cfg) then [] else s.rdp.depth }

/-- The end of a flush: the stream is empty. -/
def flushEnd (s : State) : State := setPhase .frame { s with rdp.stream := [] }

/-! ## The frame counter (spec/60_exceptions.md R852) -/

/-- The four bytes of a pixel. -/
def pixelBytes (c : Word) : List Byte :=
  [c.extractLsb' 24 8, c.extractLsb' 16 8, c.extractLsb' 8 8, c.extractLsb' 0 8]

/-- `pack(fb)`: rows top to bottom. -/
def packFrame (s : State) : List Byte :=
  (List.range s.rdp.fbHeight).flatMap fun y => (List.range s.rdp.fbWidth).flatMap fun x => pixelBytes (pixel s x y)

/-- `frame_advance()`. -/
def frameAdvance (s : State) : State :=
  if s.clock.framePhase + 1 = s.cfg.ticksPerFrame then
    miRaise
      { s with
        clock.framePhase := 0
        clock.frames := s.clock.frames + 1
        out.frames := s.out.frames ++ [packFrame s]
        controllerLatch := Config.hostInput (s.clock.frames + 1) } .vi
  else { s with clock.framePhase := s.clock.framePhase + 1 }

/-- The end of a tick (R850). -/
def endTick (s : State) : State :=
  let f := frameAdvance s
  setPhase .boundary { f with clock.tick := f.clock.tick + 1 }

/-! ## The tick (R850, R851) -/

/-- Between two ticks: nothing happens any more once the clock is stopped; otherwise a tick begins. -/
def tickBegin (s : State) : State :=
  if s.clock.state = .stopped then s
  else setPhase (.cpu s.cfg.instrBudget) { s with clock.state := .running }

/-- One step of the machine: one step of the agent whose turn it is, or SystemClock's move to the next phase. -/
noncomputable def phaseStep (s : State) : Result :=
  match s.clock.phase with
  | .boundary => .next (tickBegin s)
  | .cpu 0 => .next (setPhase .dma s)
  | .cpu (n + 1) => cpuStep (setPhase (.cpu n) s)
  | .dma => dmaStep s
  | .vu 0 => .next (setPhase .flush s)
  | .vu (n + 1) => if s.sp.halt then .next (setPhase .flush s) else vuStep (setPhase (.vu n) s)
  | .flush => .next (flushBegin s)
  | .draw [] => .next (flushEnd s)
  | .draw (ws :: more) => rdpRun ws (setPhase (.draw more) s)
  | .frame => .next (endTick s)

/-- The twin of `phaseStep` for compiled code. -/
def phaseStepDirect (s : State) : Result :=
  match s.clock.phase with
  | .boundary => .next (tickBegin s)
  | .cpu 0 => .next (setPhase .dma s)
  | .cpu (n + 1) => cpuStep (setPhase (.cpu n) s)
  | .dma => dmaStep s
  | .vu 0 => .next (setPhase .flush s)
  | .vu (n + 1) => if s.sp.halt then .next (setPhase .flush s) else vuStepDirect (setPhase (.vu n) s)
  | .flush => .next (flushBegin s)
  | .draw [] => .next (flushEnd s)
  | .draw (ws :: more) => rdpRunDirect ws (setPhase (.draw more) s)
  | .frame => .next (endTick s)

/-- Compiled code runs the twin. -/
@[csimp] theorem phaseStep_eq_direct : @phaseStep = @phaseStepDirect := by
  funext s
  unfold phaseStep phaseStepDirect
  rw [vuStep_eq_direct, rdpRun_eq_direct]

/-- One step of a machine that may already be refused: then no agent takes a step (R12, R850). -/
noncomputable def machineStep (s : State) : Result :=
  match s.refused with
  | some why => .refused why
  | none => phaseStep s

/-- The twin of `machineStep` for compiled code. -/
def machineStepDirect (s : State) : Result :=
  match s.refused with
  | some why => .refused why
  | none => phaseStepDirect s

/-- Compiled code runs the twin. -/
@[csimp] theorem machineStep_eq_direct : @machineStep = @machineStepDirect := by
  funext s
  unfold machineStep machineStepDirect
  rw [phaseStep_eq_direct]

/-! ## Boot and stop (spec/70_reset_and_hazards.md R900 to R906; spec/60_exceptions.md R853) -/

/-- `rom_valid` (R906). -/
def romValid (c : Config) : Bool := decide (c.bootCopyLen ≤ c.romSize) && decide (0x40 ≤ c.romSize)

/-- DMEM after the boot copy (R903), all other memory zero. A BOOT_COPY_LEN outside R903's 1 to 4096 is not checked: 0
copies nothing, more than 4096 runs on into IMEM (notes/assumptions/32.md). -/
def bootMemory (c : Config) : List Host.Cell :=
  (List.range c.bootCopyLen).foldl (fun m k => Memory.setByte m (dmemBase + k) (romByte c k)) []

/-- The state after reset under configuration `c` (R900, R901). STATUS_RESET is masked (notes/assumptions/27.md), and its
mode is not checked (notes/assumptions/37.md). -/
def bootState (c : Config) : State :=
  { State.reset with
    cpu.gpr := c.bootGpr
    cpu.pc := c.bootPc
    cp0.status := c.statusReset &&& statusMask
    cp0.config := c.configReset
    rdp.fbWidth := c.fbWidth
    rdp.fbHeight := c.fbHeight
    cfg := c
    mem := bootMemory c }

/-- `reset(ROM)`: an image that is too short gives no state (R900, R906). -/
def boot (c : Config) : Result := if romValid c then .next (bootState c) else .fault .invalidRomImage

/-- The host's `stop()`: it takes effect at the next tick boundary (R853). -/
def stopClock (s : State) : State := { s with clock.state := .stopped }

/-! ## Placing an instruction -/

/-- `s` with one word placed where the CPU fetches next. -/
def placeCpu (w : Word) (s : State) : State :=
  match translateVa s .fetch s.cpu.pc with
  | .physical pa => setPhase (.cpu 1) { s with mem := Memory.write s.mem pa.toNat (zext32 w) 4 }
  | .exception _ | .refusal _ => setPhase (.cpu 1) s

/-- `s` with one word placed where the VectorUnit fetches next, the unit running. -/
def placeVu (w : Word) (s : State) : State :=
  setPhase (.vu 1)
    { s with sp.halt := false, mem := Memory.write s.mem (imemBase + s.vu.pc.toNat) (zext32 w) 4 }

/-- `s` with one command as the next to draw. -/
def placeRdp (ws : List Dword) (s : State) : State := setPhase (.draw [ws]) s

/-- `s` with the words placed where the next step fetches them, the machine running and not refused. -/
def place (c : Code) (s : State) : State :=
  let r := { s with refused := none, clock.state := .running }
  match c with
  | .cpu w => placeCpu w r
  | .vectorUnit w => placeVu w r
  | .displayProcessor ws => placeRdp ws r

end Sys2Proof.Machine
end

