-- ==== Sys2Proof/Machine/Step.lean ====
section
/-! DEFINITION. One step of the machine, and an instruction placed where the next step fetches it. Everything either
does is in Sys2Proof/Machine/Clock.lean. -/

namespace Sys2Proof.Machine

/-- One step: one CPU step, one DMA completion, one VectorUnit step, one DisplayProcessor command, or one move of
SystemClock (spec/00_scope.md R8, spec/60_exceptions.md R850). -/
def step (s : State) : Host.Outcome State Fault Refusal := machineStep s

/-- `s` with the instruction of bits `w`, numbered as the opcode table numbers them, as the very next one to run
(notes/assumptions/4.md). -/
def State.withFetchWord (s : State) (nbits w : Nat) : State := place (tableCode nbits w) s

/-- The machine one step later: a refusal leaves the state marked and ends the tick (spec/00_scope.md R12,
spec/60_exceptions.md R850). -/
def State.advance (s : State) : State := mark s (step s)

end Sys2Proof.Machine
end

