-- ==== Sys2Proof/Machine/Save.lean ====
section
/-! DEFINITION. Save states (spec/10_state.md R85): the state without the host-facing outputs, as a value that is taken
from a machine and put back into one. -/

namespace Sys2Proof.Machine

/-- A save state: every piece of state of spec/10_state.md but the outputs of R83, in the order of `State`. The
configuration is no state of the machine (R9) and is not in it; the model's own phase (in `clock`) and count of draws are
(notes/assumptions/33.md). -/
structure SaveState where
  cpu : Cpu
  cp0 : Cp0
  fpu : Fpu
  vu : Vu
  sp : Sp
  rdp : Rdp
  mi : Mi
  pi : Pi
  si : Si
  ai : Ai
  vi : Vi
  ri : Ri
  busy : Busy
  dma : List DmaRequest
  clock : Clock
  controllerLatch : Word
  refused : Option Refusal
  draws : Nat
  mem : List Host.Cell
  deriving DecidableEq, Repr

/-- The save state of `s` (R85). -/
def save (s : State) : SaveState where
  cpu := s.cpu
  cp0 := s.cp0
  fpu := s.fpu
  vu := s.vu
  sp := s.sp
  rdp := s.rdp
  mi := s.mi
  pi := s.pi
  si := s.si
  ai := s.ai
  vi := s.vi
  ri := s.ri
  busy := s.busy
  dma := s.dma
  clock := s.clock
  controllerLatch := s.controllerLatch
  refused := s.refused
  draws := s.draws
  mem := s.mem

/-- `s` with the save state `v` put back (R85): the outputs and the configuration stay those of `s`. -/
def restore (v : SaveState) (s : State) : State where
  cpu := v.cpu
  cp0 := v.cp0
  fpu := v.fpu
  vu := v.vu
  sp := v.sp
  rdp := v.rdp
  mi := v.mi
  pi := v.pi
  si := v.si
  ai := v.ai
  vi := v.vi
  ri := v.ri
  busy := v.busy
  dma := v.dma
  clock := v.clock
  out := s.out
  controllerLatch := v.controllerLatch
  refused := v.refused
  draws := v.draws
  cfg := s.cfg
  mem := v.mem

end Sys2Proof.Machine
end

