-- ==== Sys2Proof/Safety.lean ====
section
/-! DEFINITION. The terms in which claims speak of the machine: what an instruction completes with, what it leaves alone
(its frame), and the invariants a state of this hardware meets. -/

namespace Sys2Proof.Machine

/-! ## Encoding -/

/-- The word whose bits `hi` to `lo` are 1 and whose others are 0. -/
def bitsOf (hi lo : Nat) : Word := BitVec.ofNat 32 (2 ^ (hi + 1) - 2 ^ lo)

/-- The bits of a CPU word that its instruction's format holds and no decoder looks at: the must-be-zero fields of R243,
by the tables of R246 to R251 (spec/30_encoding.md). -/
def ignoredCpuBits (w : Word) : Word :=
  let op := (w.extractLsb' 26 6).toNat
  let rs := (w.extractLsb' 21 5).toNat
  let funct := (w.extractLsb' 0 6).toNat
  let special :=
    if funct ∈ [0, 2, 3, 56, 58, 59, 60, 62, 63] then bitsOf 25 21                 -- shifts by sa: rs
    else if funct ∈ [8, 17, 19] then bitsOf 20 6                                   -- JR, MTHI, MTLO: rt, rd, sa
    else if funct = 9 then bitsOf 20 16 ||| bitsOf 10 6                            -- JALR: rt, sa
    else if funct ∈ [16, 18] then bitsOf 25 16 ||| bitsOf 10 6                     -- MFHI, MFLO: rs, rt, sa
    else if funct = 15 then bitsOf 25 6                                            -- SYNC: all but funct
    else if 24 ≤ funct ∧ funct ≤ 31 then bitsOf 15 6                               -- multiplies, divides: rd, sa
    else if funct ∈ [4, 6, 7, 20, 22, 23] ∨ (32 ≤ funct ∧ funct ≤ 47) then bitsOf 10 6   -- the others on registers: sa
    else 0
  let coprocessor1 :=
    if rs < 8 then bitsOf 10 0                                                     -- moves: below fs
    else if rs = 8 then bitsOf 20 18                                               -- branches: rt[4:2] (R250)
    else if funct < 4 then 0
    else if funct < 48 then bitsOf 20 16                                           -- one operand: ft
    else bitsOf 10 6                                                               -- compares: fd
  if op = 0 then special
  else if op ∈ [6, 7, 22, 23] then bitsOf 20 16                                    -- branches on rs alone: rt
  else if op = 15 then bitsOf 25 21                                                -- LUI: rs
  else if op = 16 then if w.getLsbD 25 then bitsOf 24 6 else bitsOf 10 0           -- CP0 operations; CP0 moves
  else if op = 17 then coprocessor1
  else 0

/-- The bits of a VectorUnit word that its instruction's format holds and no decoder looks at: the must-be-zero fields
of spec/46_vector_unit.md R635, and what R739 and R740 of spec/47_vector_ops.md leave of VSAR and VNOP. -/
def ignoredVuBits (w : Word) : Word :=
  let op := (w.extractLsb' 26 6).toNat
  let rs := (w.extractLsb' 21 5).toNat
  let funct := (w.extractLsb' 0 6).toNat
  if op = 0 then
    if funct ∈ [0, 2, 3] then bitsOf 25 21                                         -- shifts by sa: rs
    else if funct = 8 then bitsOf 20 6                                             -- JR: rt, rd, sa
    else if funct = 9 then bitsOf 20 16 ||| bitsOf 10 6                            -- JALR: rt, sa
    else if funct ∈ [4, 6, 7] ∨ 32 ≤ funct then bitsOf 10 6                        -- the others on registers: sa
    else 0
  else if op ∈ [6, 7] then bitsOf 20 16                                            -- BLEZ, BGTZ: rt
  else if op = 15 then bitsOf 25 21                                                -- LUI: rs
  else if op = 16 then bitsOf 10 0                                                 -- MFC0, MTC0: below rd
  else if op = 18 then
    if w.getLsbD 25 then
      if funct = 29 then bitsOf 20 11                                              -- VSAR: vt, vs
      else if funct = 55 then bitsOf 24 6                                          -- VNOP: all but funct
      else 0
    else if rs ∈ [0, 4] then bitsOf 6 0                                            -- MFC2, MTC2: below the element
    else bitsOf 10 0                                                               -- CFC2, CTC2: below rd
  else 0

/-- The bits of a command's first word that no decoder looks at (spec/48_rasterizer.md R1010, R1025 to R1028, R1040,
R1041): all below the top byte of NOP and the syncs, those that no field of FILL_RECTANGLE and SET_FILL_COLOR holds. -/
def ignoredCommandBits (w : Dword) : Dword :=
  let op := (w.extractLsb' 56 8).toNat
  if op = 0 ∨ (0x26 ≤ op ∧ op ≤ 0x29) then 0x00FFFFFFFFFFFFFF
  else if op = 0x36 then 0x00000000FF000000
  else if op = 0x37 then 0x00FFFFFF00000000
  else 0

/-! ## Frames -/

/-- `t` with its CPU pipeline state put back to that of `s`: pc, pending, ds. -/
def backPipeline (s t : State) : State :=
  { t with cpu.pc := s.cpu.pc, cpu.pending := s.cpu.pending, cpu.ds := s.cpu.ds }

/-- Every byte of every memory of the bus reads in `t` as it does in `s`. -/
def sameMemory (s t : State) : Prop := ∀ a, Memory.byte t.mem a = Memory.byte s.mem a

/-- Every byte whose address does not satisfy `p` reads in `t` as it does in `s`. -/
def sameMemoryBut (p : Nat → Prop) (s t : State) : Prop := ∀ a, ¬p a → Memory.byte t.mem a = Memory.byte s.mem a

/-- Nothing but the CPU's pipeline state differs. -/
def framePc (s t : State) : Prop := backPipeline s t = s ∧ sameMemory s t

/-- Nothing but x[rd] and the CPU's pipeline state differs. -/
def frameGpr (rd : Reg) (s t : State) : Prop :=
  (∀ r, r ≠ rd → gpr t r = gpr s r) ∧ backPipeline s { t with cpu.gpr := s.cpu.gpr } = s ∧ sameMemory s t

/-- Nothing but HI, LO and the CPU's pipeline state differs. -/
def frameHiLo (s t : State) : Prop :=
  backPipeline s { t with cpu.hi := s.cpu.hi, cpu.lo := s.cpu.lo } = s ∧ sameMemory s t

/-- Nothing but memory at the addresses of `p` and the CPU's pipeline state differs. -/
def frameStore (p : Nat → Prop) (s t : State) : Prop :=
  sameMemoryBut p s t ∧ backPipeline s { t with mem := s.mem } = s

/-- Nothing but f[fd], FCR31 and the CPU's pipeline state differs. -/
def frameFpr (fd : Reg) (s t : State) : Prop :=
  (∀ r, r ≠ fd → fpr t r = fpr s r) ∧
    backPipeline s { t with fpu.fpr := s.fpu.fpr, fpu.fcr31 := s.fpu.fcr31 } = s ∧ sameMemory s t

/-- `t` with the VectorUnit's pipeline state put back to that of `s`: rsp_pc, rsp_pending, rsp_ds. -/
def backVuPipeline (s t : State) : State :=
  { t with vu.pc := s.vu.pc, vu.pending := s.vu.pending, vu.ds := s.vu.ds }

/-- Nothing but the VectorUnit's pipeline state differs. -/
def frameVuPc (s t : State) : Prop := backVuPipeline s t = s ∧ sameMemory s t

/-- Nothing but sr[rd] and the VectorUnit's pipeline state differs. -/
def frameSr (rd : Reg) (s t : State) : Prop :=
  (∀ r, r ≠ rd → sr t r = sr s r) ∧ backVuPipeline s { t with vu.sr := s.vu.sr } = s ∧ sameMemory s t

/-- Nothing but vr[vd] and the VectorUnit's pipeline state differs. -/
def frameVr (vd : Reg) (s t : State) : Prop :=
  (∀ r, r ≠ vd → vr t r = vr s r) ∧ backVuPipeline s { t with vu.vr := s.vu.vr } = s ∧ sameMemory s t

/-- Nothing but vr[vd], the accumulator, VCC, VCO and the VectorUnit's pipeline state differs; VCE among the rest. -/
def frameVector (vd : Reg) (s t : State) : Prop :=
  (∀ r, r ≠ vd → vr t r = vr s r) ∧
    backVuPipeline s { t with vu.vr := s.vu.vr, vu.acc := s.vu.acc, vu.vcc := s.vu.vcc, vu.vco := s.vu.vco } = s ∧
    sameMemory s t

/-- Nothing but memory at the addresses of `p` and the VectorUnit's pipeline state differs. -/
def frameVuStore (p : Nat → Prop) (s t : State) : Prop :=
  sameMemoryBut p s t ∧ backVuPipeline s { t with mem := s.mem } = s

/-- Nothing but the DisplayProcessor's own state differs. -/
def frameRdp (s t : State) : Prop := { t with rdp := s.rdp } = s ∧ sameMemory s t

/-! ## Completion -/

/-- The pipeline after an instruction that is no control transfer (R411): past it, or at the target of the branch whose
delay slot it stood in. -/
def pastInstruction (s t : State) : Prop :=
  t.cpu.pc = (if s.cpu.ds then s.cpu.pending.getD (s.cpu.pc + 4) else s.cpu.pc + 4) ∧ t.cpu.pending = none ∧
    t.cpu.ds = false

/-- The VectorUnit's pipeline after an instruction that is no control transfer (R634). -/
def pastVuInstruction (s t : State) : Prop :=
  t.vu.pc = (if s.vu.ds then s.vu.pending.getD (s.vu.pc + 4) else s.vu.pc + 4) ∧ t.vu.pending = none ∧ t.vu.ds = false

/-- `i` completes at `s`, in a state that satisfies `post`. -/
def completes (i : Instr) (s : State) (post : State → Prop) : Prop := ∃ t, exec i s = .next t ∧ post t

/-- `i` completes at `s` with x[rd] = v (nothing if rd = 0) and everything else as in `u`. -/
def writesGprFrom (u : State) (i : Instr) (rd : Reg) (v : Dword) (s : State) : Prop :=
  completes i s fun t => gpr t rd = (if rd = 0 then 0 else v) ∧ frameGpr rd u t ∧ pastInstruction s t

/-- `i` completes at `s` with x[rd] = v (nothing if rd = 0) and everything else unchanged. -/
def writesGpr (i : Instr) (rd : Reg) (v : Dword) (s : State) : Prop := writesGprFrom s i rd v s

/-- `i` completes at `s` with HI and LO as given and everything else unchanged. -/
def writesHiLo (i : Instr) (hi lo : Dword) (s : State) : Prop :=
  completes i s fun t => t.cpu.hi = hi ∧ t.cpu.lo = lo ∧ frameHiLo s t ∧ pastInstruction s t

/-- `i` completes at `s` with nothing but the pc moved on. -/
def hasNoEffect (i : Instr) (s : State) : Prop := completes i s fun t => framePc s t ∧ pastInstruction s t

/-- `i` completes at `s` as a branch (R411): taken or not, its slot executed or nullified; x[link] = pc + 8 where it
links, everything else unchanged. -/
def branches (i : Instr) (taken : Bool) (target : Dword) (likely : Bool) (link : Option Reg) (s : State) : Prop :=
  completes i s fun t =>
    t.cpu.pc = (if taken = false ∧ likely = true then s.cpu.pc + 8 else s.cpu.pc + 4) ∧
    t.cpu.pending = (if taken then some target else none) ∧
    t.cpu.ds = (taken || !likely) ∧
    match link with
    | none => framePc s t
    | some r => gpr t r = (if r = 0 then 0 else s.cpu.pc + 8) ∧ frameGpr r s t

/-- `i` at `s` takes exception `e` (R810) and does nothing else; `u` is the state the entry starts from. -/
def takesFrom (u : State) (i : Instr) (e : Exception) (s : State) : Prop := exec i s = .next (enter e s.cpu.ds u)

/-- `i` at `s` takes exception `e` (R810) and does nothing else. -/
def takes (i : Instr) (e : Exception) (s : State) : Prop := takesFrom s i e s

/-- `i` completes at `s` with sr[rd] = v (nothing if rd = 0) and everything else as in `u`. -/
def writesSrFrom (u : State) (i : Instr) (rd : Reg) (v : Word) (s : State) : Prop :=
  completes i s fun t => sr t rd = (if rd = 0 then 0 else v) ∧ frameSr rd u t ∧ pastVuInstruction s t

/-- `i` completes at `s` with sr[rd] = v (nothing if rd = 0) and everything else unchanged. -/
def writesSr (i : Instr) (rd : Reg) (v : Word) (s : State) : Prop := writesSrFrom s i rd v s

/-- `i` completes at `s` as a VectorUnit branch (R634, R639). -/
def vuBranches (i : Instr) (taken : Bool) (target : BitVec 12) (link : Option Reg) (s : State) : Prop :=
  completes i s fun t =>
    t.vu.pc = s.vu.pc + 4 ∧ t.vu.pending = (if taken then some target else none) ∧ t.vu.ds = true ∧
    match link with
    | none => frameVuPc s t
    | some r => sr t r = (if r = 0 then 0 else (s.vu.pc + 8).setWidth 32) ∧ frameSr r s t

/-- The operands of a 32-bit operation are admitted by NONSEXT32 (R300). -/
def operands32 (s : State) (vs : List Dword) : Prop :=
  s.cfg.nonSext32 = .low32 ∨ ∀ v ∈ vs, v = sext32 (lo32 v)

/-- The address `a` is one of the `n` bytes from `base` on. -/
def within (base n a : Nat) : Prop := base ≤ a ∧ a < base + n

/-- `i` at `s` stops with the refusal `why`. -/
def stops (i : Instr) (why : Refusal) (s : State) : Prop := exec i s = .refused why

/-! ## The FPU (spec/45_fpu.md R571, R574) -/

/-- The register whose 64 bits hold FPR operand `i`: with FR = 0 an odd one lives in the even one below it. -/
def fprHome (s : State) (i : Reg) : Reg := if statusFr s || !i.getLsbD 0 then i else i &&& 0x1E

/-- The 64 bits of `fprHome s i` after the 32-bit write of `v` to FPR operand `i`. -/
def fprWord (s : State) (i : Reg) (v : Word) : Dword :=
  if statusFr s || !i.getLsbD 0 then hi32 (fpr s i) ++ v else v ++ lo32 (fpr s (i &&& 0x1E))

/-- `fpr32(i)`: the low half, or with FR = 0 and `i` odd the high half of the even register below it. -/
def fprLow (s : State) (i : Reg) : Word :=
  if statusFr s || !i.getLsbD 0 then lo32 (fpr s i) else hi32 (fpr s (i &&& 0x1E))

/-- FPR `i` can be an operand of format `f` (R571). -/
def fprUsable (s : State) (f : Fmt) (i : Reg) : Prop := f = .s ∨ f = .w ∨ statusFr s = true ∨ i.getLsbD 0 = false

/-- The operand of format `f` in FPR `i` (R572). -/
def fprOperand (s : State) (f : Fmt) (i : Reg) : Dword :=
  if f = .s ∨ f = .w then (fprLow s i).setWidth 64 else fpr s i

/-- `t` is `u` with the value `v` of format `f` written to FPR `i`, the instruction retired at `s`. -/
def wroteFpr (s u t : State) (f : Fmt) (i : Reg) (v : Dword) : Prop :=
  fpr t (fprHome u i) = (if f = .s ∨ f = .w then fprWord u i (lo32 v) else v) ∧ frameFpr (fprHome u i) u t ∧
    pastInstruction s t

/-- How an arithmetic instruction (R574) ends at `s`, on FPOP's operation `op` from format `fin` to `fout` in rounding
mode `rm`: `Unimplemented`, an enabled IEEE exception, or the result in FPR `fd`. -/
def fpEnds (i : Instr) (op : FpOp) (fin fout : Fmt) (rm : BitVec 2) (fd : Reg) (a b : Dword) (s : State) : Prop :=
  match fpop s op fin fout rm a b with
  | none => takesFrom { s with fpu.fcr31 := fcrWithCause s.fpu.fcr31 0x20 } i .floatingPoint s
  | some (v, flags) =>
    let causes := fcrWithCause s.fpu.fcr31 (flags.setWidth 6)
    if fpuUnimpl s op fin fout rm a b = true then
      takesFrom { s with fpu.fcr31 := fcrWithCause s.fpu.fcr31 0x20 } i .floatingPoint s
    else if flags &&& fcrEnable s.fpu.fcr31 ≠ 0 then takesFrom { s with fpu.fcr31 := causes } i .floatingPoint s
    else completes i s fun t => t.fpu.fcr31 = causes ||| (flags.setWidth 32 <<< 2) ∧ wroteFpr s s t fout fd v

/-- How a compare (R610) of condition `cond` ends at `s`. -/
def fpCompareEnds (i : Instr) (f : Fmt) (cond : BitVec 4) (a b : Dword) (s : State) : Prop :=
  match fpCompareOp s f cond a b with
  | none => takesFrom { s with fpu.fcr31 := fcrWithCause s.fpu.fcr31 0x20 } i .floatingPoint s
  | some (less, equal, unordered, flags) =>
    let causes := fcrWithCause s.fpu.fcr31 (flags.setWidth 6)
    let c := (cond.getLsbD 2 && less) || (cond.getLsbD 1 && equal) || (cond.getLsbD 0 && unordered)
    if fpuUnimpl s .compare f f (fcrRm s.fpu.fcr31) a b = true then
      takesFrom { s with fpu.fcr31 := fcrWithCause s.fpu.fcr31 0x20 } i .floatingPoint s
    else if flags &&& fcrEnable s.fpu.fcr31 ≠ 0 then takesFrom { s with fpu.fcr31 := causes } i .floatingPoint s
    else completes i s fun t =>
      t.fpu.fcr31 = setBit (causes ||| (flags.setWidth 32 <<< 2)) 23 c ∧
        backPipeline s { t with fpu.fcr31 := s.fpu.fcr31 } = s ∧ sameMemory s t ∧ pastInstruction s t

/-! ## FPOP_IEEE (spec/45_fpu.md R572, R573) -/

/-- `v` is the bits of format `f` with the sign, the exponent field and the fraction field given. -/
def hasFields (f : Fmt) (v : Dword) (neg : Bool) (e frac : Nat) : Prop :=
  v.toNat < 2 ^ (signPos f + 1) ∧ signField f v = neg ∧ expField f v = e ∧ fracField f v = frac

/-- The magnitude of the finite number that the bits `v` of floating format `f` stand for. -/
noncomputable def fpMagnitude (f : Fmt) (v : Dword) : ℝ :=
  if expField f v = 0 then fracField f v * (2 : ℝ) ^ (1 - (expBias f : ℤ) - fracBits f)
  else (fracField f v + 2 ^ fracBits f) * (2 : ℝ) ^ ((expField f v : ℤ) - expBias f - fracBits f)

/-- The finite number that the bits `v` of floating format `f` stand for. -/
noncomputable def fpNumber (f : Fmt) (v : Dword) : ℝ := if signField f v then -fpMagnitude f v else fpMagnitude f v

/-- `n` units are the magnitude `y`, of a number of sign `neg`, rounded to a whole number of units in mode `rm` (R63): the
nearest, the even one of two, for 0; the one below or above otherwise. -/
def roundsToMultiple (rm : BitVec 2) (neg : Bool) (y unit : ℝ) (n : ℕ) : Prop :=
  if rm = 0 then |n * unit - y| ≤ unit / 2 ∧ (|n * unit - y| = unit / 2 → n % 2 = 0)
  else if (rm = 2 ∧ neg = false) ∨ (rm = 3 ∧ neg = true) then y ≤ n * unit ∧ n * unit < y + unit
  else n * unit ≤ y ∧ y < n * unit + unit

/-- `r` is the result and the flags of an operation whose exact result is `x`, correctly rounded to format `f` in mode
`rm` (R573): `x` to the format's precision, the exponent bounded below. An overflow is an infinity or the largest finite
number, with O and I; otherwise I says that rounding changed `x`, and U that the result is tiny too
(notes/assumptions/16.md; where the readings of tiny differ U is free, notes/assumptions/12.md). `zeroNeg` is the sign of
an exact zero. -/
def correctlyRounded (f : Fmt) (rm : BitVec 2) (x : ℝ) (zeroNeg : Bool) (r : Dword × BitVec 5) : Prop :=
  (x = 0 → hasFields f r.1 zeroNeg 0 0 ∧ r.2 = 0) ∧
  ∀ (neg : Bool) (top : ℤ), x ≠ 0 → (neg = true ↔ x < 0) → (2 : ℝ) ^ top ≤ |x| → |x| < (2 : ℝ) ^ (top + 1) →
    let least : ℤ := 1 - expBias f
    let unit := (2 : ℝ) ^ (max top least - fracBits f)
    ∃ n : ℕ, roundsToMultiple rm neg |x| unit n ∧
      ((2 : ℝ) ^ ((expBias f : ℤ) + 1) ≤ n * unit → r.2 = 5 ∧
        if rm = 0 ∨ (rm = 2 ∧ neg = false) ∨ (rm = 3 ∧ neg = true) then hasFields f r.1 neg (expTop f) 0
        else hasFields f r.1 neg (expTop f - 1) (2 ^ fracBits f - 1)) ∧
      (n * unit < (2 : ℝ) ^ ((expBias f : ℤ) + 1) →
        hasFields f r.1 neg (expField f r.1) (fracField f r.1) ∧ expField f r.1 < expTop f ∧
        fpMagnitude f r.1 = n * unit ∧ r.2.toNat < 4 ∧ (r.2.getLsbD 0 = true ↔ n * unit ≠ |x|) ∧
        (r.2.getLsbD 1 = true → n * unit ≠ |x| ∧ |x| < (2 : ℝ) ^ least) ∧
        (n * unit ≠ |x| → n * unit < (2 : ℝ) ^ least → r.2.getLsbD 1 = true))

/-! ## Accesses (spec/20_memory.md R140 to R165, spec/43_load_store.md) -/

/-- Byte `j`, counted from the most significant, of the `n`-byte value `v`. -/
def byteAt (n : Nat) (v : Dword) (j : Nat) : Byte := (v >>> (8 * (n - 1 - j))).setWidth 8

/-- The access of a CPU load or store: the alignment it asks for, its kind, its base and its offset. -/
def dataAccess : Instr → Option (Nat × Access × Reg × BitVec 16)
  | .lb _ o b | .lbu _ o b | .lwl _ o b | .lwr _ o b | .ldl _ o b | .ldr _ o b => some (1, .load, b, o)
  | .lh _ o b | .lhu _ o b => some (2, .load, b, o)
  | .lw _ o b | .lwu _ o b | .ll _ o b | .lwc1 _ o b => some (4, .load, b, o)
  | .ld _ o b | .lld _ o b | .ldc1 _ o b => some (8, .load, b, o)
  | .sb _ o b | .swl _ o b | .swr _ o b | .sdl _ o b | .sdr _ o b => some (1, .store, b, o)
  | .sh _ o b => some (2, .store, b, o)
  | .sw _ o b | .sc _ o b | .swc1 _ o b => some (4, .store, b, o)
  | .sd _ o b | .scd _ o b | .sdc1 _ o b => some (8, .store, b, o)
  | _ => none

/-- `i` completes at `s` by storing the low `8 n` bits of `v` at physical address `pa` (R163): big-endian bytes in a
memory, nothing in ROM or an unmapped hole, a register write, or a refusal of 1 or 2 bytes to a register. -/
def storesTo (i : Instr) (n : Nat) (pa : Word) (v : Dword) (s : State) : Prop :=
  match region s.cfg.rdramSize pa.toNat with
  | .memory =>
    completes i s fun t => (∀ k < n, Memory.byte t.mem (pa.toNat + k) = byteAt n v k) ∧
      frameStore (within pa.toNat n) s t ∧ pastInstruction s t
  | .rom | .zeroRom | .unmapped => hasNoEffect i s
  | .registers g offset =>
    if n = 4 then exec i s = .next (retireSeq (regWrite s g offset (lo32 v)))
    else if n = 8 then exec i s = .next (retireSeq (memWriteWord (memWriteWord s pa (v >>> 32)) (pa + 4) v))
    else stops i .subWordRegisterWrite s

/-- Nothing of the CPU differs, and no byte of memory. -/
def frameDevice (s t : State) : Prop :=
  t.cpu = s.cpu ∧ t.cp0 = s.cp0 ∧ t.fpu = s.fpu ∧ t.cfg = s.cfg ∧ t.mem = s.mem

/-- `i` completes at `s` in the state `u` with only the pipeline moved on. -/
def movesTo (i : Instr) (u : State) (s : State) : Prop :=
  completes i s fun t => backPipeline u t = u ∧ sameMemory u t ∧ pastInstruction s t

/-! ## The VectorUnit's accesses (spec/46_vector_unit.md R636, R689 to R704) -/

/-- The physical address of DMEM byte `a + k`, wrapping in DMEM. -/
def dmemKey (a : Word) (k : Nat) : Nat := 0x04000000 + (a.toNat + k) % 4096

/-- The DMEM byte at `a + k`. -/
def dmemByte (s : State) (a : Word) (k : Nat) : Byte := Memory.byte s.mem (dmemKey a k)

/-- `i` completes at `s` by storing `value k` at DMEM byte `a + k` for every k below `n`. -/
def vuStores (i : Instr) (a : Word) (n : Nat) (value : Nat → Byte) (s : State) : Prop :=
  completes i s fun t => (∀ k < n, dmemByte t a k = value k) ∧
    frameVuStore (fun x => ∃ k < n, x = dmemKey a k) s t ∧ pastVuInstruction s t

/-- `i` completes at `s` by loading DMEM bytes `a` to `a + n - 1` into the image of vr[vt] from element `e` on, those past
element 15 dropped. -/
def vectorLoads (i : Instr) (a : Word) (n : Nat) (vt : Reg) (e : BitVec 4) (s : State) : Prop :=
  completes i s fun t =>
    (∀ b < 16, imgByte (vr t vt) b =
      if e.toNat ≤ b ∧ b < e.toNat + n then dmemByte s a (b - e.toNat) else imgByte (vr s vt) b) ∧
    frameVr vt s t ∧ pastVuInstruction s t

/-- `i` completes at `s` by storing the image of vr[vt] from element `e` on, the element wrapping, to DMEM bytes `a` to
`a + n - 1`. -/
def vectorStores (i : Instr) (a : Word) (n : Nat) (vt : Reg) (e : BitVec 4) (s : State) : Prop :=
  vuStores i a n (fun k => imgByte (vr s vt) ((e.toNat + k) % 16)) s

/-! ## Set-commands (spec/48_rasterizer.md R1004) -/

/-- `i` completes at `s` with dp_state[op] = w and nothing else changed. -/
def setsDpState (i : Instr) (op : BitVec 8) (w : Dword) (s : State) : Prop :=
  completes i s fun t =>
    Store.get 0 t.rdp.dpState op.toNat = w ∧
    (∀ k, k ≠ op.toNat → Store.get 0 t.rdp.dpState k = Store.get 0 s.rdp.dpState k) ∧
    { t with rdp.dpState := s.rdp.dpState } = s ∧ sameMemory s t

/-! ## Triangles (spec/48_rasterizer.md R1012 to R1014) -/

/-- `order` lists the vertices by ascending y, those of one y as they came (R1012). -/
def sortsByY (v : Fin 3 → Vertex) (order : Fin 3 → Fin 3) : Prop :=
  ∀ i j, i < j → (v (order i)).y < (v (order j)).y ∨ ((v (order i)).y = (v (order j)).y ∧ order i < order j)

/-- P + (Q - P) · k in every field. -/
def between (p q : Vertex) (k : Rat) : Vertex where
  x := p.x + (q.x - p.x) * k
  y := p.y + (q.y - p.y) * k
  z := p.z + (q.z - p.z) * k
  r := p.r + (q.r - p.r) * k
  g := p.g + (q.g - p.g) * k
  b := p.b + (q.b - p.b) * k
  a := p.a + (q.a - p.a) * k
  s := p.s + (q.s - p.s) * k
  t := p.t + (q.t - p.t) * k
  w := p.w + (q.w - p.w) * k

/-- The point of the triangle `a`, `b`, `c`, sorted by y, that pixel (x, y) samples: none if the triangle does not cover the
pixel (R1012). -/
def coveringPoint (a b c : Vertex) (x y : Nat) : Option Vertex :=
  let px : Rat := x
  let py : Rat := y
  let long := between a c ((py - a.y) / (c.y - a.y))
  let short := if py < b.y then between a b ((py - a.y) / (b.y - a.y)) else between b c ((py - b.y) / (c.y - b.y))
  let left := if long.x ≤ short.x then long else short
  let right := if long.x ≤ short.x then short else long
  if a.y ≤ py ∧ py < c.y ∧ left.x ≤ px ∧ px < right.x then some (between left right ((px - left.x) / (right.x - left.x)))
  else none

/-- A colour field as a byte: its floor, clamped (R1014). -/
def colourByte (r : Rat) : Byte := BitVec.ofInt 8 (max 0 (min 255 r.floor))

/-! ## The VectorUnit's lanes (spec/47_vector_ops.md R721, R722) -/

/-- Lane `l` of vr[i]. -/
def vrLane (s : State) (i : Reg) (l : Fin 8) : Half := (vr s i)[l.val]

/-- The lane of the second operand that lane `l` selects (R721). -/
def selected (e : BitVec 4) (l : Nat) : Nat :=
  if e.toNat ≤ 1 then l else if e.toNat ≤ 3 then l / 2 * 2 + e.toNat % 2
  else if e.toNat ≤ 7 then l / 4 * 4 + e.toNat % 4 else e.toNat - 8

/-- Lane `l` of the second operand. -/
def vtLane (s : State) (vt : Reg) (e : BitVec 4) (l : Fin 8) : Half := (vr s vt)[selected e l.val % 8]'(by omega)

/-- `i` completes at `s` by the lane pattern (R722): lane l of the full result is `full l`; the accumulator holds it,
vd holds it clamped to 16 bits. -/
def laneWise (i : Instr) (vd : Reg) (full : Fin 8 → Int) (post : State → Prop) (s : State) : Prop :=
  completes i s fun t =>
    (∀ l : Fin 8, (vrLane t vd l).toInt = max (-32768) (min 32767 (full l)) ∧ (t.vu.acc[l.val]).toInt = full l) ∧
      post t ∧ frameVector vd s t ∧ pastVuInstruction s t

/-! ## Classes of instructions -/

/-- The instructions of coprocessor 1, which need Status.CU1 (spec/45_fpu.md R570). -/
def isCp1 (i : Instr) : Bool :=
  match encode i with
  | .cpu w => fOp w == 17 || fOp w == 49 || fOp w == 53 || fOp w == 57 || fOp w == 61
  | .vectorUnit _ | .displayProcessor _ => false

/-- The CPU's control transfers: branches, jumps and ERET (R413). -/
def isControlTransfer (i : Instr) : Bool := isBranch i || i == .eret

/-- The VectorUnit's branches and jumps (R634). -/
def isVuBranch : Instr → Bool
  | .rspJr .. | .rspJalr .. | .rspJ .. | .rspJal .. | .rspBeq .. | .rspBne .. | .rspBlez .. | .rspBgtz .. | .rspBltz ..
  | .rspBgez .. | .rspBltzal .. | .rspBgezal .. => true
  | _ => false

/-! ## Invariants -/

/-- The bits that the registers hard-wire, the mode, and the two pipelines are as the spec says they are in every state
of the machine. -/
structure Sane (s : State) : Prop where
  /-- Status bits 19, 21 and 23 are 0 (R50). -/
  status : s.cp0.status &&& 0x00A80000 = 0
  /-- Kernel mode (R870). -/
  mode : kernelMode s = true
  /-- Cause bits 30, 27:16, 14:10, 7 and 1:0 are stored as 0 (R51). -/
  cause : s.cp0.cause &&& 0x4FFF7C83 = 0
  /-- Config bits 31:4 keep their reset value (R57). -/
  config : (s.cp0.config ^^^ s.cfg.configReset) &&& 0xFFFFFFF0 = 0
  /-- WatchLo bits 2:0 are 0: bit 2 hard-wired, R and W refused (R59). -/
  watchLo : s.cp0.watchLo &&& 0x00000007 = 0
  /-- WatchHi bits 31:4 are 0 (R59). -/
  watchHi : s.cp0.watchHi &&& 0xFFFFFFF0 = 0
  /-- FCR31 bits 31:25 and 22:18 are 0 (R63). -/
  fcr31 : s.fpu.fcr31 &&& 0xFE7C0000 = 0
  /-- A pending branch target implies a delay slot (R45). -/
  pending : s.cpu.pending ≠ none → s.cpu.ds = true
  /-- The same for the VectorUnit (R65). -/
  vuPending : s.vu.pending ≠ none → s.vu.ds = true
  /-- rsp_pc is a multiple of 4 (R65). -/
  vuPc : s.vu.pc.toNat % 4 = 0
  /-- So is a pending target (R638). -/
  vuTarget : ∀ t, s.vu.pending = some t → t.toNat % 4 = 0
  /-- count_phase is below COUNT_DIV (R47). -/
  countPhase : s.cpu.countPhase < s.cfg.countDiv
  /-- frame_phase is below TICKS_PER_FRAME (R82). -/
  framePhase : s.clock.framePhase < s.cfg.ticksPerFrame

/-- Every sparse store is in its canonical form. -/
structure Canonical (s : State) : Prop where
  memory : Memory.wf s.mem = true
  frameBuffer : Store.wf 0 s.rdp.fb = true
  depthBuffer : Store.wf depthFar s.rdp.depth = true
  dpState : Store.wf 0 s.rdp.dpState = true

/-- A peripheral's busy bit is set exactly while it owns a request, and it owns at most one (R80, R202). -/
def BusyMatches (s : State) : Prop :=
  ∀ o, (s.dma.filter fun q => q.owner == o).length = if busy s o then 1 else 0

end Sys2Proof.Machine
end

