-- ==== Sys2Proof/Certificates/Slice0/Obligations.lean ====
section
/-! DEFINITION. The statements for the provers, by the section of the spec they come from. Each names the rules it
formalises; statements that rest on a choice of the model say so. -/

open Sys2Proof Sys2Proof.Machine

/-! ## Encoding (spec/30_encoding.md, spec/46_vector_unit.md, spec/47_vector_ops.md, spec/48_rasterizer.md) -/

/-- Words put together bit by bit from the formats of R241, R242, R694, R720 and R1004 decode to what they stand for. -/
def Obligations.WordsDecodeAsTheFormatsSay : Prop :=
  decodeCpu false false false 0x00221820 = .ok (.add 3 1 2) ∧
  decodeCpu false false false 0x2422FFFF = .ok (.addiu 2 1 0xFFFF) ∧
  decodeCpu false false false 0x000317C3 = .ok (.sra 2 3 31) ∧
  decodeCpu false false false 0x00220018 = .ok (.mult 1 2) ∧
  decodeCpu false false false 0x08000040 = .ok (.j 0x40) ∧
  decodeCpu false false false 0x0491FFFF = .ok (.bgezal 4 0xFFFF) ∧
  decodeCpu false false false 0x8C220004 = .ok (.lw 2 4 1) ∧
  decodeCpu false false false 0xFFA20010 = .ok (.sd 2 0x10 29) ∧
  decodeCpu false false false 0x40826000 = .ok (.mtc0 2 12) ∧
  decodeCpu false false false 0x42000018 = .ok .eret ∧
  decodeCpu true false false 0x46020840 = .ok (.addS 1 1 2) ∧
  decodeCpu false false false 0x46020840 = .error (.coprocessorUnusable 1) ∧
  decodeRsp 0x24420010 = .ok (.rspAddiu 2 2 0x10) ∧
  decodeRsp 0xC8412001 = .ok (.rspLqv 1 0 1 2) ∧
  decodeRsp 0x4B0208D0 = .ok (.rspVadd 3 1 2 8) ∧
  decodeRdp [0x3605005000028028] = .ok (.rdpFillRectangle 80 80 40 40) ∧
  decodeRdp [0x37000000CCCCCCCC] = .ok (.rdpSetFillColor 0xCCCCCCCC) ∧
  decodeRdp [0x2900000000000000] = .ok .rdpSyncFull

/-- Every CPU instruction is what its encoding decodes to, whatever the coprocessor bits hold, as long as CU1 is set for
a coprocessor-1 instruction (R241 to R251, R265); words that differ in ignored bits alone decode alike (R243); and a word
that decodes holds its instruction's encoding in every other bit. That an encoding's ignored bits are 0 is the model's
choice (notes/assumptions/8.md). -/
def Obligations.CpuDecodeAndEncodeAgree : Prop :=
  ∀ cu1 cu2 cu3 : Bool,
    (∀ (i : Instr) (w : Word), encode i = .cpu w → (isCp1 i = true → cu1 = true) → decodeCpu cu1 cu2 cu3 w = .ok i) ∧
    (∀ w v : Word, (w ^^^ v) &&& ~~~ignoredCpuBits w = 0 → decodeCpu cu1 cu2 cu3 v = decodeCpu cu1 cu2 cu3 w) ∧
    (∀ (i : Instr) (w : Word), decodeCpu cu1 cu2 cu3 w = .ok i → encode i = .cpu (w &&& ~~~ignoredCpuBits w))

/-- Every VectorUnit instruction, the refused ones too, is what its encoding decodes to (R634, R694, R720); words that
differ in ignored bits alone decode alike (R635, R739, R740); and a word that decodes holds its instruction's encoding in
every other bit. That an encoding's ignored bits are 0 is the model's choice (notes/assumptions/8.md). -/
def Obligations.VectorUnitDecodeAndEncodeAgree : Prop :=
  (∀ (i : Instr) (w : Word), encode i = .vectorUnit w → decodeRsp w = .ok i) ∧
  (∀ w v : Word, (w ^^^ v) &&& ~~~ignoredVuBits w = 0 → decodeRsp v = decodeRsp w) ∧
  (∀ (i : Instr) (w : Word), decodeRsp w = .ok i → encode i = .vectorUnit (w &&& ~~~ignoredVuBits w))

/-- Every well-formed DisplayProcessor command is what its words decode to, and has as many words as its top byte asks
for (R1002, R1004); first words that differ in ignored bits alone decode alike (R1010, R1025 to R1028, R1040, R1041); and
words that decode hold their command's encoding in every other bit. That an encoding's ignored bits are 0 is the model's
choice (notes/assumptions/8.md). -/
def Obligations.DisplayProcessorDecodeAndEncodeAgree : Prop :=
  (∀ (i : Instr) (ws : List Dword), i.wellFormed = true → encode i = .displayProcessor ws →
    decodeRdp ws = .ok i ∧ ∃ w rest, ws = w :: rest ∧ ws.length = commandLength (commandOp w)) ∧
  (∀ (w v : Dword) (rest : List Dword), (w ^^^ v) &&& ~~~ignoredCommandBits w = 0 →
    decodeRdp (v :: rest) = decodeRdp (w :: rest)) ∧
  (∀ (i : Instr) (w : Dword) (rest : List Dword), decodeRdp (w :: rest) = .ok i →
    encode i = .displayProcessor ((w &&& ~~~ignoredCommandBits w) :: rest))

/-- Which CPU words are no instruction. The coprocessor check comes before the table (R262, R263, R265): a coprocessor's
words are unusable while its bit is 0, those of coprocessors 2 and 3 are reserved while it is 1, and no other word depends
on the bits. Of the others, those that R246 to R251 and R606, R607 reserve, and no more, are reserved (R260, R261). -/
def Obligations.UnusableAndReservedCpuWords : Prop :=
  ∀ (cu1 cu2 cu3 : Bool) (w : Word),
    let op := w.extractLsb' 26 6
    let rs := (w.extractLsb' 21 5).toNat
    let rt := (w.extractLsb' 16 5).toNat
    let funct := (w.extractLsb' 0 6).toNat
    let isReserved :=
      (28 ≤ op.toNat ∧ op.toNat ≤ 31) ∨ op = 51 ∨ op = 59 ∨
      (op = 0 ∧ funct ∈ [1, 5, 10, 11, 14, 21, 40, 41, 53, 55, 57, 61]) ∨
      (op = 1 ∧ ((4 ≤ rt ∧ rt ≤ 7) ∨ rt = 13 ∨ rt = 15 ∨ 20 ≤ rt)) ∨
      (op = 16 ∧ rs < 16 ∧ rs ∉ [0, 1, 4, 5]) ∨ (op = 16 ∧ 16 ≤ rs ∧ funct ∉ [1, 2, 6, 8, 24]) ∨
      (op = 17 ∧ (rs = 3 ∨ rs = 7 ∨ (9 ≤ rs ∧ rs ≤ 15) ∨ rs = 18 ∨ rs = 19 ∨ 22 ≤ rs ∨
        ((rs = 16 ∨ rs = 17) ∧ ((16 ≤ funct ∧ funct ≤ 31) ∨ funct = 34 ∨ funct = 35 ∨ (38 ≤ funct ∧ funct ≤ 47))) ∨
        (rs = 16 ∧ funct = 32) ∨ (rs = 17 ∧ funct = 33) ∨ ((rs = 20 ∨ rs = 21) ∧ funct ≠ 32 ∧ funct ≠ 33)))
    ((op = 17 ∨ op = 49 ∨ op = 53 ∨ op = 57 ∨ op = 61) →
      decodeCpu false cu2 cu3 w = .error (.coprocessorUnusable 1) ∧
      decodeCpu true cu2 cu3 w = decodeCpu true false false w ∧
      decodeCpu true cu2 cu3 w ≠ .error (.coprocessorUnusable 1)) ∧
    ((op = 18 ∨ op = 50 ∨ op = 54 ∨ op = 58 ∨ op = 62) →
      decodeCpu cu1 cu2 cu3 w = .error (if cu2 then .reserved else .coprocessorUnusable 2)) ∧
    (op = 19 → decodeCpu cu1 cu2 cu3 w = .error (if cu3 then .reserved else .coprocessorUnusable 3)) ∧
    ((op ≠ 17 ∧ op ≠ 49 ∧ op ≠ 53 ∧ op ≠ 57 ∧ op ≠ 61 ∧ op ≠ 18 ∧ op ≠ 50 ∧ op ≠ 54 ∧ op ≠ 58 ∧ op ≠ 62 ∧ op ≠ 19) →
      decodeCpu cu1 cu2 cu3 w = decodeCpu false false false w ∧
        ∀ z, decodeCpu cu1 cu2 cu3 w ≠ .error (.coprocessorUnusable z)) ∧
    (((op = 17 ∨ op = 49 ∨ op = 53 ∨ op = 57 ∨ op = 61) → cu1 = true) →
      (isReserved → decodeCpu cu1 cu2 cu3 w = .error .reserved) ∧
      (¬isReserved → op ≠ 18 → op ≠ 50 → op ≠ 54 → op ≠ 58 → op ≠ 62 → op ≠ 19 →
        ∃ i, decodeCpu cu1 cu2 cu3 w = .ok i))

/-! ## Steps (spec/42_branch_jump.md R411, spec/46_vector_unit.md R634, spec/60_exceptions.md R850) -/

/-- In the CPU slice, a word at pc that decodes to `i` is executed; then Count ticks, then the interrupt is polled unless
`i` is a branch or stood in a delay slot (R411). The model's phase counts the slice down (notes/assumptions/6.md). -/
def Obligations.StepRunsDecodedCpuInstruction : Prop :=
  ∀ (s : State) (n : Nat) (pa : Word) (i : Instr),
    s.refused = none → s.clock.phase = .cpu (n + 1) → s.cpu.pc.toNat % 4 = 0 →
    translateVa s .fetch s.cpu.pc = .physical pa →
    decodeCpu (statusCu1 s) (statusCu2 s) (statusCu3 s) (lo32 (memRead s pa 4).1) = .ok i →
    step s =
      match exec i { (memRead s pa 4).2 with clock.phase := .cpu n } with
      | .next t => .next (if isBranch i || s.cpu.ds then countTick t else pollInterrupt (countTick t))
      | .fault f => .fault f
      | .refused why => .refused why

/-- The steps of the two other agents: a word at rsp_pc that decodes to `i` is executed, and the unit halts after it if
it single-steps (R633, R634); the next command of the flush is decoded and executed, and one whose top byte R1004 does
not list stops the machine (R1001, R1004, R1005); a word the unit's table does not list stops it too (R640, R719,
R769). The phases are the model's (notes/assumptions/6.md), and which reason such a word records its choice
(notes/assumptions/36.md). -/
def Obligations.StepRunsDecodedVectorUnitInstructionOrCommand : Prop :=
  ∀ s : State, s.refused = none →
    (∀ (n : Nat) (i : Instr),
      s.clock.phase = .vu (n + 1) → s.sp.halt = false → s.vu.pc.toNat % 4 = 0 →
      decodeRsp (lo32 (Memory.read s.mem (0x04001000 + s.vu.pc.toNat) 4)) = .ok i →
      step s =
        match exec i { s with clock.phase := .vu n } with
        | .next t => .next (if t.sp.sstep then { t with sp.halt := true } else t)
        | .fault f => .fault f
        | .refused why => .refused why) ∧
    (∀ n : Nat, s.clock.phase = .vu (n + 1) → s.sp.halt = false → s.vu.pc.toNat % 4 = 0 →
      let w := lo32 (Memory.read s.mem (0x04001000 + s.vu.pc.toNat) 4)
      let op := w.extractLsb' 26 6
      let funct := (w.extractLsb' 0 6).toNat
      let transfer := (op = 50 ∨ op = 58) ∧ 12 ≤ (w.extractLsb' 11 5).toNat
      let vector := op = 18 ∧ w.getLsbD 25 = true ∧
        (funct = 0x12 ∨ (0x16 ≤ funct ∧ funct ≤ 0x1C) ∨ funct = 0x1E ∨ funct = 0x1F ∨ funct = 0x2E ∨ funct = 0x2F ∨
          0x38 ≤ funct)
      let unlisted :=
        (op = 0 ∧ funct ∉ [0, 2, 3, 4, 6, 7, 8, 9, 13, 32, 33, 34, 35, 36, 37, 38, 39, 42, 43]) ∨
        (op = 1 ∧ (w.extractLsb' 16 5).toNat ∉ [0, 1, 16, 17]) ∨ (op = 16 ∧ (w.extractLsb' 21 5).toNat ∉ [0, 4]) ∨
        (op = 18 ∧ w.getLsbD 25 = false ∧ (w.extractLsb' 21 5).toNat ∉ [0, 2, 4, 6]) ∨
        (16 < op.toNat ∧ op.toNat ∉ [18, 32, 33, 35, 36, 37, 39, 40, 41, 43, 50, 58])
      (transfer → step s = .refused .reservedVectorTransfer) ∧ (vector → step s = .refused .reservedVectorOp) ∧
      (unlisted → step s = .refused .unmodelledVectorUnitInstruction) ∧
      (∀ e, decodeRsp w = .error e → ∃ why, step s = .refused why)) ∧
    (∀ (ws : List Dword) (more : List (List Dword)), s.clock.phase = .draw (ws :: more) →
      (∀ i, decodeRdp ws = .ok i → step s = exec i { s with clock.phase := .draw more }) ∧
      (∀ op, decodeRdp ws = .error (.commandUnknown op) → step s = .refused (.unknownCommand op))) ∧
    (∀ (w : Dword) (more : List (List Dword)), s.clock.phase = .draw ([w] :: more) →
      let op := w.extractLsb' 56 8
      let n := op.toNat
      ((1 ≤ n ∧ n ≤ 7) ∨ (0x10 ≤ n ∧ n ≤ 0x23) ∨ n = 0x31 ∨ 0x40 ≤ n) → step s = .refused (.unknownCommand op))

/-- The ways a CPU step ends before it has an instruction (R140, R141, R150, R260 to R263, R411): each exception is
entered and Count ticks; a mapped address is refused. The phase is the model's (notes/assumptions/6.md). -/
def Obligations.FetchAndDecodeExceptions : Prop :=
  ∀ (s : State) (n : Nat), s.refused = none → s.clock.phase = .cpu (n + 1) →
    let u : State := { s with clock.phase := .cpu n }
    (s.cpu.pc.toNat % 4 ≠ 0 → step s = .next (countTick (enter (.addressErrorLoad s.cpu.pc) s.cpu.ds u))) ∧
    (s.cpu.pc.toNat % 4 = 0 → statusKx s = false → s.cpu.pc ≠ sext32 (lo32 s.cpu.pc) →
      step s = .next (countTick (enter (.addressErrorLoad s.cpu.pc) s.cpu.ds u))) ∧
    (∀ pa, s.cpu.pc.toNat % 4 = 0 → translateVa s .fetch s.cpu.pc = .physical pa →
      let w := lo32 (memRead s pa 4).1
      let v := (memRead u pa 4).2
      (decodeCpu (statusCu1 s) (statusCu2 s) (statusCu3 s) w = .error .reserved →
        step s = .next (countTick (enter .reservedInstruction s.cpu.ds v))) ∧
      (∀ z, decodeCpu (statusCu1 s) (statusCu2 s) (statusCu3 s) w = .error (.coprocessorUnusable z) →
        step s = .next (countTick (enter (.coprocessorUnusable z) s.cpu.ds v)))) ∧
    (∀ why, s.cpu.pc.toNat % 4 = 0 → translateVa s .fetch s.cpu.pc = .refusal why → step s = .refused why)

/-- The order of a tick (R850 to R854, R631, R1001), what the frame boundary puts out and samples (R852, R86), and that
a refusal in any phase marks the machine, ends the tick and leaves no step to take (R12, R84, R850). The phases are the
model's bookkeeping (notes/assumptions/6.md); that a refused step's earlier writes are not kept is its choice
(notes/assumptions/1.md). -/
def Obligations.TickOrder : Prop :=
  ∀ s : State,
    (∀ why, s.refused = some why → step s = .refused why) ∧
    (s.refused = none →
      (s.clock.phase = .boundary → s.clock.state = .stopped → step s = .next s) ∧
      (s.clock.phase = .boundary → s.clock.state ≠ .stopped →
        step s = .next { s with clock.state := .running, clock.phase := .cpu s.cfg.instrBudget }) ∧
      (s.clock.phase = .cpu 0 → step s = .next { s with clock.phase := .dma }) ∧
      (s.clock.phase = .dma → (∀ q ∈ s.dma, s.clock.tick < q.deadline) →
        step s = .next { s with clock.phase := .vu s.cfg.rspBudget }) ∧
      (s.clock.phase = .vu 0 → step s = .next { s with clock.phase := .flush }) ∧
      (∀ n, s.clock.phase = .vu (n + 1) → s.sp.halt = true → step s = .next { s with clock.phase := .flush }) ∧
      (s.clock.phase = .draw [] → step s = .next { s with rdp.stream := [], clock.phase := .frame }) ∧
      (s.clock.phase = .frame → s.clock.framePhase + 1 ≠ s.cfg.ticksPerFrame →
        step s = .next { s with
          clock.framePhase := s.clock.framePhase + 1, clock.tick := s.clock.tick + 1, clock.phase := .boundary }) ∧
      (s.clock.phase = .frame → s.clock.framePhase + 1 = s.cfg.ticksPerFrame →
        ∃ frame : List Byte, frame.length = s.rdp.fbWidth * s.rdp.fbHeight * 4 ∧
          (∀ x y k, x < s.rdp.fbWidth → y < s.rdp.fbHeight → k < 4 →
            frame[(y * s.rdp.fbWidth + x) * 4 + k]? = some ((pixel s x y).extractLsb' (24 - 8 * k) 8)) ∧
          step s = .next { s with
            clock.framePhase := 0
            clock.frames := s.clock.frames + 1
            clock.tick := s.clock.tick + 1
            clock.phase := .boundary
            mi.intr := s.mi.intr ||| 8
            out.frames := s.out.frames ++ [frame]
            controllerLatch := Config.hostInput (s.clock.frames + 1) })) ∧
    (∀ t, step s = .next t → s.advance = t) ∧
    (∀ why, s.refused = none → step s = .refused why →
      s.advance = { s with refused := some why, clock.tick := s.clock.tick + 1, clock.phase := .boundary }) ∧
    (s.refused ≠ none → s.advance = s)

/-! ## Exceptions and control transfer (spec/60_exceptions.md, spec/42_branch_jump.md, spec/44_system_cp0.md) -/

/-- Exception entry (R810 to R816): what every exception writes, bit by bit, its code being R800's, and that nothing else
changes. -/
def Obligations.ExceptionEntryWrites : Prop :=
  ∀ (e : Exception) (slot : Bool) (s : State),
    let t := enter e slot s
    (statusExl s = false → t.cp0.epc = (if slot then s.cpu.pc - 4 else s.cpu.pc) ∧ t.cp0.cause.getLsbD 31 = slot) ∧
    (statusExl s = true → t.cp0.epc = s.cp0.epc ∧ t.cp0.cause.getLsbD 31 = s.cp0.cause.getLsbD 31) ∧
    t.cp0.cause.extractLsb' 2 5 = (match e with
      | .interrupt => 0
      | .addressErrorLoad _ => 4
      | .addressErrorStore _ => 5
      | .syscall => 8
      | .breakpoint => 9
      | .reservedInstruction => 10
      | .coprocessorUnusable _ => 11
      | .integerOverflow => 12
      | .trap => 13
      | .floatingPoint => 15) ∧
    (∀ z, e = .coprocessorUnusable z → t.cp0.cause.extractLsb' 28 2 = z) ∧
    ((∀ z, e ≠ .coprocessorUnusable z) → t.cp0.cause.extractLsb' 28 2 = s.cp0.cause.extractLsb' 28 2) ∧
    (∀ k < 32, k ≠ 31 → k ≠ 29 → k ≠ 28 → (k < 2 ∨ 7 ≤ k) → t.cp0.cause.getLsbD k = s.cp0.cause.getLsbD k) ∧
    (∀ va, e = .addressErrorLoad va ∨ e = .addressErrorStore va → t.cp0.badVAddr = va) ∧
    ((∀ va, e ≠ .addressErrorLoad va ∧ e ≠ .addressErrorStore va) → t.cp0.badVAddr = s.cp0.badVAddr) ∧
    (∀ k, statusBit t k = (k == 1 || statusBit s k)) ∧
    t.cpu.pc = (if statusBev s then 0xFFFFFFFFBFC00380 else 0xFFFFFFFF80000180) ∧
    t.cpu.pending = none ∧ t.cpu.ds = false ∧
    backPipeline s { t with
      cp0.epc := s.cp0.epc, cp0.cause := s.cp0.cause, cp0.badVAddr := s.cp0.badVAddr, cp0.status := s.cp0.status } = s

/-- SYSCALL and BREAK (R520, R521, R811) complete by taking their exceptions, whatever their code field; each of the twelve
traps (R522 to R533) takes Trap when its comparison holds, and otherwise only moves on. -/
def Obligations.SyscallBreakAndTrapsTakeTheirExceptions : Prop :=
  ∀ (rs rt : Reg) (code : BitVec 20) (trapCode : BitVec 10) (imm : BitVec 16) (s : State),
    let a := gpr s rs
    let b := gpr s rt
    let c : Dword := imm.signExtend 64
    let traps := fun (i : Instr) (p : Prop) => (p → takes i .trap s) ∧ (¬p → hasNoEffect i s)
    takes (.syscall code) .syscall s ∧ takes (.brk code) .breakpoint s ∧
    completes (.syscall code) s (fun t => t.cp0.cause.extractLsb' 2 5 = 8 ∧
      (statusExl s = false → t.cp0.epc = if s.cpu.ds then s.cpu.pc - 4 else s.cpu.pc)) ∧
    completes (.brk code) s (fun t => t.cp0.cause.extractLsb' 2 5 = 9 ∧
      (statusExl s = false → t.cp0.epc = if s.cpu.ds then s.cpu.pc - 4 else s.cpu.pc)) ∧
    traps (.tge rs rt trapCode) (b.toInt ≤ a.toInt) ∧ traps (.tgeu rs rt trapCode) (b.toNat ≤ a.toNat) ∧
    traps (.tlt rs rt trapCode) (a.toInt < b.toInt) ∧ traps (.tltu rs rt trapCode) (a.toNat < b.toNat) ∧
    traps (.teq rs rt trapCode) (a = b) ∧ traps (.tne rs rt trapCode) (a ≠ b) ∧
    traps (.tgei rs imm) (imm.toInt ≤ a.toInt) ∧ traps (.tgeiu rs imm) (c.toNat ≤ a.toNat) ∧
    traps (.tlti rs imm) (a.toInt < imm.toInt) ∧ traps (.tltiu rs imm) (a.toNat < c.toNat) ∧
    traps (.teqi rs imm) (a = c) ∧ traps (.tnei rs imm) (a ≠ c)

/-- ERET (R540, R541, R824) outside a delay slot, when the mode it leaves is kernel mode (R870): pc is ErrorEPC or EPC,
ERL or EXL and LLbit are cleared, the MI pending bits are cleared as ERET_MI_CLEAR says, and nothing else changes. When
the mode would not be kernel mode it is refused. -/
def Obligations.EretReturnsToSavedAddress : Prop :=
  ∀ s : State, s.cpu.ds = false →
    ((statusKsu s = 0 ∨ (statusErl s = true ∧ statusExl s = true)) →
      completes .eret s fun t =>
        t.cpu.pc = (if statusErl s then s.cp0.errorEpc else s.cp0.epc) ∧ t.cpu.pending = none ∧ t.cpu.ds = false ∧
        (∀ k, statusBit t k = (statusBit s k && if statusErl s then k != 2 else k != 1)) ∧
        t.cpu.llbit = false ∧
        t.mi.intr = (match s.cfg.eretMiClear with
          | .enabled => s.mi.intr &&& ~~~s.mi.mask
          | .all => 0
          | .none => s.mi.intr) ∧
        backPipeline s { t with
          cp0.status := s.cp0.status, cpu.llbit := s.cpu.llbit, mi.intr := s.mi.intr } = s ∧
        sameMemory s t) ∧
    (¬(statusKsu s = 0 ∨ (statusErl s = true ∧ statusExl s = true)) → stops .eret .userOrSupervisorMode s)

/-- The refusals of control transfers, on both processors: a branch, a jump or ERET in a delay slot (R413, R639; the
coprocessor-1 branches need CU1 to get that far), and a link register that is also a source (R418, R639). A linking branch
with rs = 31, or JALR with rd = rs, in a delay slot is refused by both rules: that the delay slot is the reason recorded is
the model's choice (notes/assumptions/21.md). -/
def Obligations.ControlTransferRefusals : Prop :=
  ∀ (i : Instr) (imm : BitVec 16) (r : Reg) (s : State),
    (isControlTransfer i = true → s.cpu.ds = true → (isCp1 i = true → statusCu1 s = true) →
      stops i .controlTransferInDelaySlot s) ∧
    (isVuBranch i = true → s.vu.ds = true → stops i .vectorUnitBranchInDelaySlot s) ∧
    (s.cpu.ds = false →
      stops (.bltzal 31 imm) .linkRegisterIsSource s ∧ stops (.bgezal 31 imm) .linkRegisterIsSource s ∧
      stops (.bltzall 31 imm) .linkRegisterIsSource s ∧ stops (.bgezall 31 imm) .linkRegisterIsSource s ∧
      stops (.jalr r r) .linkRegisterIsSource s) ∧
    (s.vu.ds = false →
      stops (.rspBltzal 31 imm) .vectorUnitLinkRegisterIsSource s ∧
      stops (.rspBgezal 31 imm) .vectorUnitLinkRegisterIsSource s ∧
      stops (.rspJalr r r) .vectorUnitLinkRegisterIsSource s)

/-- The conditional branches (R411, R412, R414, R419 to R425, R428 to R433, R586 to R589) outside a delay slot: taken or
not, where to, and the slot nullified by a branch-likely that is not taken. -/
def Obligations.ConditionalBranches : Prop :=
  ∀ (rs rt : Reg) (imm : BitVec 16) (s : State), s.cpu.ds = false →
    let a := gpr s rs
    let b := gpr s rt
    let target := s.cpu.pc + 4 + BitVec.ofInt 64 (4 * imm.toInt)
    (∀ c : Bool, (c = true ↔ a = b) →
      branches (.beq rs rt imm) c target false none s ∧ branches (.bne rs rt imm) (!c) target false none s ∧
      branches (.beql rs rt imm) c target true none s ∧ branches (.bnel rs rt imm) (!c) target true none s) ∧
    (∀ c : Bool, (c = true ↔ a.toInt ≤ 0) →
      branches (.blez rs imm) c target false none s ∧ branches (.bgtz rs imm) (!c) target false none s ∧
      branches (.blezl rs imm) c target true none s ∧ branches (.bgtzl rs imm) (!c) target true none s) ∧
    (∀ c : Bool, (c = true ↔ a.toInt < 0) →
      branches (.bltz rs imm) c target false none s ∧ branches (.bgez rs imm) (!c) target false none s ∧
      branches (.bltzl rs imm) c target true none s ∧ branches (.bgezl rs imm) (!c) target true none s) ∧
    (statusCu1 s = true → ∀ c : Bool, c = s.fpu.fcr31.getLsbD 23 →
      branches (.bc1t imm) c target false none s ∧ branches (.bc1f imm) (!c) target false none s ∧
      branches (.bc1tl imm) c target true none s ∧ branches (.bc1fl imm) (!c) target true none s)

/-- The jumps and the linking branches (R416, R418, R426, R427, R434 to R439) outside a delay slot: the operands are read
before the link register is written, and the link is written whether or not the branch is taken. -/
def Obligations.JumpsAndLinks : Prop :=
  ∀ (rd rs : Reg) (imm : BitVec 16) (index : BitVec 26) (s : State), s.cpu.ds = false →
    let a := gpr s rs
    let target := s.cpu.pc + 4 + BitVec.ofInt 64 (4 * imm.toInt)
    let region := ((s.cpu.pc + 4) >>> 28 <<< 28) ||| (index.setWidth 64 <<< 2)
    branches (.j index) true region false none s ∧ branches (.jal index) true region false (some 31) s ∧
    branches (.jr rs) true a false none s ∧ (rd ≠ rs → branches (.jalr rd rs) true a false (some rd) s) ∧
    (rs ≠ 31 → ∀ c : Bool, (c = true ↔ a.toInt < 0) →
      branches (.bltzal rs imm) c target false (some 31) s ∧ branches (.bgezal rs imm) (!c) target false (some 31) s ∧
      branches (.bltzall rs imm) c target true (some 31) s ∧ branches (.bgezall rs imm) (!c) target true (some 31) s)

/-! ## Integer instructions (spec/40_integer_alu.md, spec/41_muldiv.md) -/

/-- The adds and subtracts of 32 bits (R300 to R307) and of 64 (R301, R308 to R313): the checked ones give the exact
result where it is a number of their width and otherwise IntegerOverflow with no register written; the unchecked ones wrap.
A 32-bit result is sign-extended. -/
def Obligations.AddsAndSubtracts : Prop :=
  ∀ (rd rs rt : Reg) (imm : BitVec 16) (s : State),
    let checks := fun (n : Nat) (i : Instr) (d : Reg) (r : Int) =>
      ((-(2 ^ (n - 1)) ≤ r ∧ r < 2 ^ (n - 1)) → writesGpr i d (BitVec.ofInt 64 r) s) ∧
      (¬(-(2 ^ (n - 1)) ≤ r ∧ r < 2 ^ (n - 1)) → takes i .integerOverflow s)
    let wraps := fun (n : Nat) (i : Instr) (d : Reg) (r : Int) => writesGpr i d ((BitVec.ofInt n r).signExtend 64) s
    let a := (lo32 (gpr s rs)).toInt
    let b := (lo32 (gpr s rt)).toInt
    let x := (gpr s rs).toInt
    let y := (gpr s rt).toInt
    (operands32 s [gpr s rs, gpr s rt] →
      checks 32 (.add rd rs rt) rd (a + b) ∧ checks 32 (.sub rd rs rt) rd (a - b) ∧
      wraps 32 (.addu rd rs rt) rd (a + b) ∧ wraps 32 (.subu rd rs rt) rd (a - b)) ∧
    (operands32 s [gpr s rs] →
      checks 32 (.addi rt rs imm) rt (a + imm.toInt) ∧ wraps 32 (.addiu rt rs imm) rt (a + imm.toInt)) ∧
    checks 64 (.dadd rd rs rt) rd (x + y) ∧ checks 64 (.dsub rd rs rt) rd (x - y) ∧
    checks 64 (.daddi rt rs imm) rt (x + imm.toInt) ∧ wraps 64 (.daddu rd rs rt) rd (x + y) ∧
    wraps 64 (.dsubu rd rs rt) rd (x - y) ∧ wraps 64 (.daddiu rt rs imm) rt (x + imm.toInt)

/-- Logic, LUI and the set-on-less-than instructions (R314 to R325), which no NONSEXT32 affects (R300). -/
def Obligations.LogicAndCompare : Prop :=
  ∀ (rd rs rt : Reg) (imm : BitVec 16) (s : State),
    let a := gpr s rs
    let b := gpr s rt
    let z : Dword := imm.setWidth 64
    let c : Dword := imm.signExtend 64
    writesGpr (.and rd rs rt) rd (a &&& b) s ∧ writesGpr (.or rd rs rt) rd (a ||| b) s ∧
    writesGpr (.xor rd rs rt) rd (a ^^^ b) s ∧ writesGpr (.nor rd rs rt) rd (~~~(a ||| b)) s ∧
    writesGpr (.andi rt rs imm) rt (a &&& z) s ∧ writesGpr (.ori rt rs imm) rt (a ||| z) s ∧
    writesGpr (.xori rt rs imm) rt (a ^^^ z) s ∧ writesGpr (.lui rt imm) rt (BitVec.ofInt 64 (65536 * imm.toInt)) s ∧
    writesGpr (.slt rd rs rt) rd (if a.toInt < b.toInt then 1 else 0) s ∧
    writesGpr (.sltu rd rs rt) rd (if a.toNat < b.toNat then 1 else 0) s ∧
    writesGpr (.slti rt rs imm) rt (if a.toInt < imm.toInt then 1 else 0) s ∧
    writesGpr (.sltiu rt rs imm) rt (if a.toNat < c.toNat then 1 else 0) s

/-- The shifts (R300, R326 to R340), as arithmetic: a left shift multiplies by a power of two and wraps, a right shift
divides by one and rounds down. -/
def Obligations.Shifts : Prop :=
  ∀ (rd rt rs : Reg) (sa : BitVec 5) (s : State),
    let b := lo32 (gpr s rt)
    let v := gpr s rt
    let n := sa.toNat
    let m := (gpr s rs).toNat % 32
    let k := (gpr s rs).toNat % 64
    (operands32 s [gpr s rt] →
      writesGpr (.sll rd rt sa) rd (sext32 (BitVec.ofNat 32 (b.toNat * 2 ^ n))) s ∧
      writesGpr (.srl rd rt sa) rd (sext32 (BitVec.ofNat 32 (b.toNat / 2 ^ n))) s ∧
      writesGpr (.sra rd rt sa) rd (sext32 (BitVec.ofInt 32 (b.toInt / 2 ^ n))) s) ∧
    (operands32 s [gpr s rt, gpr s rs] →
      writesGpr (.sllv rd rt rs) rd (sext32 (BitVec.ofNat 32 (b.toNat * 2 ^ m))) s ∧
      writesGpr (.srlv rd rt rs) rd (sext32 (BitVec.ofNat 32 (b.toNat / 2 ^ m))) s ∧
      writesGpr (.srav rd rt rs) rd (sext32 (BitVec.ofInt 32 (b.toInt / 2 ^ m))) s) ∧
    writesGpr (.dsll rd rt sa) rd (BitVec.ofNat 64 (v.toNat * 2 ^ n)) s ∧
    writesGpr (.dsrl rd rt sa) rd (BitVec.ofNat 64 (v.toNat / 2 ^ n)) s ∧
    writesGpr (.dsra rd rt sa) rd (BitVec.ofInt 64 (v.toInt / 2 ^ n)) s ∧
    writesGpr (.dsll32 rd rt sa) rd (BitVec.ofNat 64 (v.toNat * 2 ^ (n + 32))) s ∧
    writesGpr (.dsrl32 rd rt sa) rd (BitVec.ofNat 64 (v.toNat / 2 ^ (n + 32))) s ∧
    writesGpr (.dsra32 rd rt sa) rd (BitVec.ofInt 64 (v.toInt / 2 ^ (n + 32))) s ∧
    writesGpr (.dsllv rd rt rs) rd (BitVec.ofNat 64 (v.toNat * 2 ^ k)) s ∧
    writesGpr (.dsrlv rd rt rs) rd (BitVec.ofNat 64 (v.toNat / 2 ^ k)) s ∧
    writesGpr (.dsrav rd rt rs) rd (BitVec.ofInt 64 (v.toInt / 2 ^ k)) s

/-- With NONSEXT32 = `refuse`, a 32-bit operation refuses an operand that is no sign-extended 32-bit value, before any
effect (R300, R380). That a shift amount counts as such an operand is the model's reading (notes/assumptions/20.md). A DIV
or DIVU by zero is refused by R390 too where DIV0 is `refuse`: that the operand is the reason recorded there is the model's
choice (notes/assumptions/21.md). -/
def Obligations.NonSignExtendedOperandsAreRefused : Prop :=
  ∀ (rd rs rt : Reg) (imm : BitVec 16) (sa : BitVec 5) (s : State), s.cfg.nonSext32 = .refuse →
    let refuses := fun (i : Instr) => stops i .nonSignExtendedOperand s
    (gpr s rs ≠ sext32 (lo32 (gpr s rs)) →
      refuses (.addi rt rs imm) ∧ refuses (.addiu rt rs imm)) ∧
    (gpr s rt ≠ sext32 (lo32 (gpr s rt)) →
      refuses (.sll rd rt sa) ∧ refuses (.srl rd rt sa) ∧ refuses (.sra rd rt sa)) ∧
    ((gpr s rs ≠ sext32 (lo32 (gpr s rs)) ∨ gpr s rt ≠ sext32 (lo32 (gpr s rt))) →
      refuses (.add rd rs rt) ∧ refuses (.addu rd rs rt) ∧ refuses (.sub rd rs rt) ∧ refuses (.subu rd rs rt) ∧
      refuses (.sllv rd rt rs) ∧ refuses (.srlv rd rt rs) ∧ refuses (.srav rd rt rs) ∧
      refuses (.mult rs rt) ∧ refuses (.multu rs rt) ∧ refuses (.div rs rt) ∧ refuses (.divu rs rt))

/-- The multiplies (R380 to R384): HI and LO together are the exact product, each half sign-extended in the 32-bit forms;
and the HI and LO transfers (R391 to R394). -/
def Obligations.MultiplyAndTransfers : Prop :=
  ∀ (rs rt : Reg) (s : State),
    let a := gpr s rs
    let b := gpr s rt
    let gives := fun (i : Instr) (hi lo : Dword → Prop) =>
      completes i s fun t => hi t.cpu.hi ∧ lo t.cpu.lo ∧ frameHiLo s t ∧ pastInstruction s t
    (operands32 s [a, b] →
      (∃ hi lo : Word, hi.toInt * 2 ^ 32 + lo.toNat = (lo32 a).toInt * (lo32 b).toInt ∧
        gives (.mult rs rt) (· = sext32 hi) (· = sext32 lo)) ∧
      (∃ hi lo : Word, hi.toNat * 2 ^ 32 + lo.toNat = (lo32 a).toNat * (lo32 b).toNat ∧
        gives (.multu rs rt) (· = sext32 hi) (· = sext32 lo))) ∧
    (∃ hi lo : Dword, hi.toInt * 2 ^ 64 + lo.toNat = a.toInt * b.toInt ∧ gives (.dmult rs rt) (· = hi) (· = lo)) ∧
    (∃ hi lo : Dword, hi.toNat * 2 ^ 64 + lo.toNat = a.toNat * b.toNat ∧ gives (.dmultu rs rt) (· = hi) (· = lo)) ∧
    writesGpr (.mfhi rs) rs s.cpu.hi s ∧ writesGpr (.mflo rs) rs s.cpu.lo s ∧
    writesHiLo (.mthi rs) a s.cpu.lo s ∧ writesHiLo (.mtlo rs) s.cpu.hi a s

/-- The divides (R380, R385 to R390). By a nonzero divisor: LO is the quotient truncated toward zero, HI the remainder,
each wrapped to the width (the one quotient that does not fit is that of the most negative number by -1). By zero: the
VR4300's results with DIV0 at its default, the supplied results with a supplied DIV0, a refusal with `refuse`; never an
exception. What a supplied DIV0 is given of the dividend is the model's reading (notes/assumptions/19.md). -/
def Obligations.Divide : Prop :=
  ∀ (rs rt : Reg) (s : State),
    let a := gpr s rs
    let b := gpr s rt
    let w := lo32 a
    (operands32 s [a, b] → lo32 b ≠ 0 →
      writesHiLo (.div rs rt) (sext32 (BitVec.ofInt 32 ((lo32 a).toInt.tmod (lo32 b).toInt)))
        (sext32 (BitVec.ofInt 32 ((lo32 a).toInt.tdiv (lo32 b).toInt))) s ∧
      writesHiLo (.divu rs rt) (sext32 (BitVec.ofNat 32 ((lo32 a).toNat % (lo32 b).toNat)))
        (sext32 (BitVec.ofNat 32 ((lo32 a).toNat / (lo32 b).toNat))) s) ∧
    (b ≠ 0 →
      writesHiLo (.ddiv rs rt) (BitVec.ofInt 64 (a.toInt.tmod b.toInt)) (BitVec.ofInt 64 (a.toInt.tdiv b.toInt)) s ∧
      writesHiLo (.ddivu rs rt) (BitVec.ofNat 64 (a.toNat % b.toNat)) (BitVec.ofNat 64 (a.toNat / b.toNat)) s) ∧
    (operands32 s [a, b] → lo32 b = 0 →
      (s.cfg.div0 = .vr4300 →
        writesHiLo (.div rs rt) (sext32 w) (if w.toInt < 0 then 1 else -1) s ∧
        writesHiLo (.divu rs rt) (sext32 w) (-1) s) ∧
      (s.cfg.div0 = .supplied →
        writesHiLo (.div rs rt) (Config.div0Supplied .div (sext32 w)).2 (Config.div0Supplied .div (sext32 w)).1 s ∧
        writesHiLo (.divu rs rt) (Config.div0Supplied .divu (zext32 w)).2 (Config.div0Supplied .divu (zext32 w)).1 s) ∧
      (s.cfg.div0 = .refuse → stops (.div rs rt) .divisionByZero s ∧ stops (.divu rs rt) .divisionByZero s)) ∧
    (b = 0 →
      (s.cfg.div0 = .vr4300 →
        writesHiLo (.ddiv rs rt) a (if a.toInt < 0 then 1 else -1) s ∧ writesHiLo (.ddivu rs rt) a (-1) s) ∧
      (s.cfg.div0 = .supplied →
        writesHiLo (.ddiv rs rt) (Config.div0Supplied .ddiv a).2 (Config.div0Supplied .ddiv a).1 s ∧
        writesHiLo (.ddivu rs rt) (Config.div0Supplied .ddivu a).2 (Config.div0Supplied .ddivu a).1 s) ∧
      (s.cfg.div0 = .refuse → stops (.ddiv rs rt) .divisionByZero s ∧ stops (.ddivu rs rt) .divisionByZero s))

/-! ## The bus, loads and stores (spec/20_memory.md, spec/43_load_store.md) -/

/-- Address translation (R140, R141, R150, R151): the 32-bit segments by their upper bits, kuseg direct with ERL set, each
mapped segment and 64-bit addressing refused by name. -/
def Obligations.TranslationOfSegments : Prop :=
  ∀ (s : State) (k : Access) (va : Dword),
    (statusKx s = true → translateVa s k va = .refusal .kernel64Addressing) ∧
    (statusKx s = false →
      ((∀ a : Word, va ≠ sext32 a) →
        translateVa s k va = .exception (if k = .store then .addressErrorStore va else .addressErrorLoad va)) ∧
      (∀ a : Word, va = sext32 a →
        (a.toNat < 0x80000000 →
          translateVa s k va = if statusErl s then .physical a else .refusal (.tlbMappedSegment .kuseg)) ∧
        (0x80000000 ≤ a.toNat → a.toNat < 0xC0000000 → translateVa s k va = .physical (a &&& 0x1FFFFFFF)) ∧
        (0xC0000000 ≤ a.toNat → a.toNat < 0xE0000000 → translateVa s k va = .refusal (.tlbMappedSegment .ksseg)) ∧
        (0xE0000000 ≤ a.toNat → translateVa s k va = .refusal (.tlbMappedSegment .kseg3))))

/-- The bus (R160 to R163, R165, R170, R171): a memory holds big-endian bytes, and reads back what was written; ROM and the
unmapped holes ignore writes; ROM reads its image, 0 past its end, and the holes read 0. A register is written whole, reads
whole or in part, and is reached twice, the high word first, by an access of 8 bytes; neither changes the CPU or a memory,
nor, SP_PC's writes apart (R175), the VectorUnit. -/
def Obligations.BusReadsAndWrites : Prop :=
  ∀ (s : State) (pa : Word) (n : Nat) (v : Dword), n ≤ 8 →
    let offset := pa.toNat - 0x10000000
    (region s.cfg.rdramSize pa.toNat = .memory →
      (memRead s pa n).2 = s ∧ (∀ j < n, byteAt n (memRead s pa n).1 j = Memory.byte s.mem (pa.toNat + j)) ∧
      ∃ t, memWrite s pa n v = .ok t ∧ { t with mem := s.mem } = s ∧
        (memRead t pa n).1 = v &&& (BitVec.ofNat 64 (2 ^ (8 * n) - 1)) ∧
        ∀ a, ¬within pa.toNat n a → Memory.byte t.mem a = Memory.byte s.mem a) ∧
    ((region s.cfg.rdramSize pa.toNat = .rom ∨ region s.cfg.rdramSize pa.toNat = .zeroRom ∨
        region s.cfg.rdramSize pa.toNat = .unmapped) →
      memWrite s pa n v = .ok s ∧ (memRead s pa n).2 = s) ∧
    (region s.cfg.rdramSize pa.toNat = .rom →
      ∀ j < n, byteAt n (memRead s pa n).1 j =
        if offset + j < s.cfg.romSize then Store.get 0 s.cfg.rom (offset + j) else 0) ∧
    ((region s.cfg.rdramSize pa.toNat = .zeroRom ∨ region s.cfg.rdramSize pa.toNat = .unmapped) →
      (memRead s pa n).1 = 0) ∧
    (∀ g offset, region s.cfg.rdramSize pa.toNat = .registers g offset →
      let w := regValue s g (offset / 4 * 4)
      (n = 4 → memWrite s pa n v = .ok (regWrite s g offset (lo32 v))) ∧
      (n ≤ 2 → memWrite s pa n v = .error .subWordRegisterWrite) ∧
      (n = 8 → ∃ t u, memWrite s pa 4 (v >>> 32) = .ok t ∧ memWrite t (pa + 4) 4 (zext32 (lo32 v)) = .ok u ∧
        memWrite s pa n v = .ok u) ∧
      (n = 4 → pa.toNat % 4 = 0 → (memRead s pa n).1 = zext32 w) ∧
      (n = 2 → pa.toNat % 2 = 0 →
        (memRead s pa n).1 = if pa.toNat % 4 = 0 then zext32 (w >>> 16) else zext32 (w &&& 0xFFFF)) ∧
      (n = 1 → (memRead s pa n).1 = (byteAt 4 (zext32 w) (pa.toNat % 4)).setWidth 64) ∧
      (n = 8 → memRead s pa n =
        (lo32 (memRead s pa 4).1 ++ lo32 (memRead (memRead s pa 4).2 (pa + 4) 4).1,
          (memRead (memRead s pa 4).2 (pa + 4) 4).2)) ∧
      frameDevice s (memRead s pa n).2 ∧ (memRead s pa n).2.vu = s.vu ∧
      frameDevice s (regWrite s g offset (lo32 v)) ∧ (g ≠ .spPc → (regWrite s g offset (lo32 v)).vu = s.vu))

/-- The aligned loads (R460, R461, R463 to R469) at an address that translates: the value at the physical address,
extended as each says. -/
def Obligations.AlignedLoads : Prop :=
  ∀ (rt base : Reg) (offset : BitVec 16) (pa : Word) (s : State),
    let va := gpr s base + offset.signExtend 64
    translateVa s .load va = .physical pa →
    let v := fun n => (memRead s pa n).1
    let u := fun n => (memRead s pa n).2
    writesGprFrom (u 1) (.lb rt offset base) rt (((v 1).setWidth 8).signExtend 64) s ∧
    writesGprFrom (u 1) (.lbu rt offset base) rt (((v 1).setWidth 8).setWidth 64) s ∧
    (va.toNat % 2 = 0 →
      writesGprFrom (u 2) (.lh rt offset base) rt (((v 2).setWidth 16).signExtend 64) s ∧
      writesGprFrom (u 2) (.lhu rt offset base) rt (((v 2).setWidth 16).setWidth 64) s) ∧
    (va.toNat % 4 = 0 →
      writesGprFrom (u 4) (.lw rt offset base) rt (((v 4).setWidth 32).signExtend 64) s ∧
      writesGprFrom (u 4) (.lwu rt offset base) rt (((v 4).setWidth 32).setWidth 64) s) ∧
    (va.toNat % 8 = 0 → writesGprFrom (u 8) (.ld rt offset base) rt (v 8) s)

/-- The aligned stores (R460, R462, R470 to R473) at an address that translates, in every region of the bus. -/
def Obligations.AlignedStores : Prop :=
  ∀ (rt base : Reg) (offset : BitVec 16) (pa : Word) (s : State),
    let va := gpr s base + offset.signExtend 64
    translateVa s .store va = .physical pa →
    storesTo (.sb rt offset base) 1 pa (gpr s rt) s ∧
    (va.toNat % 2 = 0 → storesTo (.sh rt offset base) 2 pa (gpr s rt) s) ∧
    (va.toNat % 4 = 0 → storesTo (.sw rt offset base) 4 pa (gpr s rt) s) ∧
    (va.toNat % 8 = 0 → storesTo (.sd rt offset base) 8 pa (gpr s rt) s)

/-- The checks of every CPU load and store, in their order (R140, R141, R151, R460 to R462, R479, R582 to R585): alignment,
then translation; an address error does nothing else. -/
def Obligations.AddressErrors : Prop :=
  ∀ (i : Instr) (n : Nat) (k : Access) (base : Reg) (offset : BitVec 16) (s : State),
    dataAccess i = some (n, k, base, offset) → (isCp1 i = true → statusCu1 s = true) →
    (∀ ft, i = .ldc1 ft offset base ∨ i = .sdc1 ft offset base → fprUsable s .d ft) →
    let va := gpr s base + offset.signExtend 64
    let e := if k = .store then Exception.addressErrorStore va else .addressErrorLoad va
    (va.toNat % n ≠ 0 → takes i e s) ∧
    (va.toNat % n = 0 → statusKx s = false → va ≠ sext32 (lo32 va) → takes i e s) ∧
    (va.toNat % n = 0 → ∀ why, translateVa s k va = .refusal why → stops i why s)

/-- The unaligned-access loads (R479 to R483): bytes of the naturally aligned word or doubleword merged with the old
register, byte by byte from the most significant. -/
def Obligations.UnalignedLoads : Prop :=
  ∀ (rt base : Reg) (offset : BitVec 16) (pa : Word) (s : State),
    translateVa s .load (gpr s base + offset.signExtend 64) = .physical pa →
    let old := gpr s rt
    let word := memRead s (BitVec.ofNat 32 (pa.toNat / 4 * 4)) 4
    let dword := memRead s (BitVec.ofNat 32 (pa.toNat / 8 * 8)) 8
    let k := pa.toNat % 4
    let d := pa.toNat % 8
    (∃ r : Word,
      (∀ j < 4, byteAt 4 (zext32 r) j = if j + k < 4 then byteAt 4 word.1 (j + k) else byteAt 4 old j) ∧
      writesGprFrom word.2 (.lwl rt offset base) rt (sext32 r) s) ∧
    (∃ r : Word,
      (∀ j < 4, byteAt 4 (zext32 r) j = if 3 - k ≤ j then byteAt 4 word.1 (j - (3 - k)) else byteAt 4 old j) ∧
      writesGprFrom word.2 (.lwr rt offset base) rt (sext32 r) s) ∧
    (∃ r : Dword,
      (∀ j < 8, byteAt 8 r j = if j + d < 8 then byteAt 8 dword.1 (j + d) else byteAt 8 old j) ∧
      writesGprFrom dword.2 (.ldl rt offset base) rt r s) ∧
    (∃ r : Dword,
      (∀ j < 8, byteAt 8 r j = if 7 - d ≤ j then byteAt 8 dword.1 (j - (7 - d)) else byteAt 8 old j) ∧
      writesGprFrom dword.2 (.ldr rt offset base) rt r s)

/-- The unaligned-access stores (R165, R479, R484 to R487): the bytes of the aligned unit that each writes, from the
register's most significant byte down (left) or its least significant byte up (right); every other byte of memory is
unchanged. ROM and the holes ignore them; a register group takes the whole unit and refuses a part of it. -/
def Obligations.UnalignedStores : Prop :=
  ∀ (rt base : Reg) (offset : BitVec 16) (pa : Word) (s : State),
    translateVa s .store (gpr s base + offset.signExtend 64) = .physical pa →
    let v := gpr s rt
    let storesBytes := fun (i : Instr) (n unit lo hi : Nat) (value : Nat → Byte) =>
      match region s.cfg.rdramSize unit with
      | .memory => completes i s fun t =>
          (∀ j, lo ≤ j → j < hi → Memory.byte t.mem (unit + j) = value j) ∧
          frameStore (within (unit + lo) (hi - lo)) s t ∧ pastInstruction s t
      | .rom | .zeroRom | .unmapped => hasNoEffect i s
      | .registers _ _ =>
        (hi - lo = n → ∃ u, memWrite s (BitVec.ofNat 32 unit) n v = .ok u ∧ exec i s = .next (retireSeq u)) ∧
        (hi - lo ≠ n → stops i .partialRegisterWrite s)
    let k := pa.toNat % 4
    let d := pa.toNat % 8
    storesBytes (.swl rt offset base) 4 (pa.toNat / 4 * 4) k 4 (fun j => byteAt 4 v (j - k)) ∧
    storesBytes (.swr rt offset base) 4 (pa.toNat / 4 * 4) 0 (k + 1) (fun j => byteAt 4 v (j + (3 - k))) ∧
    storesBytes (.sdl rt offset base) 8 (pa.toNat / 8 * 8) d 8 (fun j => byteAt 8 v (j - d)) ∧
    storesBytes (.sdr rt offset base) 8 (pa.toNat / 8 * 8) 0 (d + 1) (fun j => byteAt 8 v (j + (7 - d)))

/-- Load-linked and store-conditional (R490 to R493): the link is set by the loads, tested and not changed by the stores,
and no store happens without it. -/
def Obligations.LoadLinkedStoreConditional : Prop :=
  ∀ (rt base : Reg) (offset : BitVec 16) (pa : Word) (s : State),
    let va := gpr s base + offset.signExtend 64
    let links := fun (i : Instr) (n : Nat) (v : Dword) =>
      let u := (memRead s pa n).2
      completes i s fun t => gpr t rt = (if rt = 0 then 0 else v) ∧ (∀ r, r ≠ rt → gpr t r = gpr u r) ∧
        t.cpu.llbit = true ∧ t.cp0.llAddr = pa >>> 4 ∧
        backPipeline u { t with
          cpu.gpr := u.cpu.gpr, cpu.llbit := u.cpu.llbit, cp0.llAddr := u.cp0.llAddr } = u ∧
        sameMemory u t ∧ pastInstruction s t
    let stores := fun (i : Instr) (n : Nat) =>
      (s.cpu.llbit = false → writesGpr i rt 0 s) ∧
      (s.cpu.llbit = true →
        (∀ u, memWrite s pa n (gpr s rt) = .ok u → writesGprFrom u i rt 1 s) ∧
        (region s.cfg.rdramSize pa.toNat = .memory →
          completes i s fun t => gpr t rt = (if rt = 0 then 0 else 1) ∧ t.cpu.llbit = true ∧
            (∀ j < n, Memory.byte t.mem (pa.toNat + j) = byteAt n (gpr s rt) j) ∧
            sameMemoryBut (within pa.toNat n) s t))
    (translateVa s .load va = .physical pa →
      (va.toNat % 4 = 0 → links (.ll rt offset base) 4 (((memRead s pa 4).1.setWidth 32).signExtend 64)) ∧
      (va.toNat % 8 = 0 → links (.lld rt offset base) 8 (memRead s pa 8).1)) ∧
    (translateVa s .store va = .physical pa →
      (va.toNat % 4 = 0 → stores (.sc rt offset base) 4) ∧ (va.toNat % 8 = 0 → stores (.scd rt offset base) 8))

/-! ## CP0 (spec/44_system_cp0.md) -/

/-- MFC0 and DMFC0 (R56, R57, R534 to R536): every modelled register, with IP2 live in Cause, PRId's upper half 0 and
Config's BE 1; a register that is not modelled reads
a free value (notes/assumptions/5.md); DMFC0 of a 32-bit register is refused. -/
def Obligations.Cp0Reads : Prop :=
  ∀ (rt rd : Reg) (s : State),
    let mf := fun (n : Reg) (v : Dword) => writesGpr (.mfc0 rt n) rt (sext32 (lo32 v)) s
    let dmf := fun (n : Reg) (v : Dword) => writesGpr (.dmfc0 rt n) rt v s
    let drawn : State := { s with draws := s.draws + 1 }
    mf 8 s.cp0.badVAddr ∧ mf 9 (zext32 s.cp0.count) ∧ mf 11 (zext32 s.cp0.compare) ∧ mf 12 (zext32 s.cp0.status) ∧
    mf 13 (zext32 (setBit s.cp0.cause 10 (s.mi.intr &&& s.mi.mask != 0))) ∧ mf 14 s.cp0.epc ∧
    mf 15 (zext32 (s.cfg.pridValue &&& 0xFFFF)) ∧ mf 16 (zext32 (s.cp0.config ||| 0x8000)) ∧ mf 17 (zext32 s.cp0.llAddr) ∧
    mf 18 (zext32 s.cp0.watchLo) ∧ mf 19 (zext32 s.cp0.watchHi) ∧ mf 30 s.cp0.errorEpc ∧
    ((rd.toNat ≤ 7 ∨ rd = 10 ∨ (20 ≤ rd.toNat ∧ rd.toNat ≤ 29) ∨ rd = 31) →
      writesGprFrom drawn (.mfc0 rt rd) rt (sext32 (lo32 (Config.cp0Draw rd s.draws))) s) ∧
    dmf 8 s.cp0.badVAddr ∧ dmf 14 s.cp0.epc ∧ dmf 30 s.cp0.errorEpc ∧
    ((rd = 2 ∨ rd = 3 ∨ rd = 4 ∨ rd = 10 ∨ rd = 20) →
      writesGprFrom drawn (.dmfc0 rt rd) rt (Config.cp0Draw rd s.draws) s) ∧
    ((rd ≠ 2 ∧ rd ≠ 3 ∧ rd ≠ 4 ∧ rd ≠ 8 ∧ rd ≠ 10 ∧ rd ≠ 14 ∧ rd ≠ 20 ∧ rd ≠ 30) →
      stops (.dmfc0 rt rd) .dmfc0Of32Bit s)

/-- MTC0 and DMTC0 (R537 to R539, R59, R870): the effect of writing every register; a Status that leaves kernel mode, a
watch bit and DMTC0 to a 32-bit register are refused. -/
def Obligations.Cp0Writes : Prop :=
  ∀ (rt rd : Reg) (s : State),
    let v := gpr s rt
    let w := lo32 v
    let mt := fun (n : Reg) (u : State) => movesTo (.mtc0 rt n) u s
    let dmt := fun (n : Reg) (u : State) => movesTo (.dmtc0 rt n) u s
    mt 9 { s with cp0.count := w } ∧
    mt 11 { s with cp0.compare := w, cp0.cause := s.cp0.cause &&& 0xFFFF7FFF } ∧
    ((w.extractLsb' 3 2 = 0 ∨ w.getLsbD 1 = true ∨ w.getLsbD 2 = true) →
      mt 12 { s with cp0.status := w &&& 0xFF57FFFF }) ∧
    (¬(w.extractLsb' 3 2 = 0 ∨ w.getLsbD 1 = true ∨ w.getLsbD 2 = true) →
      stops (.mtc0 rt 12) .userOrSupervisorMode s) ∧
    mt 13 { s with cp0.cause := (s.cp0.cause &&& 0xFFFFFCFF) ||| (w &&& 0x00000300) } ∧
    mt 14 { s with cp0.epc := sext32 w } ∧
    mt 16 { s with cp0.config := (w &&& 0x0000000F) ||| (s.cp0.config &&& 0xFFFFFFF0) } ∧
    mt 17 { s with cp0.llAddr := w } ∧
    (w.extractLsb' 0 2 = 0 → mt 18 { s with cp0.watchLo := w &&& 0xFFFFFFFB }) ∧
    (w.extractLsb' 0 2 ≠ 0 → stops (.mtc0 rt 18) .watchEnabled s) ∧
    mt 19 { s with cp0.watchHi := w &&& 0x0000000F } ∧
    mt 30 { s with cp0.errorEpc := sext32 w } ∧
    ((rd.toNat ≤ 8 ∨ rd = 10 ∨ rd = 15 ∨ (20 ≤ rd.toNat ∧ rd.toNat ≤ 29) ∨ rd = 31) → mt rd s) ∧
    dmt 14 { s with cp0.epc := v } ∧ dmt 30 { s with cp0.errorEpc := v } ∧
    ((rd = 2 ∨ rd = 3 ∨ rd = 4 ∨ rd = 8 ∨ rd = 10 ∨ rd = 20) → dmt rd s) ∧
    ((rd ≠ 2 ∧ rd ≠ 3 ∧ rd ≠ 4 ∧ rd ≠ 8 ∧ rd ≠ 10 ∧ rd ≠ 14 ∧ rd ≠ 20 ∧ rd ≠ 30) →
      stops (.dmtc0 rt rd) .dmtc0Of32Bit s)

/-- SYNC and CACHE change only pc (R550, R551): SYNC whatever its bits 25:6, CACHE for every operation and every address,
with no exception. -/
def Obligations.SyncAndCacheHaveNoEffect : Prop :=
  ∀ (bits : BitVec 20) (op : BitVec 5) (offset : BitVec 16) (base : Reg) (cu1 cu2 cu3 : Bool) (s : State),
    decodeCpu cu1 cu2 cu3 (0#6 ++ bits ++ 0x0F#6) = .ok .sync ∧
    decodeCpu cu1 cu2 cu3 (47#6 ++ base ++ op ++ offset) = .ok (.cache op offset base) ∧
    hasNoEffect .sync s ∧ hasNoEffect (.cache op offset base) s

/-! ## The FPU (spec/45_fpu.md) -/

/-- With CU1 set, the moves between the register files (R570, R571, R576 to R581): an FCR other than 0 and 31 reads a free
value (notes/assumptions/5.md), and CTC1 keeps its write even when it raises; and the coprocessor-1 loads and stores (R571,
R582 to R585) at an aligned address that translates. -/
def Obligations.FpuMovesLoadsAndStores : Prop :=
  ∀ (rt fs base : Reg) (offset : BitVec 16) (pa : Word) (s : State), statusCu1 s = true →
    let v := gpr s rt
    let f := lo32 v &&& 0x0183FFFF
    let raises := f.getLsbD 17 = true ∨ (f.extractLsb' 12 5 &&& f.extractLsb' 7 5) ≠ 0
    let va := gpr s base + offset.signExtend 64
    writesGpr (.cfc1 rt 0) rt 0xA00 s ∧ writesGpr (.cfc1 rt 31) rt (sext32 s.fpu.fcr31) s ∧
    (fs ≠ 0 → fs ≠ 31 →
      writesGprFrom { s with draws := s.draws + 1 } (.cfc1 rt fs) rt (sext32 (Config.fcrDraw fs s.draws)) s) ∧
    (¬raises → movesTo (.ctc1 rt 31) { s with fpu.fcr31 := f } s) ∧
    (raises → takesFrom { s with fpu.fcr31 := f } (.ctc1 rt 31) .floatingPoint s) ∧
    (fs ≠ 31 → hasNoEffect (.ctc1 rt fs) s) ∧
    writesGpr (.mfc1 rt fs) rt (sext32 (fprLow s fs)) s ∧
    completes (.mtc1 rt fs) s (fun t => wroteFpr s s t .w fs v ∧ t.fpu.fcr31 = s.fpu.fcr31) ∧
    (fprUsable s .d fs →
      writesGpr (.dmfc1 rt fs) rt (fpr s fs) s ∧
      completes (.dmtc1 rt fs) s (fun t => wroteFpr s s t .d fs v ∧ t.fpu.fcr31 = s.fpu.fcr31)) ∧
    (¬fprUsable s .d fs →
      stops (.dmfc1 rt fs) .oddFprAsDword s ∧ stops (.dmtc1 rt fs) .oddFprAsDword s ∧
      stops (.ldc1 fs offset base) .oddFprAsDword s ∧ stops (.sdc1 fs offset base) .oddFprAsDword s) ∧
    (translateVa s .load va = .physical pa →
      (va.toNat % 4 = 0 →
        completes (.lwc1 fs offset base) s fun t =>
          wroteFpr s (memRead s pa 4).2 t .w fs (memRead s pa 4).1 ∧ t.fpu.fcr31 = s.fpu.fcr31) ∧
      (va.toNat % 8 = 0 → fprUsable s .d fs →
        completes (.ldc1 fs offset base) s fun t =>
          wroteFpr s (memRead s pa 8).2 t .d fs (memRead s pa 8).1 ∧ t.fpu.fcr31 = s.fpu.fcr31)) ∧
    (translateVa s .store va = .physical pa →
      (va.toNat % 4 = 0 → storesTo (.swc1 fs offset base) 4 pa (zext32 (fprLow s fs)) s) ∧
      (va.toNat % 8 = 0 → fprUsable s .d fs → storesTo (.sdc1 fs offset base) 8 pa (fpr s fs) s))

/-- The arithmetic of formats S and D (R571 to R575, R590 to R595, R597) and the conversions (R598 to R609) with CU1 set:
the result and flags of FPOP, or FloatingPoint as R574 has it. The default FPOP is FPOP_IEEE, given FCR31.FS (what it
delivers is FpopIsIeee and FpopRoundsCorrectly). A conversion's rounding mode is its mnemonic's, or FCR31.RM for CVT. What
the default FPU_UNIMPL declines is R575's list and nothing else: that abs and neg are declined for a denormal result, that
FPOP_IEEE's result is the one judged, whichever FPOP is meant, and that a result which rounds to 0 is no denormal are the
model's reading (notes/assumptions/18.md, notes/assumptions/35.md, notes/assumptions/39.md). -/
def Obligations.FpuArithmeticAndConversions : Prop :=
  ∀ (fd fs ft : Reg) (s : State), statusCu1 s = true →
    let rm := s.fpu.fcr31.extractLsb' 0 2
    let two := fun (i : Instr) (op : FpOp) (f : Fmt) =>
      (fprUsable s f fd ∧ fprUsable s f fs ∧ fprUsable s f ft →
        fpEnds i op f f rm fd (fprOperand s f fs) (fprOperand s f ft) s) ∧
      (¬(fprUsable s f fd ∧ fprUsable s f fs ∧ fprUsable s f ft) → stops i .oddFprAsDword s)
    let one := fun (i : Instr) (op : FpOp) (f : Fmt) =>
      (fprUsable s f fd ∧ fprUsable s f fs → fpEnds i op f f rm fd (fprOperand s f fs) 0 s) ∧
      (¬(fprUsable s f fd ∧ fprUsable s f fs) → stops i .oddFprAsDword s)
    let converts := fun (i : Instr) (fin fout : Fmt) (mode : BitVec 2) =>
      (fprUsable s fout fd ∧ fprUsable s fin fs → fpEnds i .cvt fin fout mode fd (fprOperand s fin fs) 0 s) ∧
      (¬(fprUsable s fout fd ∧ fprUsable s fin fs) → stops i .oddFprAsDword s)
    two (.addS fd fs ft) .add .s ∧ two (.subS fd fs ft) .sub .s ∧ two (.mulS fd fs ft) .mul .s ∧
    two (.divS fd fs ft) .div .s ∧ one (.sqrtS fd fs) .sqrt .s ∧ one (.absS fd fs) .abs .s ∧
    one (.negS fd fs) .neg .s ∧ two (.addD fd fs ft) .add .d ∧ two (.subD fd fs ft) .sub .d ∧
    two (.mulD fd fs ft) .mul .d ∧ two (.divD fd fs ft) .div .d ∧ one (.sqrtD fd fs) .sqrt .d ∧
    one (.absD fd fs) .abs .d ∧ one (.negD fd fs) .neg .d ∧
    converts (.roundLS fd fs) .s .l 0 ∧ converts (.roundLD fd fs) .d .l 0 ∧ converts (.roundWS fd fs) .s .w 0 ∧
    converts (.roundWD fd fs) .d .w 0 ∧ converts (.truncLS fd fs) .s .l 1 ∧ converts (.truncLD fd fs) .d .l 1 ∧
    converts (.truncWS fd fs) .s .w 1 ∧ converts (.truncWD fd fs) .d .w 1 ∧ converts (.ceilLS fd fs) .s .l 2 ∧
    converts (.ceilLD fd fs) .d .l 2 ∧ converts (.ceilWS fd fs) .s .w 2 ∧ converts (.ceilWD fd fs) .d .w 2 ∧
    converts (.floorLS fd fs) .s .l 3 ∧ converts (.floorLD fd fs) .d .l 3 ∧ converts (.floorWS fd fs) .s .w 3 ∧
    converts (.floorWD fd fs) .d .w 3 ∧ converts (.cvtSD fd fs) .d .s rm ∧ converts (.cvtSW fd fs) .w .s rm ∧
    converts (.cvtSL fd fs) .l .s rm ∧ converts (.cvtDS fd fs) .s .d rm ∧ converts (.cvtDW fd fs) .w .d rm ∧
    converts (.cvtDL fd fs) .l .d rm ∧ converts (.cvtWS fd fs) .s .w rm ∧ converts (.cvtWD fd fs) .d .w rm ∧
    converts (.cvtLS fd fs) .s .l rm ∧ converts (.cvtLD fd fs) .d .l rm ∧
    (s.cfg.fpop = .ieee → ∀ (op : FpOp) (fin fout : Fmt) (mode : BitVec 2) (a b : Dword),
      fpop s op fin fout mode a b = some (fpopIeee op fin fout mode (s.fpu.fcr31.getLsbD 24) a b)) ∧
    (s.cfg.fpuUnimpl = .vr4300 → ∀ (op : FpOp) (fin fout : Fmt) (mode : BitVec 2) (a b : Dword),
      let isFp := fun f => f = Fmt.s ∨ f = Fmt.d
      let denormal := fun f v => isFp f ∧ expField f v = 0 ∧ fracField f v ≠ 0
      let width := if fout = .w then 32 else 64
      fpuUnimpl s op fin fout mode a b = true ↔
        (op ∈ [.add, .sub, .mul, .div, .sqrt, .cvt] ∧ denormal fin a) ∨
        (op ∈ [.add, .sub, .mul, .div] ∧ denormal fin b) ∨
        (op ≠ .compare ∧ s.fpu.fcr31.getLsbD 24 = false ∧ denormal fout (fpopIeee op fin fout mode false a b).1) ∨
        (op = .cvt ∧ isFp fin ∧ ¬isFp fout ∧
          (expField fin a = expTop fin ∨
            ∀ n : ℕ, roundsToMultiple mode (signField fin a) (fpMagnitude fin a) 1 n →
              ¬(if signField fin a then n ≤ 2 ^ (width - 1) else n < 2 ^ (width - 1)))))

/-- The compares and MOV (R571 to R574, R596, R610) with CU1 set: FCR31.C is the condition's, from the relation that FPOP
finds, by default FPOP_IEEE's (FpopIsIeee); MOV touches no flag. -/
def Obligations.FpuComparesAndMov : Prop :=
  ∀ (fd fs ft : Reg) (s : State), statusCu1 s = true →
    let compares := fun (i : Instr) (f : Fmt) (cond : BitVec 4) =>
      (fprUsable s f fs ∧ fprUsable s f ft →
        fpCompareEnds i f cond (fprOperand s f fs) (fprOperand s f ft) s) ∧
      (¬(fprUsable s f fs ∧ fprUsable s f ft) → stops i .oddFprAsDword s)
    let moves := fun (i : Instr) (f : Fmt) =>
      (fprUsable s f fd ∧ fprUsable s f fs →
        completes i s fun t => wroteFpr s s t f fd (fprOperand s f fs) ∧ t.fpu.fcr31 = s.fpu.fcr31) ∧
      (¬(fprUsable s f fd ∧ fprUsable s f fs) → stops i .oddFprAsDword s)
    compares (.cFS fs ft) .s 0 ∧ compares (.cUnS fs ft) .s 1 ∧ compares (.cEqS fs ft) .s 2 ∧
    compares (.cUeqS fs ft) .s 3 ∧ compares (.cOltS fs ft) .s 4 ∧ compares (.cUltS fs ft) .s 5 ∧
    compares (.cOleS fs ft) .s 6 ∧ compares (.cUleS fs ft) .s 7 ∧ compares (.cSfS fs ft) .s 8 ∧
    compares (.cNgleS fs ft) .s 9 ∧ compares (.cSeqS fs ft) .s 10 ∧ compares (.cNglS fs ft) .s 11 ∧
    compares (.cLtS fs ft) .s 12 ∧ compares (.cNgeS fs ft) .s 13 ∧ compares (.cLeS fs ft) .s 14 ∧
    compares (.cNgtS fs ft) .s 15 ∧ compares (.cFD fs ft) .d 0 ∧ compares (.cUnD fs ft) .d 1 ∧
    compares (.cEqD fs ft) .d 2 ∧ compares (.cUeqD fs ft) .d 3 ∧ compares (.cOltD fs ft) .d 4 ∧
    compares (.cUltD fs ft) .d 5 ∧ compares (.cOleD fs ft) .d 6 ∧ compares (.cUleD fs ft) .d 7 ∧
    compares (.cSfD fs ft) .d 8 ∧ compares (.cNgleD fs ft) .d 9 ∧ compares (.cSeqD fs ft) .d 10 ∧
    compares (.cNglD fs ft) .d 11 ∧ compares (.cLtD fs ft) .d 12 ∧ compares (.cNgeD fs ft) .d 13 ∧
    compares (.cLeD fs ft) .d 14 ∧ compares (.cNgtD fs ft) .d 15 ∧ moves (.movS fd fs) .s ∧ moves (.movD fd fs) .d ∧
    (s.cfg.fpop = .ieee → ∀ (f : Fmt) (cond : BitVec 4) (a b : Dword),
      fpCompareOp s f cond a b = some (fpCompareIeee f cond a b))

/-- FPOP_IEEE (R573), the default FPOP, with FS clear, but for the results that are rounded (FpopRoundsCorrectly): what abs,
neg, the invalid operations, a division by zero, the operations on infinities and NaNs and the compare deliver (the numbers
in their order, between the two infinities); and that rounding to a multiple of a unit is correct in each mode. R573 gives
what an invalid operation delivers and does not list the invalid operations: that an operation on a signalling NaN, infinity
minus infinity, 0/0, infinity/infinity, 0 times infinity and the root of a negative number are invalid, and what the other
operations on infinities deliver, is the model's (PRESUMED, notes/assumptions/17.md), that abs and neg of a signalling NaN
are too (PRESUMED, notes/assumptions/34.md), and which NaNs signal its reading of R573 (notes/assumptions/38.md). Which
quiet NaN an operation on quiet NaNs delivers is a free value (notes/assumptions/10.md): only that it is one, with no flag,
is stated. -/
def Obligations.FpopIsIeee : Prop :=
  ∀ (f : Fmt) (rm : BitVec 2) (cond : BitVec 4) (a b : Dword), f = .s ∨ f = .d →
    let isNan := fun v => expField f v = expTop f ∧ fracField f v ≠ 0
    let signals := fun v => expField f v = expTop f ∧ 2 ^ (fracBits f - 1) ≤ fracField f v
    let infinite := fun v => expField f v = expTop f ∧ fracField f v = 0
    let zero := fun v => expField f v = 0 ∧ fracField f v = 0
    let finite := fun v => expField f v < expTop f
    let result := fun (op : FpOp) => fpopIeee op f f rm false a b
    let default : Dword := if f = .s then 0x7FBFFFFF else 0x7FF7FFFFFFFFFFFF
    let sign := fun (neg : Bool) => if neg then (1 : Dword) <<< signPos f else 0
    let infinity := fun (neg : Bool) => (if f = .s then 0x7F800000 else 0x7FF0000000000000) ||| sign neg
    let quiet := fun (r : Dword × BitVec 5) => isNan r.1 ∧ ¬signals r.1 ∧ r.2 = 0
    let an := a.getLsbD (signPos f)
    let bn := b.getLsbD (signPos f)
    (¬isNan a →
      (∃ v, result .abs = (v, 0) ∧ v.getLsbD (signPos f) = false ∧ ∀ k < signPos f, v.getLsbD k = a.getLsbD k) ∧
      (∃ v, result .neg = (v, 0) ∧ v.getLsbD (signPos f) = !a.getLsbD (signPos f) ∧
        ∀ k < signPos f, v.getLsbD k = a.getLsbD k)) ∧
    (finite a → ¬zero a → zero b → result .div = (infinity (a.getLsbD (signPos f) != b.getLsbD (signPos f)), 8)) ∧
    ((signals a ∨ signals b) → result .add = (default, 16) ∧ result .sub = (default, 16) ∧
      result .mul = (default, 16) ∧ result .div = (default, 16)) ∧
    (signals a → result .sqrt = (default, 16) ∧ result .abs = (default, 16) ∧ result .neg = (default, 16)) ∧
    (¬signals a → ¬signals b →
      ((isNan a ∨ isNan b) → quiet (result .add) ∧ quiet (result .sub) ∧ quiet (result .mul) ∧ quiet (result .div)) ∧
      (isNan a → quiet (result .sqrt) ∧ quiet (result .abs) ∧ quiet (result .neg))) ∧
    (finite a → ¬zero a → a.getLsbD (signPos f) = true → result .sqrt = (default, 16)) ∧
    (infinite a → infinite b →
      (a.getLsbD (signPos f) ≠ b.getLsbD (signPos f) → result .add = (default, 16)) ∧
      (a.getLsbD (signPos f) = b.getLsbD (signPos f) → result .sub = (default, 16)) ∧ result .div = (default, 16)) ∧
    (zero a → zero b → result .div = (default, 16)) ∧
    ((infinite a ∧ zero b ∨ zero a ∧ infinite b) → result .mul = (default, 16)) ∧
    (infinite a → finite b → result .add = (infinity an, 0) ∧ result .sub = (infinity an, 0) ∧
      (¬zero b → result .mul = (infinity (an != bn), 0)) ∧ result .div = (infinity (an != bn), 0)) ∧
    (finite a → infinite b → result .add = (infinity bn, 0) ∧ result .sub = (infinity (!bn), 0) ∧
      (¬zero a → result .mul = (infinity (an != bn), 0)) ∧ result .div = (sign (an != bn), 0)) ∧
    (infinite a → infinite b → (an = bn → result .add = (infinity an, 0)) ∧ (an ≠ bn → result .sub = (infinity an, 0)) ∧
      result .mul = (infinity (an != bn), 0)) ∧
    (infinite a → result .sqrt = if an then (default, 16) else (infinity false, 0)) ∧
    ((isNan a ∨ isNan b) → fpCompareIeee f cond a b =
      (false, false, true, if (signals a ∨ signals b) ∨ cond.getLsbD 3 = true then 16 else 0)) ∧
    (finite a → finite b → ∃ less equal : Bool, fpCompareIeee f cond a b = (less, equal, false, 0) ∧
      (less = true ↔ fpNumber f a < fpNumber f b) ∧ (equal = true ↔ fpNumber f a = fpNumber f b)) ∧
    (infinite a → finite b → fpCompareIeee f cond a b = (an, false, false, 0)) ∧
    (finite a → infinite b → fpCompareIeee f cond a b = (!bn, false, false, 0)) ∧
    (infinite a → infinite b → fpCompareIeee f cond a b = (an && !bn, an == bn, false, 0)) ∧
    ∀ (neg : Bool) (mant : Nat) (exp q : Int), exp < q →
      let n := (roundTo rm neg mant exp q).1
      let unit := 2 ^ (q - exp).toNat
      ((roundTo rm neg mant exp q).2 = true ↔ n * unit ≠ mant) ∧
      (rm = 0 → 2 * mant ≤ (2 * n + 1) * unit ∧ 2 * n * unit ≤ 2 * mant + unit ∧
        ((2 * mant = (2 * n + 1) * unit ∨ 2 * n * unit = 2 * mant + unit) → n % 2 = 0)) ∧
      ((rm = 1 ∨ (rm = 2 ∧ neg = true) ∨ (rm = 3 ∧ neg = false)) → n * unit ≤ mant ∧ mant < (n + 1) * unit) ∧
      (((rm = 2 ∧ neg = false) ∨ (rm = 3 ∧ neg = true)) → mant ≤ n * unit ∧ n * unit < mant + unit)

/-- FPOP_IEEE's results on finite numbers (R573): add, sub, mul, div, sqrt and the conversions deliver the exact result
correctly rounded, with its flags; a conversion to an integer the rounded integer, where it fits; and with FS set a denormal
result becomes a zero, everything else staying as with FS clear. From the model's logs: the signs of zeros (PRESUMED,
notes/assumptions/17.md), when U is set (notes/assumptions/16.md, notes/assumptions/12.md), V for a number that fits no
integer, whose delivered integer is free (notes/assumptions/13.md), the flushed zero's free sign and flags
(notes/assumptions/11.md), and that a result which rounds to 0 is none to flush (notes/assumptions/39.md). -/
def Obligations.FpopRoundsCorrectly : Prop :=
  ∀ (f g : Fmt) (rm : BitVec 2) (a b : Dword), f = .s ∨ f = .d →
    let finite := fun v => expField f v < expTop f
    let x := fpNumber f a
    let y := fpNumber f b
    let an := signField f a
    let bn := signField f b
    let rounds := fun (op : FpOp) (z : ℝ) (zeroNeg : Bool) =>
      correctlyRounded f rm z zeroNeg (fpopIeee op f f rm false a b)
    let integer : ℤ := if g = .w then (lo32 a).toInt else a.toInt
    let width := if g = .w then 32 else 64
    (finite a → finite b →
      rounds .add (x + y) (if an = bn then an else rm == 3) ∧ rounds .sub (x - y) (if an ≠ bn then an else rm == 3) ∧
      rounds .mul (x * y) (an != bn) ∧ (y ≠ 0 → rounds .div (x / y) (an != bn))) ∧
    (finite a → 0 ≤ x → rounds .sqrt (Real.sqrt x) an) ∧
    ((g = .s ∨ g = .d) → finite a → correctlyRounded g rm x an (fpopIeee .cvt f g rm false a b)) ∧
    ((g = .w ∨ g = .l) →
      correctlyRounded f rm integer false (fpopIeee .cvt g f rm false a b) ∧
      (finite a → ∀ n : ℕ, roundsToMultiple rm an (fpMagnitude f a) 1 n →
        let i : ℤ := if an then -n else n
        let r := fpopIeee .cvt f g rm false a b
        ((-(2 ^ (width - 1)) ≤ i ∧ i < 2 ^ (width - 1)) →
          r.1 = (if g = .w then zext32 (BitVec.ofInt 32 i) else BitVec.ofInt 64 i) ∧
          (fpMagnitude f a = n → r.2 = 0) ∧ (fpMagnitude f a ≠ n → r.2 = 1)) ∧
        (¬(-(2 ^ (width - 1)) ≤ i ∧ i < 2 ^ (width - 1)) → r.2 = 16)) ∧
      (¬finite a → (fpopIeee .cvt f g rm false a b).2 = 16)) ∧
    ∀ op : FpOp,
      let r := fpopIeee op g f rm false a b
      let flushed := fpopIeee op g f rm true a b
      ((expField f r.1 = 0 ∧ fracField f r.1 ≠ 0) → (∃ neg, hasFields f flushed.1 neg 0 0) ∧ flushed.2.toNat < 4) ∧
      (¬(expField f r.1 = 0 ∧ fracField f r.1 ≠ 0) → flushed = r)

/-- With CU1 clear every coprocessor-1 instruction takes Coprocessor Unusable with CE = 1, before any other check
(R263, R570; notes/assumptions/9.md). -/
def Obligations.Coprocessor1NeedsCu1 : Prop :=
  ∀ (i : Instr) (s : State), isCp1 i = true → statusCu1 s = false → takes i (.coprocessorUnusable 1) s

/-! ## The VectorUnit (spec/46_vector_unit.md, spec/47_vector_ops.md) -/

/-- The scalar arithmetic, logic, compare and shift instructions (R642 to R665): 32-bit wrapping results, and none of them
traps. -/
def Obligations.VectorUnitScalarAlu : Prop :=
  ∀ (rd rs rt : Reg) (sa : BitVec 5) (imm : BitVec 16) (s : State),
    let a := sr s rs
    let b := sr s rt
    let n := sa.toNat
    let m := a.toNat % 32
    let z : Word := imm.setWidth 32
    let x : Word := imm.signExtend 32
    writesSr (.rspSll rd rt sa) rd (BitVec.ofNat 32 (b.toNat * 2 ^ n)) s ∧
    writesSr (.rspSrl rd rt sa) rd (BitVec.ofNat 32 (b.toNat / 2 ^ n)) s ∧
    writesSr (.rspSra rd rt sa) rd (BitVec.ofInt 32 (b.toInt / 2 ^ n)) s ∧
    writesSr (.rspSllv rd rt rs) rd (BitVec.ofNat 32 (b.toNat * 2 ^ m)) s ∧
    writesSr (.rspSrlv rd rt rs) rd (BitVec.ofNat 32 (b.toNat / 2 ^ m)) s ∧
    writesSr (.rspSrav rd rt rs) rd (BitVec.ofInt 32 (b.toInt / 2 ^ m)) s ∧
    writesSr (.rspAdd rd rs rt) rd (BitVec.ofInt 32 (a.toInt + b.toInt)) s ∧
    writesSr (.rspAddu rd rs rt) rd (BitVec.ofInt 32 (a.toInt + b.toInt)) s ∧
    writesSr (.rspSub rd rs rt) rd (BitVec.ofInt 32 (a.toInt - b.toInt)) s ∧
    writesSr (.rspSubu rd rs rt) rd (BitVec.ofInt 32 (a.toInt - b.toInt)) s ∧
    writesSr (.rspAnd rd rs rt) rd (a &&& b) s ∧ writesSr (.rspOr rd rs rt) rd (a ||| b) s ∧
    writesSr (.rspXor rd rs rt) rd (a ^^^ b) s ∧ writesSr (.rspNor rd rs rt) rd (~~~(a ||| b)) s ∧
    writesSr (.rspSlt rd rs rt) rd (if a.toInt < b.toInt then 1 else 0) s ∧
    writesSr (.rspSltu rd rs rt) rd (if a.toNat < b.toNat then 1 else 0) s ∧
    writesSr (.rspAddi rt rs imm) rt (BitVec.ofInt 32 (a.toInt + imm.toInt)) s ∧
    writesSr (.rspAddiu rt rs imm) rt (BitVec.ofInt 32 (a.toInt + imm.toInt)) s ∧
    writesSr (.rspSlti rt rs imm) rt (if a.toInt < imm.toInt then 1 else 0) s ∧
    writesSr (.rspSltiu rt rs imm) rt (if a.toNat < x.toNat then 1 else 0) s ∧
    writesSr (.rspAndi rt rs imm) rt (a &&& z) s ∧ writesSr (.rspOri rt rs imm) rt (a ||| z) s ∧
    writesSr (.rspXori rt rs imm) rt (a ^^^ z) s ∧ writesSr (.rspLui rt imm) rt (BitVec.ofNat 32 (imm.toNat * 65536)) s

/-- The scalar branches and jumps (R634, R638, R639, R666 to R677) outside a delay slot. -/
def Obligations.VectorUnitBranches : Prop :=
  ∀ (rd rs rt : Reg) (imm : BitVec 16) (index : BitVec 26) (s : State), s.vu.ds = false →
    let a := sr s rs
    let b := sr s rt
    let target := s.vu.pc + 4 + BitVec.ofInt 12 (4 * imm.toInt)
    let direct := BitVec.ofNat 12 (4 * index.toNat)
    let indirect := (a &&& 0xFFC).setWidth 12
    vuBranches (.rspJ index) true direct none s ∧ vuBranches (.rspJal index) true direct (some 31) s ∧
    vuBranches (.rspJr rs) true indirect none s ∧
    (rd ≠ rs → vuBranches (.rspJalr rd rs) true indirect (some rd) s) ∧
    (∀ c : Bool, (c = true ↔ a = b) →
      vuBranches (.rspBeq rs rt imm) c target none s ∧ vuBranches (.rspBne rs rt imm) (!c) target none s) ∧
    (∀ c : Bool, (c = true ↔ a.toInt ≤ 0) →
      vuBranches (.rspBlez rs imm) c target none s ∧ vuBranches (.rspBgtz rs imm) (!c) target none s) ∧
    (∀ c : Bool, (c = true ↔ a.toInt < 0) →
      vuBranches (.rspBltz rs imm) c target none s ∧ vuBranches (.rspBgez rs imm) (!c) target none s ∧
      (rs ≠ 31 →
        vuBranches (.rspBltzal rs imm) c target (some 31) s ∧ vuBranches (.rspBgezal rs imm) (!c) target (some 31) s))

/-- The scalar loads and stores (R636, R678 to R686) at any address, unaligned and wrapping in DMEM, and BREAK (R637). -/
def Obligations.VectorUnitLoadsStoresAndBreak : Prop :=
  ∀ (rt base : Reg) (offset : BitVec 16) (code : BitVec 20) (s : State),
    let a := sr s base + offset.signExtend 32
    let b := fun k => dmemByte s a k
    let v := fun n k => byteAt n (zext32 (sr s rt)) k
    writesSr (.rspLb rt offset base) rt ((b 0).signExtend 32) s ∧
    writesSr (.rspLh rt offset base) rt ((b 0 ++ b 1).signExtend 32) s ∧
    writesSr (.rspLw rt offset base) rt (b 0 ++ b 1 ++ b 2 ++ b 3) s ∧
    writesSr (.rspLbu rt offset base) rt ((b 0).setWidth 32) s ∧
    writesSr (.rspLhu rt offset base) rt ((b 0 ++ b 1).setWidth 32) s ∧
    writesSr (.rspLwu rt offset base) rt (b 0 ++ b 1 ++ b 2 ++ b 3) s ∧
    vuStores (.rspSb rt offset base) a 1 (v 1) s ∧ vuStores (.rspSh rt offset base) a 2 (v 2) s ∧
    vuStores (.rspSw rt offset base) a 4 (v 4) s ∧
    completes (.rspBreak code) s (fun t =>
      t.sp.halt = true ∧ t.sp.broke = true ∧ t.mi.intr = (if s.sp.intrOnBreak then s.mi.intr ||| 1 else s.mi.intr) ∧
      backVuPipeline s { t with sp.halt := s.sp.halt, sp.broke := s.sp.broke, mi.intr := s.mi.intr } = s ∧
      sameMemory s t ∧ pastVuInstruction s t)

/-- The VectorUnit's moves (R687 to R693): its coprocessor-0 registers are the SP and DP groups with all their effects
(numbers 16 to 31 refused), its control registers the three flag bytes (others refused), its vector registers by byte. -/
def Obligations.VectorUnitMoves : Prop :=
  ∀ (rt rd : Reg) (e : BitVec 4) (s : State),
    let pa : Word := if rd.toNat < 8 then BitVec.ofNat 32 (0x04040000 + 4 * rd.toNat)
      else BitVec.ofNat 32 (0x04100000 + 4 * (rd.toNat - 8))
    let img := fun b => imgByte (vr s rd) b
    let x := sr s rt
    (rd.toNat < 16 →
      writesSrFrom (memRead s pa 4).2 (.rspMfc0 rt rd) rt (lo32 (memRead s pa 4).1) s ∧
      exec (.rspMtc0 rt rd) s = .next (vuRetireSeq (memWriteWord s pa (zext32 x)))) ∧
    (rd = 7 → (memRead s pa 4).1 = (if s.sp.semaphore then 1 else 0) ∧
      (memRead s pa 4).2 = { s with sp.semaphore := true }) ∧
    (16 ≤ rd.toNat →
      stops (.rspMfc0 rt rd) .vectorUnitCop0Register s ∧ stops (.rspMtc0 rt rd) .vectorUnitCop0Register s) ∧
    writesSr (.rspMfc2 rt rd e) rt ((img e.toNat ++ img ((e.toNat + 1) % 16)).signExtend 32) s ∧
    completes (.rspMtc2 rt rd e) s (fun t =>
      (∀ b < 16, imgByte (vr t rd) b =
        if b = e.toNat then x.extractLsb' 8 8 else if b = e.toNat + 1 then x.extractLsb' 0 8 else img b) ∧
      frameVr rd s t ∧ pastVuInstruction s t) ∧
    writesSr (.rspCfc2 rt 0) rt (s.vu.vco.setWidth 32) s ∧ writesSr (.rspCfc2 rt 1) rt (s.vu.vcc.setWidth 32) s ∧
    writesSr (.rspCfc2 rt 2) rt (s.vu.vce.setWidth 32) s ∧
    (∀ (c : Reg) (u : State),
      ((c = 0 ∧ u = { s with vu.vco := x.setWidth 8 }) ∨ (c = 1 ∧ u = { s with vu.vcc := x.setWidth 8 }) ∨
        (c = 2 ∧ u = { s with vu.vce := x.setWidth 8 })) →
      completes (.rspCtc2 rt c) s fun t => backVuPipeline u t = u ∧ sameMemory s t ∧ pastVuInstruction s t) ∧
    (3 ≤ rd.toNat →
      stops (.rspCfc2 rt rd) .vectorUnitControlRegister s ∧ stops (.rspCtc2 rt rd) .vectorUnitControlRegister s)

/-- The vector loads and stores (R689, R694 to R704): loads drop the bytes past element 15, stores wrap the element, LQV
and SQV stop at the end of the 16-byte block. -/
def Obligations.VectorLoadsAndStores : Prop :=
  ∀ (vt base : Reg) (e : BitVec 4) (offset : BitVec 7) (s : State),
    let a := fun (size : Int) => sr s base + BitVec.ofInt 32 (offset.toInt * size)
    let block := 16 - (a 16).toNat % 16
    vectorLoads (.rspLbv vt e offset base) (a 1) 1 vt e s ∧ vectorLoads (.rspLsv vt e offset base) (a 2) 2 vt e s ∧
    vectorLoads (.rspLlv vt e offset base) (a 4) 4 vt e s ∧ vectorLoads (.rspLdv vt e offset base) (a 8) 8 vt e s ∧
    vectorLoads (.rspLqv vt e offset base) (a 16) block vt e s ∧
    vectorStores (.rspSbv vt e offset base) (a 1) 1 vt e s ∧ vectorStores (.rspSsv vt e offset base) (a 2) 2 vt e s ∧
    vectorStores (.rspSlv vt e offset base) (a 4) 4 vt e s ∧ vectorStores (.rspSdv vt e offset base) (a 8) 8 vt e s ∧
    vectorStores (.rspSqv vt e offset base) (a 16) block vt e s

/-- The lane-wise operations (R721 to R738): the full
result of every lane, computed from the registers as they were, in the accumulator and clamped in vd; VCC and VCO written
by the adds and the compares alone, VCE by none. VSAR reads one slice of the accumulator, or 0 (R739), and VNOP does
nothing (R740). -/
def Obligations.VectorLaneOperations : Prop :=
  ∀ (vd vs vt : Reg) (e : BitVec 4) (s : State),
    let a := fun l => vrLane s vs l
    let b := fun l => vtLane s vt e l
    let flags := fun (c : Fin 8 → Bool) (t : State) => (∀ l : Fin 8, t.vu.vcc.getLsbD l.val = c l) ∧ t.vu.vco = 0
    let noFlags := fun (t : State) => t.vu.vcc = s.vu.vcc ∧ t.vu.vco = s.vu.vco
    let outside := fun (r : Int) => decide (r < -32768 ∨ 32767 < r)
    let adds := fun (i : Instr) (r : Fin 8 → Int) => laneWise i vd r (flags fun l => outside (r l)) s
    let bits := fun (i : Instr) (r : Fin 8 → Half) => laneWise i vd (fun l => (r l).toInt) noFlags s
    let picks := fun (i : Instr) (c : Fin 8 → Bool) =>
      laneWise i vd (fun l => if c l then (a l).toInt else (b l).toInt) (flags c) s
    adds (.rspVadd vd vs vt e) (fun l => (a l).toInt + (b l).toInt) ∧
    adds (.rspVsub vd vs vt e) (fun l => (a l).toInt - (b l).toInt) ∧
    laneWise (.rspVabs vd vs vt e) vd (fun l => (a l).toInt.sign * (b l).toInt) noFlags s ∧
    bits (.rspVand vd vs vt e) (fun l => a l &&& b l) ∧ bits (.rspVnand vd vs vt e) (fun l => ~~~(a l &&& b l)) ∧
    bits (.rspVor vd vs vt e) (fun l => a l ||| b l) ∧ bits (.rspVnor vd vs vt e) (fun l => ~~~(a l ||| b l)) ∧
    bits (.rspVxor vd vs vt e) (fun l => a l ^^^ b l) ∧ bits (.rspVnxor vd vs vt e) (fun l => ~~~(a l ^^^ b l)) ∧
    picks (.rspVlt vd vs vt e) (fun l => decide ((a l).toInt < (b l).toInt)) ∧
    picks (.rspVeq vd vs vt e) (fun l => decide (a l = b l)) ∧
    picks (.rspVne vd vs vt e) (fun l => decide (a l ≠ b l)) ∧
    picks (.rspVge vd vs vt e) (fun l => decide ((b l).toInt ≤ (a l).toInt)) ∧
    laneWise (.rspVmrg vd vs vt e) vd
      (fun l => if s.vu.vcc.getLsbD l.val then (a l).toInt else (b l).toInt) noFlags s ∧
    completes (.rspVsar vd e) s (fun t =>
      (∀ l : Fin 8, vrLane t vd l =
        let acc := s.vu.acc[l.val]
        if e = 8 then (acc >>> 32).setWidth 16 else if e = 9 then (acc >>> 16).setWidth 16
        else if e = 10 then acc.setWidth 16 else 0) ∧
      frameVr vd s t ∧ pastVuInstruction s t) ∧
    completes .rspVnop s (fun t => frameVuPc s t ∧ pastVuInstruction s t)

/-- No VectorUnit instruction raises an exception or changes any CPU state; of the interrupt controller it changes at most
SP's pending bit (R641). Nor does one touch the DisplayProcessor's buffers, or depend on the CPU's state. -/
def Obligations.VectorUnitLeavesCpuAlone : Prop :=
  ∀ (i : Instr) (s t : State), i.agent = .vectorUnit → exec i s = .next t →
    t.cpu = s.cpu ∧ t.cp0 = s.cp0 ∧ t.fpu = s.fpu ∧
    { t.mi with intr := s.mi.intr } = s.mi ∧ (∀ k, k ≠ 0 → t.mi.intr.getLsbD k = s.mi.intr.getLsbD k) ∧
    t.rdp.fb = s.rdp.fb ∧ t.rdp.depth = s.rdp.depth ∧
    t.rdp.dpState = s.rdp.dpState ∧ t.rdp.fillColor = s.rdp.fillColor ∧
    ∀ cpu cp0 fpu, ∃ t', exec i { s with cpu := cpu, cp0 := cp0, fpu := fpu } = .next t' ∧
      t'.vu = t.vu ∧ t'.sp = t.sp ∧ t'.mem = t.mem ∧ t'.mi = t.mi

/-- The instructions that the spec refuses by name in every state: the TLB instructions (R545 to R548), the vector
transfers of R705 to R718, the vector operations of R741 to R768 and the texture rectangles (R1023, R1024). That a
transfer and a vector operation record the reason of their own rule, and not that of R640 or R720, is the model's choice
(notes/assumptions/36.md). -/
def Obligations.RefusedByName : Prop :=
  ∀ (vd vs vt base : Reg) (e : BitVec 4) (offset : BitVec 7) (payload : BitVec 56) (rest : List Dword) (s : State),
    let transfer := fun (i : Reg → BitVec 4 → BitVec 7 → Reg → Instr) (name : String) =>
      stops (i vt e offset base) (.vectorTransfer name) s
    let vector := fun (i : Reg → Reg → Reg → BitVec 4 → Instr) (name : String) =>
      stops (i vd vs vt e) (.vectorOp name) s
    stops .tlbr .tlbNotModelled s ∧ stops .tlbwi .tlbNotModelled s ∧ stops .tlbwr .tlbNotModelled s ∧
    stops .tlbp .tlbNotModelled s ∧ stops (.rdpTextureRectangle payload rest) .textureRectangle s ∧
    stops (.rdpTextureRectangleFlip payload rest) .textureRectangleFlip s ∧ transfer .rspLrv "LRV" ∧
    transfer .rspLpv "LPV" ∧ transfer .rspLuv "LUV" ∧ transfer .rspLhv "LHV" ∧ transfer .rspLfv "LFV" ∧
    transfer .rspLwv "LWV" ∧ transfer .rspLtv "LTV" ∧ transfer .rspSrv "SRV" ∧ transfer .rspSpv "SPV" ∧
    transfer .rspSuv "SUV" ∧ transfer .rspShv "SHV" ∧ transfer .rspSfv "SFV" ∧ transfer .rspSwv "SWV" ∧
    transfer .rspStv "STV" ∧ vector .rspVmulf "VMULF" ∧ vector .rspVmulu "VMULU" ∧ vector .rspVrndp "VRNDP" ∧
    vector .rspVmulq "VMULQ" ∧ vector .rspVmudl "VMUDL" ∧ vector .rspVmudm "VMUDM" ∧ vector .rspVmudn "VMUDN" ∧
    vector .rspVmudh "VMUDH" ∧ vector .rspVmacf "VMACF" ∧ vector .rspVmacu "VMACU" ∧ vector .rspVrndn "VRNDN" ∧
    vector .rspVmacq "VMACQ" ∧ vector .rspVmadl "VMADL" ∧ vector .rspVmadm "VMADM" ∧ vector .rspVmadn "VMADN" ∧
    vector .rspVmadh "VMADH" ∧ vector .rspVaddc "VADDC" ∧ vector .rspVsubc "VSUBC" ∧ vector .rspVcl "VCL" ∧
    vector .rspVch "VCH" ∧ vector .rspVcr "VCR" ∧ vector .rspVrcp "VRCP" ∧ vector .rspVrcpl "VRCPL" ∧
    vector .rspVrcph "VRCPH" ∧ vector .rspVmov "VMOV" ∧ vector .rspVrsq "VRSQ" ∧ vector .rspVrsql "VRSQL" ∧
    vector .rspVrsqh "VRSQH"

/-! ## The DisplayProcessor (spec/48_rasterizer.md) -/

/-- The set-commands (R1004, R1007, R1008, R1029 to R1039, R1041 to R1049): the whole word in dp_state, SET_FILL_COLOR in
fill_color instead, and SET_COLOR_IMAGE with a new width giving two fresh buffers. -/
def Obligations.SetCommands : Prop :=
  ∀ (payload : BitVec 56) (color : Word) (s : State),
    let sets := fun (i : BitVec 56 → Instr) (op : BitVec 8) => setsDpState (i payload) op (op ++ payload) s
    let width := (payload.extractLsb' 32 10).toNat + 1
    sets .rdpSetKeyGb 0x2A ∧ sets .rdpSetKeyR 0x2B ∧ sets .rdpSetConvert 0x2C ∧ sets .rdpSetScissor 0x2D ∧
    sets .rdpSetPrimDepth 0x2E ∧ sets .rdpSetOtherModes 0x2F ∧ sets .rdpLoadTlut 0x30 ∧ sets .rdpSetTileSize 0x32 ∧
    sets .rdpLoadBlock 0x33 ∧ sets .rdpLoadTile 0x34 ∧ sets .rdpSetTile 0x35 ∧ sets .rdpSetFogColor 0x38 ∧
    sets .rdpSetBlendColor 0x39 ∧ sets .rdpSetPrimColor 0x3A ∧ sets .rdpSetEnvColor 0x3B ∧
    sets .rdpSetCombineMode 0x3C ∧ sets .rdpSetTextureImage 0x3D ∧ sets .rdpSetZImage 0x3E ∧
    completes (.rdpSetFillColor color) s (fun t => t = { s with rdp.fillColor := color }) ∧
    (width = s.rdp.fbWidth → sets .rdpSetColorImage 0x3F) ∧
    (width ≠ s.rdp.fbWidth →
      completes (.rdpSetColorImage payload) s fun t =>
        t.rdp.fbWidth = width ∧ t.rdp.fbHeight = s.rdp.fbHeight ∧
        (∀ x y, pixel t x y = 0 ∧ depthAt t x y = 0xFFFFFFFF) ∧
        Store.get 0 t.rdp.dpState 0x3F = 0x3F#8 ++ payload ∧
        (∀ k, k ≠ 0x3F → Store.get 0 t.rdp.dpState k = Store.get 0 s.rdp.dpState k) ∧
        { t with
          rdp.fbWidth := s.rdp.fbWidth, rdp.fb := s.rdp.fb, rdp.depth := s.rdp.depth,
          rdp.dpState := s.rdp.dpState } = s ∧ sameMemory s t)

/-- FILL_RECTANGLE (R1007, R1040, R1050): exactly the pixels of the half-open rectangle that lie in the buffer take the
fill colour; every other pixel, the depth buffer and dp_state are unchanged. -/
def Obligations.FillRectangle : Prop :=
  ∀ (xl yl xh yh : BitVec 12) (s : State),
    completes (.rdpFillRectangle xl yl xh yh) s fun t =>
      (∀ x y, x < s.rdp.fbWidth → y < s.rdp.fbHeight →
        pixel t x y = if xh.toNat / 4 ≤ x ∧ x < xl.toNat / 4 ∧ yh.toNat / 4 ≤ y ∧ y < yl.toNat / 4 then s.rdp.fillColor
          else pixel s x y) ∧
      (∀ k, s.rdp.fbWidth * s.rdp.fbHeight ≤ k → Store.get 0 t.rdp.fb k = Store.get 0 s.rdp.fb k) ∧
      { t with rdp.fb := s.rdp.fb } = s ∧ sameMemory s t

/-- NOP and the syncs are one word, consumed with no effect (R1010, R1025 to R1027); SYNC_FULL raises DP and does nothing
else (R1028). -/
def Obligations.NopAndSyncs : Prop :=
  ∀ (payload : BitVec 56) (s : State),
    decodeRdp [0x00#8 ++ payload] = .ok .rdpNop ∧ decodeRdp [0x26#8 ++ payload] = .ok .rdpSyncLoad ∧
    decodeRdp [0x27#8 ++ payload] = .ok .rdpSyncPipe ∧ decodeRdp [0x28#8 ++ payload] = .ok .rdpSyncTile ∧
    decodeRdp [0x29#8 ++ payload] = .ok .rdpSyncFull ∧
    completes .rdpNop s (· = s) ∧ completes .rdpSyncLoad s (· = s) ∧ completes .rdpSyncPipe s (· = s) ∧
    completes .rdpSyncTile s (· = s) ∧ completes .rdpSyncFull s (· = { s with mi.intr := s.mi.intr ||| 32 })

/-- The triangles (R1007, R1011 to R1022): refused while TRI_DECODE is its default. With a supplied TRI_DECODE each is drawn
from the vertices it gives, sorted by y with ties in their order: a pixel of the buffer that the triangle covers takes
TRI_SHADE of the interpolated point, one of an op with bit 0 set only where its depth is less than the stored one, which it
then replaces; every other pixel, and everything outside the two buffers, is unchanged. -/
def Obligations.Triangles : Prop :=
  ∀ (payload : BitVec 56) (rest : List Dword) (s : State),
    let draws := fun (i : BitVec 56 → List Dword → Instr) (op : BitVec 8) =>
      let vs := Config.triDecodeSupplied op ((op ++ payload) :: rest)
      let v : Fin 3 → Vertex := fun k => if k = 0 then vs.1 else if k = 1 then vs.2.1 else vs.2.2
      let colour := fun p : Vertex => match s.cfg.triShade with
        | .supplied => Config.triShadeSupplied op p s.rdp.dpState
        | .vertexColour => colourByte p.r ++ colourByte p.g ++ colourByte p.b ++ colourByte p.a
      let tests := op.getLsbD 0
      (s.cfg.triDecode = .refuse → stops (i payload rest) .triangleDecoding s) ∧
      (s.cfg.triDecode = .supplied →
        ∃ order : Fin 3 → Fin 3, sortsByY v order ∧ completes (i payload rest) s fun t =>
          (∀ x y, x < s.rdp.fbWidth → y < s.rdp.fbHeight →
            match coveringPoint (v (order 0)) (v (order 1)) (v (order 2)) x y with
            | none => pixel t x y = pixel s x y ∧ depthAt t x y = depthAt s x y
            | some p =>
              let z := max 0 (min 0xFFFFFFFF p.z.floor)
              (tests = false → pixel t x y = colour p ∧ depthAt t x y = depthAt s x y) ∧
              (tests = true → z < (depthAt s x y).toNat →
                pixel t x y = colour p ∧ ((depthAt t x y).toNat : Int) = z) ∧
              (tests = true → ¬z < (depthAt s x y).toNat → pixel t x y = pixel s x y ∧ depthAt t x y = depthAt s x y)) ∧
          (tests = false → t.rdp.depth = s.rdp.depth) ∧
          (∀ k, s.rdp.fbWidth * s.rdp.fbHeight ≤ k →
            Store.get 0 t.rdp.fb k = Store.get 0 s.rdp.fb k ∧
            Store.get 0xFFFFFFFF t.rdp.depth k = Store.get 0xFFFFFFFF s.rdp.depth k) ∧
          { t with rdp.fb := s.rdp.fb, rdp.depth := s.rdp.depth } = s ∧ sameMemory s t)
    draws .rdpTriangle 0x08 ∧ draws .rdpTriangleZ 0x09 ∧ draws .rdpTriangleTex 0x0A ∧ draws .rdpTriangleTexZ 0x0B ∧
    draws .rdpTriangleShade 0x0C ∧ draws .rdpTriangleShadeZ 0x0D ∧ draws .rdpTriangleShadeTex 0x0E ∧
    draws .rdpTriangleShadeTexZ 0x0F

/-- The flush (R1000 to R1006): a command is as many words as its top byte asks for, a truncated last one is dropped, and a
clear directive among them, wherever it stands, empties the depth buffer before anything is drawn: R1006, which is followed
where R1050's law 4 disagrees (notes/assumptions/40.md). The phases are the model's bookkeeping (notes/assumptions/6.md). -/
def Obligations.FlushCutsTheStream : Prop :=
  ∀ s : State, s.refused = none → s.clock.phase = .flush →
    (∃ commands dropped, step s = .next { s with
        clock.phase := .draw commands
        rdp.depth := if commands.any (fun ws => (ws.headD 0).extractLsb' 56 8 == s.cfg.clearDirective) then []
          else s.rdp.depth } ∧
      commands.flatten ++ dropped = s.rdp.stream ∧
      (∀ ws ∈ commands, ∃ w rest, ws = w :: rest ∧ ws.length = commandLength (w.extractLsb' 56 8)) ∧
      (∀ w rest, dropped = w :: rest → dropped.length < commandLength (w.extractLsb' 56 8)))

/-! ## The timer, the interrupt controller, DMA (spec/60_exceptions.md, spec/20_memory.md) -/

/-- The timer, the interrupt poll and the interrupt controller (R821 to R823, R825, R830 to R833, R861, R862): Count moves
once in COUNT_DIV calls and sets IP7 when the increment reaches Compare; the poll enters Interrupt at the pc it finds,
exactly when R832's condition holds; raising sets one pending bit whatever the mask, acknowledging clears one, and the
controller's registers read and write as R825 has them. -/
def Obligations.TimerPollAndInterruptController : Prop :=
  ∀ (s : State) (q : MiSource) (v : Word),
    (s.cpu.countPhase + 1 ≠ s.cfg.countDiv → countTick s = { s with cpu.countPhase := s.cpu.countPhase + 1 }) ∧
    (s.cpu.countPhase + 1 = s.cfg.countDiv → countTick s =
      { s with
        cpu.countPhase := 0
        cp0.count := s.cp0.count + 1
        cp0.cause := if s.cp0.count + 1 = s.cp0.compare then s.cp0.cause ||| 0x8000 else s.cp0.cause }) ∧
    let line := fun k => statusBit s (8 + k)
    let taken := statusIe s = true ∧ statusExl s = false ∧ statusErl s = false ∧
      ((s.cp0.cause.getLsbD 15 = true ∧ line 7 = true) ∨ ((s.mi.intr &&& s.mi.mask) ≠ 0 ∧ line 2 = true) ∨
        (s.cp0.cause.getLsbD 9 = true ∧ line 1 = true) ∨ (s.cp0.cause.getLsbD 8 = true ∧ line 0 = true))
    let n := miBit q
    (taken → pollInterrupt s = enter .interrupt false s ∧ (pollInterrupt s).cp0.epc = s.cpu.pc ∧
      (pollInterrupt s).cp0.cause.getLsbD 31 = false ∧ (pollInterrupt s).cp0.cause.extractLsb' 2 5 = 0) ∧
    (¬taken → pollInterrupt s = s) ∧
    (∀ k < 6, (miRaise s q).mi.intr.getLsbD k = (k == n || s.mi.intr.getLsbD k)) ∧
    (∀ k < 6, (miAck s q).mi.intr.getLsbD k = (k != n && s.mi.intr.getLsbD k)) ∧
    { miRaise s q with mi.intr := s.mi.intr } = s ∧ { miAck s q with mi.intr := s.mi.intr } = s ∧
    (miPendingAndEnabled s = true ↔ ∃ k < 6, s.mi.intr.getLsbD k = true ∧ s.mi.mask.getLsbD k = true) ∧
    regValue s .mi 4 = 0x02020102 ∧ regValue s .mi 8 = s.mi.intr.setWidth 32 ∧
    regValue s .mi 12 = s.mi.mask.setWidth 32 ∧
    (∀ k < 6, (regWrite s .mi 8 v).mi.intr.getLsbD k = (s.mi.intr.getLsbD k && !v.getLsbD k)) ∧
    (∀ k < 6, (regWrite s .mi 12 v).mi.mask.getLsbD k =
      if v.getLsbD (2 * k) = v.getLsbD (2 * k + 1) then s.mi.mask.getLsbD k else v.getLsbD (2 * k + 1)) ∧
    (∀ k < 6, (regWrite s .mi 0 v).mi.intr.getLsbD k = (s.mi.intr.getLsbD k && !(k == 5 && v.getLsbD 11)))

/-- The register groups SP, SP PC, DP, MI, VI, AI, PI, RI and SI (R170, R173 to R188, R822, R825), through the bus: what a
word read returns, with SP_SEMAPHORE's its only effect, and all that a word write does. The writes that start a DMA are
DmaRequests', the writes of MI_INTR and MI_INTR_MASK also TimerPollAndInterruptController's. -/
def Obligations.DeviceRegisters : Prop :=
  ∀ (s : State) (v : Word),
    let reads := fun (pa value : Word) => memRead s pa 4 = (zext32 value, s)
    let writes := fun (pa : Word) (t : State) => memWrite s pa 4 (zext32 v) = .ok t
    let register := fun (pa value : Word) (t : State) => reads pa value ∧ writes pa t
    let silent := fun (pa : Word) => register pa 0 s
    let pair := fun (old : Bool) (k : Nat) => if v.getLsbD k = v.getLsbD (k + 1) then old else v.getLsbD (k + 1)
    let address := v &&& 0x00FFFFF8
    let flag := fun b : Bool => if b then (1 : Word) else 0
    let acknowledged := fun q : MiSource => { s with mi.intr := s.mi.intr &&& ~~~((1 : BitVec 6) <<< miBit q) }
    -- SP (R173, R174) and SP PC (R175)
    register 0x04040000 (s.sp.memAddr.setWidth 32) { s with sp.memAddr := (v &&& 0x1FF8).setWidth 13 } ∧
    register 0x04040004 (s.sp.dramAddr.setWidth 32) { s with sp.dramAddr := address.setWidth 24 } ∧
    reads 0x04040008 s.sp.rdLen ∧ reads 0x0404000C s.sp.wrLen ∧
    (∃ w, reads 0x04040010 w ∧ w.getLsbD 0 = s.sp.halt ∧ w.getLsbD 1 = s.sp.broke ∧ w.getLsbD 2 = s.busy.sp ∧
      w.getLsbD 5 = s.sp.sstep ∧ w.getLsbD 6 = s.sp.intrOnBreak ∧ (∀ k < 8, w.getLsbD (7 + k) = s.sp.signal.getLsbD k) ∧
      ∀ k, (k = 3 ∨ k = 4 ∨ 15 ≤ k) → w.getLsbD k = false) ∧
    (∃ t, writes 0x04040010 t ∧ t.sp.halt = pair s.sp.halt 0 ∧ t.sp.broke = (s.sp.broke && !v.getLsbD 2) ∧
      t.sp.sstep = pair s.sp.sstep 5 ∧ t.sp.intrOnBreak = pair s.sp.intrOnBreak 7 ∧
      (∀ k < 8, t.sp.signal.getLsbD k = pair (s.sp.signal.getLsbD k) (9 + 2 * k)) ∧
      (∀ k < 6, t.mi.intr.getLsbD k = if k = 0 then pair (s.mi.intr.getLsbD 0) 3 else s.mi.intr.getLsbD k) ∧
      { t with
        sp.halt := s.sp.halt, sp.broke := s.sp.broke, sp.sstep := s.sp.sstep, sp.intrOnBreak := s.sp.intrOnBreak,
        sp.signal := s.sp.signal, mi.intr := s.mi.intr } = s) ∧
    silent 0x04040014 ∧ register 0x04040018 (flag s.busy.sp) s ∧
    memRead s 0x0404001C 4 = (zext32 (flag s.sp.semaphore), { s with sp.semaphore := true }) ∧
    writes 0x0404001C { s with sp.semaphore := false } ∧
    register 0x04080000 (s.vu.pc.setWidth 32)
      { s with vu.pc := (v &&& 0xFFC).setWidth 12, vu.pending := none, vu.ds := false } ∧
    silent 0x04080004 ∧
    -- DP (R176, R177)
    register 0x04100000 (s.rdp.dpcStart.setWidth 32)
      { s with rdp.dpcStart := address.setWidth 24, rdp.dpcCurrent := address.setWidth 24 } ∧
    reads 0x04100004 (s.rdp.dpcEnd.setWidth 32) ∧
    (∃ words : List Dword,
      writes 0x04100004 { s with
        rdp.dpcEnd := address.setWidth 24
        rdp.dpcCurrent := address.setWidth 24
        rdp.stream := s.rdp.stream ++ words } ∧
      words.length = (address.toNat - s.rdp.dpcCurrent.toNat + 7) / 8 ∧
      ∀ k < words.length, ∃ w, words[k]? = some w ∧ ∀ j < 8, byteAt 8 w j =
        let a := s.rdp.dpcCurrent.toNat + 8 * k
        if s.rdp.xbus then Memory.byte s.mem (0x04000000 + a % 4096 / 8 * 8 + j)
        else if a < rdramBytes s.cfg.rdramSize then Memory.byte s.mem (a + j) else 0) ∧
    register 0x04100008 (s.rdp.dpcCurrent.setWidth 32) s ∧
    register 0x0410000C (if s.rdp.xbus then 0x81 else 0x80) { s with rdp.xbus := pair s.rdp.xbus 0 } ∧
    silent 0x04100010 ∧ silent 0x04100014 ∧ silent 0x04100018 ∧ silent 0x0410001C ∧
    -- MI (R825)
    (∃ w, reads 0x04300000 w ∧ w.extractLsb' 0 7 = s.mi.initLength ∧ w.getLsbD 7 = s.mi.initMode ∧
      w.getLsbD 8 = s.mi.ebusTest ∧ w.getLsbD 9 = s.mi.rdramReg ∧ ∀ k, 10 ≤ k → w.getLsbD k = false) ∧
    writes 0x04300000 { (if v.getLsbD 11 then acknowledged .dp else s) with
      mi.initLength := v.setWidth 7
      mi.initMode := pair s.mi.initMode 7
      mi.ebusTest := pair s.mi.ebusTest 9
      mi.rdramReg := pair s.mi.rdramReg 12 } ∧
    register 0x04300004 0x02020102 s ∧
    register 0x04300008 (s.mi.intr.setWidth 32) { s with mi.intr := s.mi.intr &&& ~~~(v.setWidth 6) } ∧
    reads 0x0430000C (s.mi.mask.setWidth 32) ∧
    (∃ t, writes 0x0430000C t ∧ (∀ k < 6, t.mi.mask.getLsbD k = pair (s.mi.mask.getLsbD k) (2 * k)) ∧
      { t with mi.mask := s.mi.mask } = s) ∧
    -- VI (R180, R181)
    register 0x04400000 s.vi.control { s with vi.control := v } ∧
    register 0x04400004 (s.vi.origin.setWidth 32) { s with vi.origin := v.setWidth 24 } ∧
    register 0x04400008 (s.vi.width.setWidth 32) { s with vi.width := v.setWidth 12 } ∧
    register 0x0440000C (s.vi.vIntr.setWidth 32) { s with vi.vIntr := v.setWidth 10 } ∧
    register 0x04400010 (BitVec.ofNat 32 (s.clock.framePhase % 1024)) (acknowledged .vi) ∧
    register 0x04400014 s.vi.burst { s with vi.burst := v } ∧
    register 0x04400018 (s.vi.vSync.setWidth 32) { s with vi.vSync := v.setWidth 10 } ∧
    register 0x0440001C s.vi.hSync { s with vi.hSync := v } ∧
    register 0x04400020 s.vi.leap { s with vi.leap := v } ∧
    register 0x04400024 s.vi.hStart { s with vi.hStart := v } ∧
    register 0x04400028 s.vi.vStart { s with vi.vStart := v } ∧
    register 0x0440002C s.vi.vBurst { s with vi.vBurst := v } ∧
    register 0x04400030 s.vi.xScale { s with vi.xScale := v } ∧
    register 0x04400034 s.vi.yScale { s with vi.yScale := v } ∧
    -- AI (R182, R183)
    register 0x04500000 (s.ai.dramAddr.setWidth 32) { s with ai.dramAddr := address.setWidth 24 } ∧
    ((∀ q ∈ s.dma, q.owner ≠ .ai) → reads 0x04500004 0) ∧
    (∀ before q after, s.dma = before ++ q :: after → (∀ r ∈ before, r.owner ≠ .ai) → q.owner = .ai →
      reads 0x04500004 (BitVec.ofNat 32 q.len)) ∧
    register 0x04500008 (flag s.ai.control) { s with ai.control := v.getLsbD 0 } ∧
    register 0x0450000C (if s.busy.ai then 0x40000000 else 0) (acknowledged .ai) ∧
    register 0x04500010 (s.ai.dacrate.setWidth 32) { s with ai.dacrate := v.setWidth 14 } ∧
    register 0x04500014 (s.ai.bitrate.setWidth 32) { s with ai.bitrate := v.setWidth 4 } ∧
    -- PI (R184 to R186)
    register 0x04600000 (s.pi.dramAddr.setWidth 32) { s with pi.dramAddr := (v &&& 0x00FFFFFE).setWidth 24 } ∧
    register 0x04600004 s.pi.cartAddr { s with pi.cartAddr := v &&& 0xFFFFFFFE } ∧
    reads 0x04600008 s.pi.rdLen ∧ reads 0x0460000C s.pi.wrLen ∧
    register 0x04600010 (flag s.busy.pi ||| if s.mi.intr.getLsbD 4 then 8 else 0)
      (if v.getLsbD 1 then acknowledged .pi else s) ∧
    register 0x04600014 (s.pi.dom1Lat.setWidth 32) { s with pi.dom1Lat := v.setWidth 8 } ∧
    register 0x04600018 (s.pi.dom1Pwd.setWidth 32) { s with pi.dom1Pwd := v.setWidth 8 } ∧
    register 0x0460001C (s.pi.dom1Pgs.setWidth 32) { s with pi.dom1Pgs := (v &&& 0xF).setWidth 8 } ∧
    register 0x04600020 (s.pi.dom1Rls.setWidth 32) { s with pi.dom1Rls := (v &&& 0x3).setWidth 8 } ∧
    register 0x04600024 (s.pi.dom2Lat.setWidth 32) { s with pi.dom2Lat := v.setWidth 8 } ∧
    register 0x04600028 (s.pi.dom2Pwd.setWidth 32) { s with pi.dom2Pwd := v.setWidth 8 } ∧
    register 0x0460002C (s.pi.dom2Pgs.setWidth 32) { s with pi.dom2Pgs := (v &&& 0xF).setWidth 8 } ∧
    register 0x04600030 (s.pi.dom2Rls.setWidth 32) { s with pi.dom2Rls := (v &&& 0x3).setWidth 8 } ∧
    -- RI (R187)
    register 0x04700000 s.ri.mode { s with ri.mode := v } ∧ register 0x04700004 s.ri.config { s with ri.config := v } ∧
    register 0x04700008 s.ri.currentLoad { s with ri.currentLoad := v } ∧
    register 0x0470000C s.ri.select { s with ri.select := v } ∧
    register 0x04700010 s.ri.refresh { s with ri.refresh := v } ∧
    register 0x04700014 s.ri.latency { s with ri.latency := v } ∧
    register 0x04700018 s.ri.rError { s with ri.rError := v } ∧
    register 0x0470001C s.ri.wError { s with ri.wError := v } ∧
    -- SI (R188)
    register 0x04800000 (s.si.dramAddr.setWidth 32) { s with si.dramAddr := address.setWidth 24 } ∧
    reads 0x04800004 s.si.rd64b ∧ reads 0x04800010 s.si.wr64b ∧
    silent 0x04800008 ∧ silent 0x0480000C ∧ silent 0x04800014 ∧
    register 0x04800018 (flag s.busy.si ||| if s.mi.intr.getLsbD 1 then 0x1000 else 0) (acknowledged .si)

/-- DMA (R189, R201 to R204, R206): a trigger write stores its register and, unless its peripheral is busy or R201 and R203
ask for none (0 to PI or SP, length 0 to AI), makes one request, due DMA_DELAY_TICKS later, and nothing else; the oldest due
request completes by what DmaCopies says it copies, PIF RAM being processed after a copy to it, leaves the queue, frees its
peripheral and raises its source, SP's none. The phase is the model's (notes/assumptions/6.md). -/
def Obligations.DmaRequests : Prop :=
  ∀ (s : State) (v : Word),
    let creates := fun (t stored : State) (o : DmaOwner) (marked : Busy) (src dst : DmaPlace) (len rows skip : Nat) =>
      (busy s o = true → t = stored) ∧
      (busy s o = false → t = { stored with
        busy := marked
        dma := s.dma ++ [{
          owner := o, src := src, dst := dst, len := len, rows := rows, skip := skip,
          deadline := s.clock.tick + s.cfg.dmaDelayTicks }] })
    let sp := DmaPlace.spMem (s.sp.memAddr.getLsbD 12) (s.sp.memAddr.setWidth 12)
    let spDram := DmaPlace.rdram (s.sp.dramAddr.setWidth 32)
    let spLen := (v.toNat % 4096 ||| 7) + 1
    let spRows := v.toNat / 4096 % 256 + 1
    let spSkip := v.toNat / 1048576
    let piDram := DmaPlace.rdram (s.pi.dramAddr.setWidth 32)
    let piLen := v.toNat % 16777216 + 1
    let siDram := DmaPlace.rdram (s.si.dramAddr.setWidth 32)
    let aiLen := v &&& 0x3FFF8
    (v ≠ 0 →
      creates (regWrite s .pi 0x0C v) { s with pi.wrLen := v } .pi { s.busy with pi := true } (.cart s.pi.cartAddr) piDram
        piLen 1 0 ∧
      creates (regWrite s .pi 0x08 v) { s with pi.rdLen := v } .pi { s.busy with pi := true } piDram (.cart s.pi.cartAddr)
        piLen 1 0 ∧
      creates (regWrite s .sp 0x08 v) { s with sp.rdLen := v } .sp { s.busy with sp := true } spDram sp
        spLen spRows spSkip ∧
      creates (regWrite s .sp 0x0C v) { s with sp.wrLen := v } .sp { s.busy with sp := true } sp spDram
        spLen spRows spSkip) ∧
    (v = 0 →
      regWrite s .pi 0x0C v = { s with pi.wrLen := v } ∧ regWrite s .pi 0x08 v = { s with pi.rdLen := v } ∧
      regWrite s .sp 0x08 v = { s with sp.rdLen := v } ∧ regWrite s .sp 0x0C v = { s with sp.wrLen := v }) ∧
    creates (regWrite s .si 0x04 v) { s with si.rd64b := v } .si { s.busy with si := true } .pif siDram 64 1 0 ∧
    creates (regWrite s .si 0x10 v) { s with si.wr64b := v } .si { s.busy with si := true } siDram .pif 64 1 0 ∧
    (aiLen ≠ 0 →
      creates (regWrite s .ai 0x04 v) { s with ai.len := aiLen.setWidth 18 } .ai { s.busy with ai := true }
        (.rdram (s.ai.dramAddr.setWidth 32)) .audio aiLen.toNat 1 0) ∧
    (aiLen = 0 → regWrite s .ai 0x04 v = { s with ai.len := aiLen.setWidth 18 }) ∧
    (∀ before q after, s.refused = none → s.clock.phase = .dma → s.dma = before ++ q :: after →
      (∀ r ∈ before, s.clock.tick < r.deadline) → q.deadline ≤ s.clock.tick →
      (∀ why, dmaCopy q s = .error why → step s = .refused why) ∧
      (∀ u, dmaCopy q s = .ok u → ∃ t, step s = .next t ∧
        (∀ a, Memory.byte t.mem a =
          if q.owner = .si ∧ q.dst = .pif ∧ 0x1FC007C0 ≤ a ∧ a < 0x1FC00800 then
            Config.pifProcess ((List.range 64).map fun k => Memory.byte u.mem (0x1FC007C0 + k)) s.controllerLatch
              (a - 0x1FC007C0)
          else Memory.byte u.mem a) ∧
        { t with mem := u.mem } = { u with
          dma := before ++ after
          busy := (match q.owner with
            | .pi => { u.busy with pi := false }
            | .si => { u.busy with si := false }
            | .ai => { u.busy with ai := false }
            | .sp => { u.busy with sp := false })
          mi.intr := (match q.owner with
            | .pi => u.mi.intr ||| 16
            | .si => u.mi.intr ||| 2
            | .ai => u.mi.intr ||| 4
            | .sp => u.mi.intr) }))

/-- What `dmaCopy` copies (R205), for every request whose side in RDRAM lies below SP's memories, as every trigger's does: byte
n of the request, rows counted, from its source, 0 outside RDRAM and the ROM image, to its destination, dropped outside
RDRAM; where an SP memory or PIF RAM is wrapped around, the last byte stays. From the cartridge, which may overlap RDRAM, the
bytes are copied one after the other in ascending order. Nothing else changes. -/
def Obligations.DmaCopies : Prop :=
  ∀ (q : DmaRequest) (s : State) (pa : Word), pa.toNat + q.rows * (q.len + q.skip) ≤ 0x04000000 →
    let total := q.rows * q.len
    let place := fun n => n / q.len * (q.len + q.skip) + n % q.len
    let size := rdramBytes s.cfg.rdramSize
    let ram := fun n => if pa.toNat + place n < size then Memory.byte s.mem (pa.toNat + place n) else 0
    let spKey := fun (imem : Bool) (offset : BitVec 12) (n : Nat) =>
      (if imem then 0x04001000 else 0x04000000) + (offset.toNat + n) % 4096
    let pifKey := fun n : Nat => 0x1FC007C0 + n % 64
    let copies := fun (key : Nat → Nat) (source : Nat → Byte) (lands : Nat → Prop) =>
      ∃ t, dmaCopy q s = .ok t ∧ { t with mem := s.mem } = s ∧
        (∀ n < total, lands n → Memory.byte t.mem (key n) = source n) ∧
        (∀ a, (∀ n < total, lands n → a ≠ key n) → Memory.byte t.mem a = Memory.byte s.mem a)
    let inRam := fun n => pa.toNat + place n < size
    (q.dst = .rdram pa →
      (∀ imem offset, q.src = .spMem imem offset →
        copies (fun n => pa.toNat + place n) (fun n => Memory.byte s.mem (spKey imem offset n)) inRam) ∧
      (q.src = .pif → q.rows = 1 →
        copies (fun n => pa.toNat + place n) (fun n => Memory.byte s.mem (pifKey n)) inRam) ∧
      (∀ c, q.src = .cart c →
        (∃ trace : Nat → State, trace 0 = s ∧ dmaCopy q s = .ok (trace total) ∧
          ∀ n < total,
            let from_ := memRead (trace n) (c + BitVec.ofNat 32 (place n)) 1
            memWrite from_.2 (pa + BitVec.ofNat 32 (place n)) 1 from_.1 = .ok (trace (n + 1))) ∧
        ((∀ n < total, region s.cfg.rdramSize (c + BitVec.ofNat 32 (place n)).toNat = .rom) →
          copies (fun n => pa.toNat + place n)
            (fun n =>
              let o := (c + BitVec.ofNat 32 (place n)).toNat - 0x10000000
              if o < s.cfg.romSize then Store.get 0 s.cfg.rom o else 0) inRam))) ∧
    (q.src = .rdram pa →
      (∀ imem offset, q.dst = .spMem imem offset →
        (∃ t, dmaCopy q s = .ok t ∧ { t with mem := s.mem } = s ∧
          (∀ n < total, total ≤ n + 4096 → Memory.byte t.mem (spKey imem offset n) = ram n) ∧
          (∀ a, (∀ n < total, a ≠ spKey imem offset n) → Memory.byte t.mem a = Memory.byte s.mem a))) ∧
      (q.dst = .pif → q.rows = 1 →
        (∃ t, dmaCopy q s = .ok t ∧ { t with mem := s.mem } = s ∧
          (∀ n < total, total ≤ n + 64 → Memory.byte t.mem (pifKey n) = ram n) ∧
          (∀ a, (∀ n < total, a ≠ pifKey n) → Memory.byte t.mem a = Memory.byte s.mem a))) ∧
      (q.dst = .audio → dmaCopy q s = .ok { s with out.audio := s.out.audio ++ (List.range total).map ram }) ∧
      (∀ c, q.dst = .cart c → dmaCopy q s = .ok s))

/-! ## The whole machine -/

/-- Every step keeps every sparse store in its canonical form: the model's representation (notes/assumptions/23.md and
notes/assumptions/24.md). -/
def Obligations.StepKeepsStoresCanonical : Prop := ∀ s t : State, Canonical s → step s = .next t → Canonical t

/-- Every step keeps the hard-wired bits (R50, R51, R57, R59, R63), kernel mode (R870), the two pipelines (R45, R65) and
the bounds of the counters (R47, R82), and changes no configuration (R9). -/
def Obligations.StepKeepsMachineSane : Prop := ∀ s t : State, Sane s → step s = .next t → Sane t ∧ t.cfg = s.cfg

/-- Every step keeps each busy bit set exactly while its peripheral owns a request, and at most one (R80, R202, R204). -/
def Obligations.StepKeepsBusyBitsTrue : Prop := ∀ s t : State, BusyMatches s → step s = .next t → BusyMatches t

/-- A save state resumes the run (R85): a machine of the same configuration in which `s`'s save state is restored takes
step for step the steps of `s`, refusals too, and appends the same bytes and frames to its own outputs. The snapshot's form,
with the model's phase and count of draws in it, is the model's (notes/assumptions/33.md). -/
def Obligations.SaveStatesResumeTheRun : Prop :=
  ∀ s t : State, t.cfg = s.cfg →
    restore (save s) t = { s with out := t.out } ∧
    (∀ u, step s = .next u → ∃ audio frames,
      u.out = { audio := s.out.audio ++ audio, frames := s.out.frames ++ frames } ∧
      step (restore (save s) t) = .next (restore (save u)
        { t with out := { audio := t.out.audio ++ audio, frames := t.out.frames ++ frames } })) ∧
    (∀ why, step s = .refused why → step (restore (save s) t) = .refused why) ∧
    (∀ f, step s ≠ .fault f)

/-- The state after reset (R900, R901) meets the three invariants and holds the value of every row of R901; the defaults of
R13 are its configuration. Its ROM, all zero (notes/assumptions/3.md), its phase (notes/assumptions/6.md) and its count of
draws (notes/assumptions/5.md) are the model's own. Under every configuration within R903's bounds, reset fails exactly when
the image is too short (R906), and otherwise gives that state but for the parameters (R900, R903, R904): pc, the GPRs,
Status, Config, the size of the buffers, and the boot copy in DMEM with every other byte of memory 0. The three invariants
hold of it too, where COUNT_DIV and TICKS_PER_FRAME are in R13's bounds and STATUS_RESET is kernel mode
(notes/assumptions/32.md, notes/assumptions/37.md). Status bits 19, 21 and 23 stay 0 whatever STATUS_RESET is
(notes/assumptions/27.md). -/
def Obligations.ResetAndBoot : Prop :=
  let r := State.reset
  Canonical r ∧ Sane r ∧ BusyMatches r ∧ boot r.cfg = .next r ∧
  -- the CPU (R42 to R47), CP0 (R50 to R60) and the FPU (R61, R63)
  (∀ i, gpr r i = 0) ∧ r.cpu.hi = 0 ∧ r.cpu.lo = 0 ∧ r.cpu.pc = 0xFFFFFFFFA4000040 ∧ r.cpu.pending = none ∧
  r.cpu.ds = false ∧ r.cpu.llbit = false ∧ r.cpu.countPhase = 0 ∧
  r.cp0 = {
    status := 0x34000000, config := 0x7006E463, cause := 0, epc := 0, badVAddr := 0, errorEpc := 0, count := 0,
    compare := 0, llAddr := 0, watchLo := 0, watchHi := 0 } ∧
  (∀ i, fpr r i = 0) ∧ r.fpu.fcr31 = 0 ∧
  -- the VectorUnit (R64 to R68) and SP's registers (R70, R71)
  (∀ i, sr r i = 0) ∧ r.vu.pc = 0 ∧ r.vu.pending = none ∧ r.vu.ds = false ∧
  (∀ i l, vrLane r i l = 0 ∧ r.vu.acc[l] = 0) ∧ r.vu.vco = 0 ∧ r.vu.vcc = 0 ∧ r.vu.vce = 0 ∧
  r.sp = {
    halt := true, broke := false, intrOnBreak := false, sstep := false, signal := 0, semaphore := false, memAddr := 0,
    dramAddr := 0, rdLen := 0, wrLen := 0 } ∧
  -- the DisplayProcessor (R72 to R74)
  r.rdp.stream = [] ∧ r.rdp.fbWidth = 320 ∧ r.rdp.fbHeight = 240 ∧
  (∀ x y, pixel r x y = 0 ∧ depthAt r x y = 0xFFFFFFFF) ∧ r.rdp.fillColor = 0 ∧
  (∀ op, Store.get 0 r.rdp.dpState op = 0) ∧ r.rdp.dpcStart = 0 ∧ r.rdp.dpcEnd = 0 ∧ r.rdp.dpcCurrent = 0 ∧
  r.rdp.xbus = false ∧
  -- the interrupt controller (R75) and the peripherals' registers (R79)
  r.mi = { intr := 0, mask := 0, initLength := 0, initMode := false, ebusTest := false, rdramReg := false } ∧
  r.vi = {
    control := 0, origin := 0, width := 0, vIntr := 0, burst := 0, vSync := 0, hSync := 0, leap := 0, hStart := 0,
    vStart := 0, vBurst := 0, xScale := 0, yScale := 0 } ∧
  r.ai = { dramAddr := 0, len := 0, control := false, dacrate := 0, bitrate := 0 } ∧
  r.pi = {
    dramAddr := 0, cartAddr := 0, rdLen := 0, wrLen := 0, dom1Lat := 0, dom1Pwd := 0, dom1Pgs := 0, dom1Rls := 0,
    dom2Lat := 0, dom2Pwd := 0, dom2Pgs := 0, dom2Rls := 0 } ∧
  r.ri = {
    mode := 0, config := 0, currentLoad := 0, select := 0, refresh := 0, latency := 0, rError := 0, wError := 0 } ∧
  r.si = { dramAddr := 0, rd64b := 0, wr64b := 0 } ∧
  -- DMA (R80, R81), the clock (R82), the outputs and the marks (R83, R84, R86), the memories (R69, R76, R77)
  r.busy = { pi := false, si := false, ai := false, sp := false } ∧ r.dma = [] ∧
  r.clock = { state := .idle, tick := 0, framePhase := 0, frames := 0, phase := .boundary } ∧
  r.out = { audio := [], frames := [] } ∧ r.refused = none ∧ r.controllerLatch = 0 ∧ r.draws = 0 ∧
  (∀ a, Memory.byte r.mem a = 0) ∧
  -- the defaults of R13
  r.cfg = {
    nonSext32 := .low32, rdramSize := .mib4, instrBudget := 1024, rspBudget := 1024, ticksPerFrame := 100,
    dmaDelayTicks := 1, countDiv := 2, fbWidth := 320, fbHeight := 240, pridValue := 0x00000B22,
    configReset := 0x7006E463, statusReset := 0x34000000, bootPc := 0xFFFFFFFFA4000040, bootCopyLen := 0x1000,
    bootGpr := Vector.replicate 32 0, eretMiClear := .enabled, div0 := .vr4300, fpop := .ieee, fpuUnimpl := .vr4300,
    triDecode := .refuse, triShade := .vertexColour, clearDirective := 0x3E, rom := [], romSize := 0x1000 } ∧
  ∀ c : Config, 1 ≤ c.bootCopyLen → c.bootCopyLen ≤ 4096 →
    ((c.romSize < c.bootCopyLen ∨ c.romSize < 0x40) → boot c = .fault .invalidRomImage) ∧
    (c.bootCopyLen ≤ c.romSize → 0x40 ≤ c.romSize → ∃ t, boot c = .next t ∧
      t.cpu.pc = c.bootPc ∧ (∀ i : Reg, gpr t i = if i = 0 then 0 else c.bootGpr[i.toNat]) ∧
      t.cp0.status = c.statusReset &&& 0xFF57FFFF ∧ t.cp0.config = c.configReset ∧
      t.rdp.fbWidth = c.fbWidth ∧ t.rdp.fbHeight = c.fbHeight ∧ t.cfg = c ∧
      (∀ a, Memory.byte t.mem a =
        if 0x04000000 ≤ a ∧ a < 0x04000000 + c.bootCopyLen then Store.get 0 c.rom (a - 0x04000000) else 0) ∧
      { t with
        cpu.pc := State.reset.cpu.pc
        cpu.gpr := State.reset.cpu.gpr
        cp0.status := State.reset.cp0.status
        cp0.config := State.reset.cp0.config
        rdp.fbWidth := State.reset.rdp.fbWidth
        rdp.fbHeight := State.reset.rdp.fbHeight
        cfg := State.reset.cfg
        mem := State.reset.mem } = State.reset ∧
      Canonical t ∧ BusyMatches t ∧ (1 ≤ c.countDiv → 1 ≤ c.ticksPerFrame → kernelMode t = true → Sane t))
end

