-- ==== Sys2Proof/Laws/State.lean ====
section
/-! SUPPORT. Beside State: what each named update does to each field, one lemma per field, true by `rfl`. -/

namespace Sys2Proof.Machine

set_option Elab.async false

/-! ### setGpr -/

@[simp] theorem setGpr_cpu_gpr (s : State) (i : Reg) (v : Dword) :
    (setGpr s i v).cpu.gpr = Regs.setNonzero s.cpu.gpr i v := rfl
@[simp] theorem setGpr_cpu_hi (s : State) (i : Reg) (v : Dword) : (setGpr s i v).cpu.hi = s.cpu.hi := rfl
@[simp] theorem setGpr_cpu_lo (s : State) (i : Reg) (v : Dword) : (setGpr s i v).cpu.lo = s.cpu.lo := rfl
@[simp] theorem setGpr_cpu_pc (s : State) (i : Reg) (v : Dword) : (setGpr s i v).cpu.pc = s.cpu.pc := rfl
@[simp] theorem setGpr_cpu_pending (s : State) (i : Reg) (v : Dword) : (setGpr s i v).cpu.pending = s.cpu.pending := rfl
@[simp] theorem setGpr_cpu_ds (s : State) (i : Reg) (v : Dword) : (setGpr s i v).cpu.ds = s.cpu.ds := rfl
@[simp] theorem setGpr_cpu_llbit (s : State) (i : Reg) (v : Dword) : (setGpr s i v).cpu.llbit = s.cpu.llbit := rfl
@[simp] theorem setGpr_cpu_countPhase (s : State) (i : Reg) (v : Dword) : (setGpr s i v).cpu.countPhase = s.cpu.countPhase := rfl
@[simp] theorem setGpr_cp0 (s : State) (i : Reg) (v : Dword) : (setGpr s i v).cp0 = s.cp0 := rfl
@[simp] theorem setGpr_fpu (s : State) (i : Reg) (v : Dword) : (setGpr s i v).fpu = s.fpu := rfl
@[simp] theorem setGpr_vu (s : State) (i : Reg) (v : Dword) : (setGpr s i v).vu = s.vu := rfl
@[simp] theorem setGpr_sp (s : State) (i : Reg) (v : Dword) : (setGpr s i v).sp = s.sp := rfl
@[simp] theorem setGpr_rdp (s : State) (i : Reg) (v : Dword) : (setGpr s i v).rdp = s.rdp := rfl
@[simp] theorem setGpr_mi (s : State) (i : Reg) (v : Dword) : (setGpr s i v).mi = s.mi := rfl
@[simp] theorem setGpr_pi (s : State) (i : Reg) (v : Dword) : (setGpr s i v).pi = s.pi := rfl
@[simp] theorem setGpr_si (s : State) (i : Reg) (v : Dword) : (setGpr s i v).si = s.si := rfl
@[simp] theorem setGpr_ai (s : State) (i : Reg) (v : Dword) : (setGpr s i v).ai = s.ai := rfl
@[simp] theorem setGpr_vi (s : State) (i : Reg) (v : Dword) : (setGpr s i v).vi = s.vi := rfl
@[simp] theorem setGpr_ri (s : State) (i : Reg) (v : Dword) : (setGpr s i v).ri = s.ri := rfl
@[simp] theorem setGpr_busy (s : State) (i : Reg) (v : Dword) : (setGpr s i v).busy = s.busy := rfl
@[simp] theorem setGpr_dma (s : State) (i : Reg) (v : Dword) : (setGpr s i v).dma = s.dma := rfl
@[simp] theorem setGpr_clock (s : State) (i : Reg) (v : Dword) : (setGpr s i v).clock = s.clock := rfl
@[simp] theorem setGpr_out (s : State) (i : Reg) (v : Dword) : (setGpr s i v).out = s.out := rfl
@[simp] theorem setGpr_controllerLatch (s : State) (i : Reg) (v : Dword) : (setGpr s i v).controllerLatch = s.controllerLatch := rfl
@[simp] theorem setGpr_refused (s : State) (i : Reg) (v : Dword) : (setGpr s i v).refused = s.refused := rfl
@[simp] theorem setGpr_draws (s : State) (i : Reg) (v : Dword) : (setGpr s i v).draws = s.draws := rfl
@[simp] theorem setGpr_cfg (s : State) (i : Reg) (v : Dword) : (setGpr s i v).cfg = s.cfg := rfl
@[simp] theorem setGpr_mem (s : State) (i : Reg) (v : Dword) : (setGpr s i v).mem = s.mem := rfl

/-! ### setHi -/

@[simp] theorem setHi_cpu_gpr (s : State) (v : Dword) : (setHi s v).cpu.gpr = s.cpu.gpr := rfl
@[simp] theorem setHi_cpu_hi (s : State) (v : Dword) :
    (setHi s v).cpu.hi = v := rfl
@[simp] theorem setHi_cpu_lo (s : State) (v : Dword) : (setHi s v).cpu.lo = s.cpu.lo := rfl
@[simp] theorem setHi_cpu_pc (s : State) (v : Dword) : (setHi s v).cpu.pc = s.cpu.pc := rfl
@[simp] theorem setHi_cpu_pending (s : State) (v : Dword) : (setHi s v).cpu.pending = s.cpu.pending := rfl
@[simp] theorem setHi_cpu_ds (s : State) (v : Dword) : (setHi s v).cpu.ds = s.cpu.ds := rfl
@[simp] theorem setHi_cpu_llbit (s : State) (v : Dword) : (setHi s v).cpu.llbit = s.cpu.llbit := rfl
@[simp] theorem setHi_cpu_countPhase (s : State) (v : Dword) : (setHi s v).cpu.countPhase = s.cpu.countPhase := rfl
@[simp] theorem setHi_cp0 (s : State) (v : Dword) : (setHi s v).cp0 = s.cp0 := rfl
@[simp] theorem setHi_fpu (s : State) (v : Dword) : (setHi s v).fpu = s.fpu := rfl
@[simp] theorem setHi_vu (s : State) (v : Dword) : (setHi s v).vu = s.vu := rfl
@[simp] theorem setHi_sp (s : State) (v : Dword) : (setHi s v).sp = s.sp := rfl
@[simp] theorem setHi_rdp (s : State) (v : Dword) : (setHi s v).rdp = s.rdp := rfl
@[simp] theorem setHi_mi (s : State) (v : Dword) : (setHi s v).mi = s.mi := rfl
@[simp] theorem setHi_pi (s : State) (v : Dword) : (setHi s v).pi = s.pi := rfl
@[simp] theorem setHi_si (s : State) (v : Dword) : (setHi s v).si = s.si := rfl
@[simp] theorem setHi_ai (s : State) (v : Dword) : (setHi s v).ai = s.ai := rfl
@[simp] theorem setHi_vi (s : State) (v : Dword) : (setHi s v).vi = s.vi := rfl
@[simp] theorem setHi_ri (s : State) (v : Dword) : (setHi s v).ri = s.ri := rfl
@[simp] theorem setHi_busy (s : State) (v : Dword) : (setHi s v).busy = s.busy := rfl
@[simp] theorem setHi_dma (s : State) (v : Dword) : (setHi s v).dma = s.dma := rfl
@[simp] theorem setHi_clock (s : State) (v : Dword) : (setHi s v).clock = s.clock := rfl
@[simp] theorem setHi_out (s : State) (v : Dword) : (setHi s v).out = s.out := rfl
@[simp] theorem setHi_controllerLatch (s : State) (v : Dword) : (setHi s v).controllerLatch = s.controllerLatch := rfl
@[simp] theorem setHi_refused (s : State) (v : Dword) : (setHi s v).refused = s.refused := rfl
@[simp] theorem setHi_draws (s : State) (v : Dword) : (setHi s v).draws = s.draws := rfl
@[simp] theorem setHi_cfg (s : State) (v : Dword) : (setHi s v).cfg = s.cfg := rfl
@[simp] theorem setHi_mem (s : State) (v : Dword) : (setHi s v).mem = s.mem := rfl

/-! ### setLo -/

@[simp] theorem setLo_cpu_gpr (s : State) (v : Dword) : (setLo s v).cpu.gpr = s.cpu.gpr := rfl
@[simp] theorem setLo_cpu_hi (s : State) (v : Dword) : (setLo s v).cpu.hi = s.cpu.hi := rfl
@[simp] theorem setLo_cpu_lo (s : State) (v : Dword) :
    (setLo s v).cpu.lo = v := rfl
@[simp] theorem setLo_cpu_pc (s : State) (v : Dword) : (setLo s v).cpu.pc = s.cpu.pc := rfl
@[simp] theorem setLo_cpu_pending (s : State) (v : Dword) : (setLo s v).cpu.pending = s.cpu.pending := rfl
@[simp] theorem setLo_cpu_ds (s : State) (v : Dword) : (setLo s v).cpu.ds = s.cpu.ds := rfl
@[simp] theorem setLo_cpu_llbit (s : State) (v : Dword) : (setLo s v).cpu.llbit = s.cpu.llbit := rfl
@[simp] theorem setLo_cpu_countPhase (s : State) (v : Dword) : (setLo s v).cpu.countPhase = s.cpu.countPhase := rfl
@[simp] theorem setLo_cp0 (s : State) (v : Dword) : (setLo s v).cp0 = s.cp0 := rfl
@[simp] theorem setLo_fpu (s : State) (v : Dword) : (setLo s v).fpu = s.fpu := rfl
@[simp] theorem setLo_vu (s : State) (v : Dword) : (setLo s v).vu = s.vu := rfl
@[simp] theorem setLo_sp (s : State) (v : Dword) : (setLo s v).sp = s.sp := rfl
@[simp] theorem setLo_rdp (s : State) (v : Dword) : (setLo s v).rdp = s.rdp := rfl
@[simp] theorem setLo_mi (s : State) (v : Dword) : (setLo s v).mi = s.mi := rfl
@[simp] theorem setLo_pi (s : State) (v : Dword) : (setLo s v).pi = s.pi := rfl
@[simp] theorem setLo_si (s : State) (v : Dword) : (setLo s v).si = s.si := rfl
@[simp] theorem setLo_ai (s : State) (v : Dword) : (setLo s v).ai = s.ai := rfl
@[simp] theorem setLo_vi (s : State) (v : Dword) : (setLo s v).vi = s.vi := rfl
@[simp] theorem setLo_ri (s : State) (v : Dword) : (setLo s v).ri = s.ri := rfl
@[simp] theorem setLo_busy (s : State) (v : Dword) : (setLo s v).busy = s.busy := rfl
@[simp] theorem setLo_dma (s : State) (v : Dword) : (setLo s v).dma = s.dma := rfl
@[simp] theorem setLo_clock (s : State) (v : Dword) : (setLo s v).clock = s.clock := rfl
@[simp] theorem setLo_out (s : State) (v : Dword) : (setLo s v).out = s.out := rfl
@[simp] theorem setLo_controllerLatch (s : State) (v : Dword) : (setLo s v).controllerLatch = s.controllerLatch := rfl
@[simp] theorem setLo_refused (s : State) (v : Dword) : (setLo s v).refused = s.refused := rfl
@[simp] theorem setLo_draws (s : State) (v : Dword) : (setLo s v).draws = s.draws := rfl
@[simp] theorem setLo_cfg (s : State) (v : Dword) : (setLo s v).cfg = s.cfg := rfl
@[simp] theorem setLo_mem (s : State) (v : Dword) : (setLo s v).mem = s.mem := rfl

/-! ### setLlbit -/

@[simp] theorem setLlbit_cpu_gpr (s : State) (b : Bool) : (setLlbit s b).cpu.gpr = s.cpu.gpr := rfl
@[simp] theorem setLlbit_cpu_hi (s : State) (b : Bool) : (setLlbit s b).cpu.hi = s.cpu.hi := rfl
@[simp] theorem setLlbit_cpu_lo (s : State) (b : Bool) : (setLlbit s b).cpu.lo = s.cpu.lo := rfl
@[simp] theorem setLlbit_cpu_pc (s : State) (b : Bool) : (setLlbit s b).cpu.pc = s.cpu.pc := rfl
@[simp] theorem setLlbit_cpu_pending (s : State) (b : Bool) : (setLlbit s b).cpu.pending = s.cpu.pending := rfl
@[simp] theorem setLlbit_cpu_ds (s : State) (b : Bool) : (setLlbit s b).cpu.ds = s.cpu.ds := rfl
@[simp] theorem setLlbit_cpu_llbit (s : State) (b : Bool) :
    (setLlbit s b).cpu.llbit = b := rfl
@[simp] theorem setLlbit_cpu_countPhase (s : State) (b : Bool) : (setLlbit s b).cpu.countPhase = s.cpu.countPhase := rfl
@[simp] theorem setLlbit_cp0 (s : State) (b : Bool) : (setLlbit s b).cp0 = s.cp0 := rfl
@[simp] theorem setLlbit_fpu (s : State) (b : Bool) : (setLlbit s b).fpu = s.fpu := rfl
@[simp] theorem setLlbit_vu (s : State) (b : Bool) : (setLlbit s b).vu = s.vu := rfl
@[simp] theorem setLlbit_sp (s : State) (b : Bool) : (setLlbit s b).sp = s.sp := rfl
@[simp] theorem setLlbit_rdp (s : State) (b : Bool) : (setLlbit s b).rdp = s.rdp := rfl
@[simp] theorem setLlbit_mi (s : State) (b : Bool) : (setLlbit s b).mi = s.mi := rfl
@[simp] theorem setLlbit_pi (s : State) (b : Bool) : (setLlbit s b).pi = s.pi := rfl
@[simp] theorem setLlbit_si (s : State) (b : Bool) : (setLlbit s b).si = s.si := rfl
@[simp] theorem setLlbit_ai (s : State) (b : Bool) : (setLlbit s b).ai = s.ai := rfl
@[simp] theorem setLlbit_vi (s : State) (b : Bool) : (setLlbit s b).vi = s.vi := rfl
@[simp] theorem setLlbit_ri (s : State) (b : Bool) : (setLlbit s b).ri = s.ri := rfl
@[simp] theorem setLlbit_busy (s : State) (b : Bool) : (setLlbit s b).busy = s.busy := rfl
@[simp] theorem setLlbit_dma (s : State) (b : Bool) : (setLlbit s b).dma = s.dma := rfl
@[simp] theorem setLlbit_clock (s : State) (b : Bool) : (setLlbit s b).clock = s.clock := rfl
@[simp] theorem setLlbit_out (s : State) (b : Bool) : (setLlbit s b).out = s.out := rfl
@[simp] theorem setLlbit_controllerLatch (s : State) (b : Bool) : (setLlbit s b).controllerLatch = s.controllerLatch := rfl
@[simp] theorem setLlbit_refused (s : State) (b : Bool) : (setLlbit s b).refused = s.refused := rfl
@[simp] theorem setLlbit_draws (s : State) (b : Bool) : (setLlbit s b).draws = s.draws := rfl
@[simp] theorem setLlbit_cfg (s : State) (b : Bool) : (setLlbit s b).cfg = s.cfg := rfl
@[simp] theorem setLlbit_mem (s : State) (b : Bool) : (setLlbit s b).mem = s.mem := rfl

/-! ### setFpr -/

@[simp] theorem setFpr_cpu (s : State) (i : Reg) (v : Dword) : (setFpr s i v).cpu = s.cpu := rfl
@[simp] theorem setFpr_cp0 (s : State) (i : Reg) (v : Dword) : (setFpr s i v).cp0 = s.cp0 := rfl
@[simp] theorem setFpr_fpu_fpr (s : State) (i : Reg) (v : Dword) :
    (setFpr s i v).fpu.fpr = Regs.set s.fpu.fpr i v := rfl
@[simp] theorem setFpr_fpu_fcr31 (s : State) (i : Reg) (v : Dword) : (setFpr s i v).fpu.fcr31 = s.fpu.fcr31 := rfl
@[simp] theorem setFpr_vu (s : State) (i : Reg) (v : Dword) : (setFpr s i v).vu = s.vu := rfl
@[simp] theorem setFpr_sp (s : State) (i : Reg) (v : Dword) : (setFpr s i v).sp = s.sp := rfl
@[simp] theorem setFpr_rdp (s : State) (i : Reg) (v : Dword) : (setFpr s i v).rdp = s.rdp := rfl
@[simp] theorem setFpr_mi (s : State) (i : Reg) (v : Dword) : (setFpr s i v).mi = s.mi := rfl
@[simp] theorem setFpr_pi (s : State) (i : Reg) (v : Dword) : (setFpr s i v).pi = s.pi := rfl
@[simp] theorem setFpr_si (s : State) (i : Reg) (v : Dword) : (setFpr s i v).si = s.si := rfl
@[simp] theorem setFpr_ai (s : State) (i : Reg) (v : Dword) : (setFpr s i v).ai = s.ai := rfl
@[simp] theorem setFpr_vi (s : State) (i : Reg) (v : Dword) : (setFpr s i v).vi = s.vi := rfl
@[simp] theorem setFpr_ri (s : State) (i : Reg) (v : Dword) : (setFpr s i v).ri = s.ri := rfl
@[simp] theorem setFpr_busy (s : State) (i : Reg) (v : Dword) : (setFpr s i v).busy = s.busy := rfl
@[simp] theorem setFpr_dma (s : State) (i : Reg) (v : Dword) : (setFpr s i v).dma = s.dma := rfl
@[simp] theorem setFpr_clock (s : State) (i : Reg) (v : Dword) : (setFpr s i v).clock = s.clock := rfl
@[simp] theorem setFpr_out (s : State) (i : Reg) (v : Dword) : (setFpr s i v).out = s.out := rfl
@[simp] theorem setFpr_controllerLatch (s : State) (i : Reg) (v : Dword) : (setFpr s i v).controllerLatch = s.controllerLatch := rfl
@[simp] theorem setFpr_refused (s : State) (i : Reg) (v : Dword) : (setFpr s i v).refused = s.refused := rfl
@[simp] theorem setFpr_draws (s : State) (i : Reg) (v : Dword) : (setFpr s i v).draws = s.draws := rfl
@[simp] theorem setFpr_cfg (s : State) (i : Reg) (v : Dword) : (setFpr s i v).cfg = s.cfg := rfl
@[simp] theorem setFpr_mem (s : State) (i : Reg) (v : Dword) : (setFpr s i v).mem = s.mem := rfl

/-! ### setFcr31 -/

@[simp] theorem setFcr31_cpu (s : State) (v : Word) : (setFcr31 s v).cpu = s.cpu := rfl
@[simp] theorem setFcr31_cp0 (s : State) (v : Word) : (setFcr31 s v).cp0 = s.cp0 := rfl
@[simp] theorem setFcr31_fpu_fpr (s : State) (v : Word) : (setFcr31 s v).fpu.fpr = s.fpu.fpr := rfl
@[simp] theorem setFcr31_fpu_fcr31 (s : State) (v : Word) :
    (setFcr31 s v).fpu.fcr31 = v := rfl
@[simp] theorem setFcr31_vu (s : State) (v : Word) : (setFcr31 s v).vu = s.vu := rfl
@[simp] theorem setFcr31_sp (s : State) (v : Word) : (setFcr31 s v).sp = s.sp := rfl
@[simp] theorem setFcr31_rdp (s : State) (v : Word) : (setFcr31 s v).rdp = s.rdp := rfl
@[simp] theorem setFcr31_mi (s : State) (v : Word) : (setFcr31 s v).mi = s.mi := rfl
@[simp] theorem setFcr31_pi (s : State) (v : Word) : (setFcr31 s v).pi = s.pi := rfl
@[simp] theorem setFcr31_si (s : State) (v : Word) : (setFcr31 s v).si = s.si := rfl
@[simp] theorem setFcr31_ai (s : State) (v : Word) : (setFcr31 s v).ai = s.ai := rfl
@[simp] theorem setFcr31_vi (s : State) (v : Word) : (setFcr31 s v).vi = s.vi := rfl
@[simp] theorem setFcr31_ri (s : State) (v : Word) : (setFcr31 s v).ri = s.ri := rfl
@[simp] theorem setFcr31_busy (s : State) (v : Word) : (setFcr31 s v).busy = s.busy := rfl
@[simp] theorem setFcr31_dma (s : State) (v : Word) : (setFcr31 s v).dma = s.dma := rfl
@[simp] theorem setFcr31_clock (s : State) (v : Word) : (setFcr31 s v).clock = s.clock := rfl
@[simp] theorem setFcr31_out (s : State) (v : Word) : (setFcr31 s v).out = s.out := rfl
@[simp] theorem setFcr31_controllerLatch (s : State) (v : Word) : (setFcr31 s v).controllerLatch = s.controllerLatch := rfl
@[simp] theorem setFcr31_refused (s : State) (v : Word) : (setFcr31 s v).refused = s.refused := rfl
@[simp] theorem setFcr31_draws (s : State) (v : Word) : (setFcr31 s v).draws = s.draws := rfl
@[simp] theorem setFcr31_cfg (s : State) (v : Word) : (setFcr31 s v).cfg = s.cfg := rfl
@[simp] theorem setFcr31_mem (s : State) (v : Word) : (setFcr31 s v).mem = s.mem := rfl

/-! ### setSr -/

@[simp] theorem setSr_cpu (s : State) (i : Reg) (v : Word) : (setSr s i v).cpu = s.cpu := rfl
@[simp] theorem setSr_cp0 (s : State) (i : Reg) (v : Word) : (setSr s i v).cp0 = s.cp0 := rfl
@[simp] theorem setSr_fpu (s : State) (i : Reg) (v : Word) : (setSr s i v).fpu = s.fpu := rfl
@[simp] theorem setSr_vu_sr (s : State) (i : Reg) (v : Word) :
    (setSr s i v).vu.sr = Regs.setNonzero s.vu.sr i v := rfl
@[simp] theorem setSr_vu_pc (s : State) (i : Reg) (v : Word) : (setSr s i v).vu.pc = s.vu.pc := rfl
@[simp] theorem setSr_vu_pending (s : State) (i : Reg) (v : Word) : (setSr s i v).vu.pending = s.vu.pending := rfl
@[simp] theorem setSr_vu_ds (s : State) (i : Reg) (v : Word) : (setSr s i v).vu.ds = s.vu.ds := rfl
@[simp] theorem setSr_vu_vr (s : State) (i : Reg) (v : Word) : (setSr s i v).vu.vr = s.vu.vr := rfl
@[simp] theorem setSr_vu_acc (s : State) (i : Reg) (v : Word) : (setSr s i v).vu.acc = s.vu.acc := rfl
@[simp] theorem setSr_vu_vco (s : State) (i : Reg) (v : Word) : (setSr s i v).vu.vco = s.vu.vco := rfl
@[simp] theorem setSr_vu_vcc (s : State) (i : Reg) (v : Word) : (setSr s i v).vu.vcc = s.vu.vcc := rfl
@[simp] theorem setSr_vu_vce (s : State) (i : Reg) (v : Word) : (setSr s i v).vu.vce = s.vu.vce := rfl
@[simp] theorem setSr_sp (s : State) (i : Reg) (v : Word) : (setSr s i v).sp = s.sp := rfl
@[simp] theorem setSr_rdp (s : State) (i : Reg) (v : Word) : (setSr s i v).rdp = s.rdp := rfl
@[simp] theorem setSr_mi (s : State) (i : Reg) (v : Word) : (setSr s i v).mi = s.mi := rfl
@[simp] theorem setSr_pi (s : State) (i : Reg) (v : Word) : (setSr s i v).pi = s.pi := rfl
@[simp] theorem setSr_si (s : State) (i : Reg) (v : Word) : (setSr s i v).si = s.si := rfl
@[simp] theorem setSr_ai (s : State) (i : Reg) (v : Word) : (setSr s i v).ai = s.ai := rfl
@[simp] theorem setSr_vi (s : State) (i : Reg) (v : Word) : (setSr s i v).vi = s.vi := rfl
@[simp] theorem setSr_ri (s : State) (i : Reg) (v : Word) : (setSr s i v).ri = s.ri := rfl
@[simp] theorem setSr_busy (s : State) (i : Reg) (v : Word) : (setSr s i v).busy = s.busy := rfl
@[simp] theorem setSr_dma (s : State) (i : Reg) (v : Word) : (setSr s i v).dma = s.dma := rfl
@[simp] theorem setSr_clock (s : State) (i : Reg) (v : Word) : (setSr s i v).clock = s.clock := rfl
@[simp] theorem setSr_out (s : State) (i : Reg) (v : Word) : (setSr s i v).out = s.out := rfl
@[simp] theorem setSr_controllerLatch (s : State) (i : Reg) (v : Word) : (setSr s i v).controllerLatch = s.controllerLatch := rfl
@[simp] theorem setSr_refused (s : State) (i : Reg) (v : Word) : (setSr s i v).refused = s.refused := rfl
@[simp] theorem setSr_draws (s : State) (i : Reg) (v : Word) : (setSr s i v).draws = s.draws := rfl
@[simp] theorem setSr_cfg (s : State) (i : Reg) (v : Word) : (setSr s i v).cfg = s.cfg := rfl
@[simp] theorem setSr_mem (s : State) (i : Reg) (v : Word) : (setSr s i v).mem = s.mem := rfl

/-! ### setVr -/

@[simp] theorem setVr_cpu (s : State) (i : Reg) (v : Vector Half 8) : (setVr s i v).cpu = s.cpu := rfl
@[simp] theorem setVr_cp0 (s : State) (i : Reg) (v : Vector Half 8) : (setVr s i v).cp0 = s.cp0 := rfl
@[simp] theorem setVr_fpu (s : State) (i : Reg) (v : Vector Half 8) : (setVr s i v).fpu = s.fpu := rfl
@[simp] theorem setVr_vu_sr (s : State) (i : Reg) (v : Vector Half 8) : (setVr s i v).vu.sr = s.vu.sr := rfl
@[simp] theorem setVr_vu_pc (s : State) (i : Reg) (v : Vector Half 8) : (setVr s i v).vu.pc = s.vu.pc := rfl
@[simp] theorem setVr_vu_pending (s : State) (i : Reg) (v : Vector Half 8) : (setVr s i v).vu.pending = s.vu.pending := rfl
@[simp] theorem setVr_vu_ds (s : State) (i : Reg) (v : Vector Half 8) : (setVr s i v).vu.ds = s.vu.ds := rfl
@[simp] theorem setVr_vu_vr (s : State) (i : Reg) (v : Vector Half 8) :
    (setVr s i v).vu.vr = Regs.set s.vu.vr i v := rfl
@[simp] theorem setVr_vu_acc (s : State) (i : Reg) (v : Vector Half 8) : (setVr s i v).vu.acc = s.vu.acc := rfl
@[simp] theorem setVr_vu_vco (s : State) (i : Reg) (v : Vector Half 8) : (setVr s i v).vu.vco = s.vu.vco := rfl
@[simp] theorem setVr_vu_vcc (s : State) (i : Reg) (v : Vector Half 8) : (setVr s i v).vu.vcc = s.vu.vcc := rfl
@[simp] theorem setVr_vu_vce (s : State) (i : Reg) (v : Vector Half 8) : (setVr s i v).vu.vce = s.vu.vce := rfl
@[simp] theorem setVr_sp (s : State) (i : Reg) (v : Vector Half 8) : (setVr s i v).sp = s.sp := rfl
@[simp] theorem setVr_rdp (s : State) (i : Reg) (v : Vector Half 8) : (setVr s i v).rdp = s.rdp := rfl
@[simp] theorem setVr_mi (s : State) (i : Reg) (v : Vector Half 8) : (setVr s i v).mi = s.mi := rfl
@[simp] theorem setVr_pi (s : State) (i : Reg) (v : Vector Half 8) : (setVr s i v).pi = s.pi := rfl
@[simp] theorem setVr_si (s : State) (i : Reg) (v : Vector Half 8) : (setVr s i v).si = s.si := rfl
@[simp] theorem setVr_ai (s : State) (i : Reg) (v : Vector Half 8) : (setVr s i v).ai = s.ai := rfl
@[simp] theorem setVr_vi (s : State) (i : Reg) (v : Vector Half 8) : (setVr s i v).vi = s.vi := rfl
@[simp] theorem setVr_ri (s : State) (i : Reg) (v : Vector Half 8) : (setVr s i v).ri = s.ri := rfl
@[simp] theorem setVr_busy (s : State) (i : Reg) (v : Vector Half 8) : (setVr s i v).busy = s.busy := rfl
@[simp] theorem setVr_dma (s : State) (i : Reg) (v : Vector Half 8) : (setVr s i v).dma = s.dma := rfl
@[simp] theorem setVr_clock (s : State) (i : Reg) (v : Vector Half 8) : (setVr s i v).clock = s.clock := rfl
@[simp] theorem setVr_out (s : State) (i : Reg) (v : Vector Half 8) : (setVr s i v).out = s.out := rfl
@[simp] theorem setVr_controllerLatch (s : State) (i : Reg) (v : Vector Half 8) : (setVr s i v).controllerLatch = s.controllerLatch := rfl
@[simp] theorem setVr_refused (s : State) (i : Reg) (v : Vector Half 8) : (setVr s i v).refused = s.refused := rfl
@[simp] theorem setVr_draws (s : State) (i : Reg) (v : Vector Half 8) : (setVr s i v).draws = s.draws := rfl
@[simp] theorem setVr_cfg (s : State) (i : Reg) (v : Vector Half 8) : (setVr s i v).cfg = s.cfg := rfl
@[simp] theorem setVr_mem (s : State) (i : Reg) (v : Vector Half 8) : (setVr s i v).mem = s.mem := rfl

/-! ### setStatus -/

@[simp] theorem setStatus_cpu (s : State) (v : Word) : (setStatus s v).cpu = s.cpu := rfl
@[simp] theorem setStatus_cp0_badVAddr (s : State) (v : Word) : (setStatus s v).cp0.badVAddr = s.cp0.badVAddr := rfl
@[simp] theorem setStatus_cp0_count (s : State) (v : Word) : (setStatus s v).cp0.count = s.cp0.count := rfl
@[simp] theorem setStatus_cp0_compare (s : State) (v : Word) : (setStatus s v).cp0.compare = s.cp0.compare := rfl
@[simp] theorem setStatus_cp0_status (s : State) (v : Word) :
    (setStatus s v).cp0.status = v &&& statusMask := rfl
@[simp] theorem setStatus_cp0_cause (s : State) (v : Word) : (setStatus s v).cp0.cause = s.cp0.cause := rfl
@[simp] theorem setStatus_cp0_epc (s : State) (v : Word) : (setStatus s v).cp0.epc = s.cp0.epc := rfl
@[simp] theorem setStatus_cp0_config (s : State) (v : Word) : (setStatus s v).cp0.config = s.cp0.config := rfl
@[simp] theorem setStatus_cp0_llAddr (s : State) (v : Word) : (setStatus s v).cp0.llAddr = s.cp0.llAddr := rfl
@[simp] theorem setStatus_cp0_watchLo (s : State) (v : Word) : (setStatus s v).cp0.watchLo = s.cp0.watchLo := rfl
@[simp] theorem setStatus_cp0_watchHi (s : State) (v : Word) : (setStatus s v).cp0.watchHi = s.cp0.watchHi := rfl
@[simp] theorem setStatus_cp0_errorEpc (s : State) (v : Word) : (setStatus s v).cp0.errorEpc = s.cp0.errorEpc := rfl
@[simp] theorem setStatus_fpu (s : State) (v : Word) : (setStatus s v).fpu = s.fpu := rfl
@[simp] theorem setStatus_vu (s : State) (v : Word) : (setStatus s v).vu = s.vu := rfl
@[simp] theorem setStatus_sp (s : State) (v : Word) : (setStatus s v).sp = s.sp := rfl
@[simp] theorem setStatus_rdp (s : State) (v : Word) : (setStatus s v).rdp = s.rdp := rfl
@[simp] theorem setStatus_mi (s : State) (v : Word) : (setStatus s v).mi = s.mi := rfl
@[simp] theorem setStatus_pi (s : State) (v : Word) : (setStatus s v).pi = s.pi := rfl
@[simp] theorem setStatus_si (s : State) (v : Word) : (setStatus s v).si = s.si := rfl
@[simp] theorem setStatus_ai (s : State) (v : Word) : (setStatus s v).ai = s.ai := rfl
@[simp] theorem setStatus_vi (s : State) (v : Word) : (setStatus s v).vi = s.vi := rfl
@[simp] theorem setStatus_ri (s : State) (v : Word) : (setStatus s v).ri = s.ri := rfl
@[simp] theorem setStatus_busy (s : State) (v : Word) : (setStatus s v).busy = s.busy := rfl
@[simp] theorem setStatus_dma (s : State) (v : Word) : (setStatus s v).dma = s.dma := rfl
@[simp] theorem setStatus_clock (s : State) (v : Word) : (setStatus s v).clock = s.clock := rfl
@[simp] theorem setStatus_out (s : State) (v : Word) : (setStatus s v).out = s.out := rfl
@[simp] theorem setStatus_controllerLatch (s : State) (v : Word) : (setStatus s v).controllerLatch = s.controllerLatch := rfl
@[simp] theorem setStatus_refused (s : State) (v : Word) : (setStatus s v).refused = s.refused := rfl
@[simp] theorem setStatus_draws (s : State) (v : Word) : (setStatus s v).draws = s.draws := rfl
@[simp] theorem setStatus_cfg (s : State) (v : Word) : (setStatus s v).cfg = s.cfg := rfl
@[simp] theorem setStatus_mem (s : State) (v : Word) : (setStatus s v).mem = s.mem := rfl

/-! ### retireSeq -/

@[simp] theorem retireSeq_cpu_gpr (s : State) : (retireSeq s).cpu.gpr = s.cpu.gpr := rfl
@[simp] theorem retireSeq_cpu_hi (s : State) : (retireSeq s).cpu.hi = s.cpu.hi := rfl
@[simp] theorem retireSeq_cpu_lo (s : State) : (retireSeq s).cpu.lo = s.cpu.lo := rfl
@[simp] theorem retireSeq_cpu_pc (s : State) :
    (retireSeq s).cpu.pc = if s.cpu.ds then s.cpu.pending.getD (s.cpu.pc + 4) else s.cpu.pc + 4 := rfl
@[simp] theorem retireSeq_cpu_pending (s : State) :
    (retireSeq s).cpu.pending = none := rfl
@[simp] theorem retireSeq_cpu_ds (s : State) :
    (retireSeq s).cpu.ds = false := rfl
@[simp] theorem retireSeq_cpu_llbit (s : State) : (retireSeq s).cpu.llbit = s.cpu.llbit := rfl
@[simp] theorem retireSeq_cpu_countPhase (s : State) : (retireSeq s).cpu.countPhase = s.cpu.countPhase := rfl
@[simp] theorem retireSeq_cp0 (s : State) : (retireSeq s).cp0 = s.cp0 := rfl
@[simp] theorem retireSeq_fpu (s : State) : (retireSeq s).fpu = s.fpu := rfl
@[simp] theorem retireSeq_vu (s : State) : (retireSeq s).vu = s.vu := rfl
@[simp] theorem retireSeq_sp (s : State) : (retireSeq s).sp = s.sp := rfl
@[simp] theorem retireSeq_rdp (s : State) : (retireSeq s).rdp = s.rdp := rfl
@[simp] theorem retireSeq_mi (s : State) : (retireSeq s).mi = s.mi := rfl
@[simp] theorem retireSeq_pi (s : State) : (retireSeq s).pi = s.pi := rfl
@[simp] theorem retireSeq_si (s : State) : (retireSeq s).si = s.si := rfl
@[simp] theorem retireSeq_ai (s : State) : (retireSeq s).ai = s.ai := rfl
@[simp] theorem retireSeq_vi (s : State) : (retireSeq s).vi = s.vi := rfl
@[simp] theorem retireSeq_ri (s : State) : (retireSeq s).ri = s.ri := rfl
@[simp] theorem retireSeq_busy (s : State) : (retireSeq s).busy = s.busy := rfl
@[simp] theorem retireSeq_dma (s : State) : (retireSeq s).dma = s.dma := rfl
@[simp] theorem retireSeq_clock (s : State) : (retireSeq s).clock = s.clock := rfl
@[simp] theorem retireSeq_out (s : State) : (retireSeq s).out = s.out := rfl
@[simp] theorem retireSeq_controllerLatch (s : State) : (retireSeq s).controllerLatch = s.controllerLatch := rfl
@[simp] theorem retireSeq_refused (s : State) : (retireSeq s).refused = s.refused := rfl
@[simp] theorem retireSeq_draws (s : State) : (retireSeq s).draws = s.draws := rfl
@[simp] theorem retireSeq_cfg (s : State) : (retireSeq s).cfg = s.cfg := rfl
@[simp] theorem retireSeq_mem (s : State) : (retireSeq s).mem = s.mem := rfl

/-! ### retireBranch -/

@[simp] theorem retireBranch_cpu_gpr (taken likely : Bool) (target : Dword) (s : State) : (retireBranch taken target likely s).cpu.gpr = s.cpu.gpr := rfl
@[simp] theorem retireBranch_cpu_hi (taken likely : Bool) (target : Dword) (s : State) : (retireBranch taken target likely s).cpu.hi = s.cpu.hi := rfl
@[simp] theorem retireBranch_cpu_lo (taken likely : Bool) (target : Dword) (s : State) : (retireBranch taken target likely s).cpu.lo = s.cpu.lo := rfl
@[simp] theorem retireBranch_cpu_pc (taken likely : Bool) (target : Dword) (s : State) :
    (retireBranch taken target likely s).cpu.pc = if taken || !likely then s.cpu.pc + 4 else s.cpu.pc + 8 := rfl
@[simp] theorem retireBranch_cpu_pending (taken likely : Bool) (target : Dword) (s : State) :
    (retireBranch taken target likely s).cpu.pending = if taken then some target else none := rfl
@[simp] theorem retireBranch_cpu_ds (taken likely : Bool) (target : Dword) (s : State) :
    (retireBranch taken target likely s).cpu.ds = (taken || !likely) := rfl
@[simp] theorem retireBranch_cpu_llbit (taken likely : Bool) (target : Dword) (s : State) : (retireBranch taken target likely s).cpu.llbit = s.cpu.llbit := rfl
@[simp] theorem retireBranch_cpu_countPhase (taken likely : Bool) (target : Dword) (s : State) : (retireBranch taken target likely s).cpu.countPhase = s.cpu.countPhase := rfl
@[simp] theorem retireBranch_cp0 (taken likely : Bool) (target : Dword) (s : State) : (retireBranch taken target likely s).cp0 = s.cp0 := rfl
@[simp] theorem retireBranch_fpu (taken likely : Bool) (target : Dword) (s : State) : (retireBranch taken target likely s).fpu = s.fpu := rfl
@[simp] theorem retireBranch_vu (taken likely : Bool) (target : Dword) (s : State) : (retireBranch taken target likely s).vu = s.vu := rfl
@[simp] theorem retireBranch_sp (taken likely : Bool) (target : Dword) (s : State) : (retireBranch taken target likely s).sp = s.sp := rfl
@[simp] theorem retireBranch_rdp (taken likely : Bool) (target : Dword) (s : State) : (retireBranch taken target likely s).rdp = s.rdp := rfl
@[simp] theorem retireBranch_mi (taken likely : Bool) (target : Dword) (s : State) : (retireBranch taken target likely s).mi = s.mi := rfl
@[simp] theorem retireBranch_pi (taken likely : Bool) (target : Dword) (s : State) : (retireBranch taken target likely s).pi = s.pi := rfl
@[simp] theorem retireBranch_si (taken likely : Bool) (target : Dword) (s : State) : (retireBranch taken target likely s).si = s.si := rfl
@[simp] theorem retireBranch_ai (taken likely : Bool) (target : Dword) (s : State) : (retireBranch taken target likely s).ai = s.ai := rfl
@[simp] theorem retireBranch_vi (taken likely : Bool) (target : Dword) (s : State) : (retireBranch taken target likely s).vi = s.vi := rfl
@[simp] theorem retireBranch_ri (taken likely : Bool) (target : Dword) (s : State) : (retireBranch taken target likely s).ri = s.ri := rfl
@[simp] theorem retireBranch_busy (taken likely : Bool) (target : Dword) (s : State) : (retireBranch taken target likely s).busy = s.busy := rfl
@[simp] theorem retireBranch_dma (taken likely : Bool) (target : Dword) (s : State) : (retireBranch taken target likely s).dma = s.dma := rfl
@[simp] theorem retireBranch_clock (taken likely : Bool) (target : Dword) (s : State) : (retireBranch taken target likely s).clock = s.clock := rfl
@[simp] theorem retireBranch_out (taken likely : Bool) (target : Dword) (s : State) : (retireBranch taken target likely s).out = s.out := rfl
@[simp] theorem retireBranch_controllerLatch (taken likely : Bool) (target : Dword) (s : State) : (retireBranch taken target likely s).controllerLatch = s.controllerLatch := rfl
@[simp] theorem retireBranch_refused (taken likely : Bool) (target : Dword) (s : State) : (retireBranch taken target likely s).refused = s.refused := rfl
@[simp] theorem retireBranch_draws (taken likely : Bool) (target : Dword) (s : State) : (retireBranch taken target likely s).draws = s.draws := rfl
@[simp] theorem retireBranch_cfg (taken likely : Bool) (target : Dword) (s : State) : (retireBranch taken target likely s).cfg = s.cfg := rfl
@[simp] theorem retireBranch_mem (taken likely : Bool) (target : Dword) (s : State) : (retireBranch taken target likely s).mem = s.mem := rfl

/-! ### retireEret -/

@[simp] theorem retireEret_cpu_gpr (newpc : Dword) (s : State) : (retireEret newpc s).cpu.gpr = s.cpu.gpr := rfl
@[simp] theorem retireEret_cpu_hi (newpc : Dword) (s : State) : (retireEret newpc s).cpu.hi = s.cpu.hi := rfl
@[simp] theorem retireEret_cpu_lo (newpc : Dword) (s : State) : (retireEret newpc s).cpu.lo = s.cpu.lo := rfl
@[simp] theorem retireEret_cpu_pc (newpc : Dword) (s : State) :
    (retireEret newpc s).cpu.pc = newpc := rfl
@[simp] theorem retireEret_cpu_pending (newpc : Dword) (s : State) :
    (retireEret newpc s).cpu.pending = none := rfl
@[simp] theorem retireEret_cpu_ds (newpc : Dword) (s : State) :
    (retireEret newpc s).cpu.ds = false := rfl
@[simp] theorem retireEret_cpu_llbit (newpc : Dword) (s : State) : (retireEret newpc s).cpu.llbit = s.cpu.llbit := rfl
@[simp] theorem retireEret_cpu_countPhase (newpc : Dword) (s : State) : (retireEret newpc s).cpu.countPhase = s.cpu.countPhase := rfl
@[simp] theorem retireEret_cp0 (newpc : Dword) (s : State) : (retireEret newpc s).cp0 = s.cp0 := rfl
@[simp] theorem retireEret_fpu (newpc : Dword) (s : State) : (retireEret newpc s).fpu = s.fpu := rfl
@[simp] theorem retireEret_vu (newpc : Dword) (s : State) : (retireEret newpc s).vu = s.vu := rfl
@[simp] theorem retireEret_sp (newpc : Dword) (s : State) : (retireEret newpc s).sp = s.sp := rfl
@[simp] theorem retireEret_rdp (newpc : Dword) (s : State) : (retireEret newpc s).rdp = s.rdp := rfl
@[simp] theorem retireEret_mi (newpc : Dword) (s : State) : (retireEret newpc s).mi = s.mi := rfl
@[simp] theorem retireEret_pi (newpc : Dword) (s : State) : (retireEret newpc s).pi = s.pi := rfl
@[simp] theorem retireEret_si (newpc : Dword) (s : State) : (retireEret newpc s).si = s.si := rfl
@[simp] theorem retireEret_ai (newpc : Dword) (s : State) : (retireEret newpc s).ai = s.ai := rfl
@[simp] theorem retireEret_vi (newpc : Dword) (s : State) : (retireEret newpc s).vi = s.vi := rfl
@[simp] theorem retireEret_ri (newpc : Dword) (s : State) : (retireEret newpc s).ri = s.ri := rfl
@[simp] theorem retireEret_busy (newpc : Dword) (s : State) : (retireEret newpc s).busy = s.busy := rfl
@[simp] theorem retireEret_dma (newpc : Dword) (s : State) : (retireEret newpc s).dma = s.dma := rfl
@[simp] theorem retireEret_clock (newpc : Dword) (s : State) : (retireEret newpc s).clock = s.clock := rfl
@[simp] theorem retireEret_out (newpc : Dword) (s : State) : (retireEret newpc s).out = s.out := rfl
@[simp] theorem retireEret_controllerLatch (newpc : Dword) (s : State) : (retireEret newpc s).controllerLatch = s.controllerLatch := rfl
@[simp] theorem retireEret_refused (newpc : Dword) (s : State) : (retireEret newpc s).refused = s.refused := rfl
@[simp] theorem retireEret_draws (newpc : Dword) (s : State) : (retireEret newpc s).draws = s.draws := rfl
@[simp] theorem retireEret_cfg (newpc : Dword) (s : State) : (retireEret newpc s).cfg = s.cfg := rfl
@[simp] theorem retireEret_mem (newpc : Dword) (s : State) : (retireEret newpc s).mem = s.mem := rfl

/-! ### enter -/

@[simp] theorem enter_cpu_gpr (e : Exception) (slot : Bool) (s : State) : (enter e slot s).cpu.gpr = s.cpu.gpr := rfl
@[simp] theorem enter_cpu_hi (e : Exception) (slot : Bool) (s : State) : (enter e slot s).cpu.hi = s.cpu.hi := rfl
@[simp] theorem enter_cpu_lo (e : Exception) (slot : Bool) (s : State) : (enter e slot s).cpu.lo = s.cpu.lo := rfl
@[simp] theorem enter_cpu_pc (e : Exception) (slot : Bool) (s : State) :
    (enter e slot s).cpu.pc = vector s := rfl
@[simp] theorem enter_cpu_pending (e : Exception) (slot : Bool) (s : State) :
    (enter e slot s).cpu.pending = none := rfl
@[simp] theorem enter_cpu_ds (e : Exception) (slot : Bool) (s : State) :
    (enter e slot s).cpu.ds = false := rfl
@[simp] theorem enter_cpu_llbit (e : Exception) (slot : Bool) (s : State) : (enter e slot s).cpu.llbit = s.cpu.llbit := rfl
@[simp] theorem enter_cpu_countPhase (e : Exception) (slot : Bool) (s : State) : (enter e slot s).cpu.countPhase = s.cpu.countPhase := rfl
@[simp] theorem enter_cp0_badVAddr (e : Exception) (slot : Bool) (s : State) :
    (enter e slot s).cp0.badVAddr = badVAddrAfterEntry e s := rfl
@[simp] theorem enter_cp0_count (e : Exception) (slot : Bool) (s : State) : (enter e slot s).cp0.count = s.cp0.count := rfl
@[simp] theorem enter_cp0_compare (e : Exception) (slot : Bool) (s : State) : (enter e slot s).cp0.compare = s.cp0.compare := rfl
@[simp] theorem enter_cp0_status (e : Exception) (slot : Bool) (s : State) :
    (enter e slot s).cp0.status = s.cp0.status ||| 2 := rfl
@[simp] theorem enter_cp0_cause (e : Exception) (slot : Bool) (s : State) :
    (enter e slot s).cp0.cause = causeAfterEntry e slot s := rfl
@[simp] theorem enter_cp0_epc (e : Exception) (slot : Bool) (s : State) :
    (enter e slot s).cp0.epc = epcAfterEntry slot s := rfl
@[simp] theorem enter_cp0_config (e : Exception) (slot : Bool) (s : State) : (enter e slot s).cp0.config = s.cp0.config := rfl
@[simp] theorem enter_cp0_llAddr (e : Exception) (slot : Bool) (s : State) : (enter e slot s).cp0.llAddr = s.cp0.llAddr := rfl
@[simp] theorem enter_cp0_watchLo (e : Exception) (slot : Bool) (s : State) : (enter e slot s).cp0.watchLo = s.cp0.watchLo := rfl
@[simp] theorem enter_cp0_watchHi (e : Exception) (slot : Bool) (s : State) : (enter e slot s).cp0.watchHi = s.cp0.watchHi := rfl
@[simp] theorem enter_cp0_errorEpc (e : Exception) (slot : Bool) (s : State) : (enter e slot s).cp0.errorEpc = s.cp0.errorEpc := rfl
@[simp] theorem enter_fpu (e : Exception) (slot : Bool) (s : State) : (enter e slot s).fpu = s.fpu := rfl
@[simp] theorem enter_vu (e : Exception) (slot : Bool) (s : State) : (enter e slot s).vu = s.vu := rfl
@[simp] theorem enter_sp (e : Exception) (slot : Bool) (s : State) : (enter e slot s).sp = s.sp := rfl
@[simp] theorem enter_rdp (e : Exception) (slot : Bool) (s : State) : (enter e slot s).rdp = s.rdp := rfl
@[simp] theorem enter_mi (e : Exception) (slot : Bool) (s : State) : (enter e slot s).mi = s.mi := rfl
@[simp] theorem enter_pi (e : Exception) (slot : Bool) (s : State) : (enter e slot s).pi = s.pi := rfl
@[simp] theorem enter_si (e : Exception) (slot : Bool) (s : State) : (enter e slot s).si = s.si := rfl
@[simp] theorem enter_ai (e : Exception) (slot : Bool) (s : State) : (enter e slot s).ai = s.ai := rfl
@[simp] theorem enter_vi (e : Exception) (slot : Bool) (s : State) : (enter e slot s).vi = s.vi := rfl
@[simp] theorem enter_ri (e : Exception) (slot : Bool) (s : State) : (enter e slot s).ri = s.ri := rfl
@[simp] theorem enter_busy (e : Exception) (slot : Bool) (s : State) : (enter e slot s).busy = s.busy := rfl
@[simp] theorem enter_dma (e : Exception) (slot : Bool) (s : State) : (enter e slot s).dma = s.dma := rfl
@[simp] theorem enter_clock (e : Exception) (slot : Bool) (s : State) : (enter e slot s).clock = s.clock := rfl
@[simp] theorem enter_out (e : Exception) (slot : Bool) (s : State) : (enter e slot s).out = s.out := rfl
@[simp] theorem enter_controllerLatch (e : Exception) (slot : Bool) (s : State) : (enter e slot s).controllerLatch = s.controllerLatch := rfl
@[simp] theorem enter_refused (e : Exception) (slot : Bool) (s : State) : (enter e slot s).refused = s.refused := rfl
@[simp] theorem enter_draws (e : Exception) (slot : Bool) (s : State) : (enter e slot s).draws = s.draws := rfl
@[simp] theorem enter_cfg (e : Exception) (slot : Bool) (s : State) : (enter e slot s).cfg = s.cfg := rfl
@[simp] theorem enter_mem (e : Exception) (slot : Bool) (s : State) : (enter e slot s).mem = s.mem := rfl

/-! ### miRaise -/

@[simp] theorem miRaise_cpu (s : State) (q : MiSource) : (miRaise s q).cpu = s.cpu := rfl
@[simp] theorem miRaise_cp0 (s : State) (q : MiSource) : (miRaise s q).cp0 = s.cp0 := rfl
@[simp] theorem miRaise_fpu (s : State) (q : MiSource) : (miRaise s q).fpu = s.fpu := rfl
@[simp] theorem miRaise_vu (s : State) (q : MiSource) : (miRaise s q).vu = s.vu := rfl
@[simp] theorem miRaise_sp (s : State) (q : MiSource) : (miRaise s q).sp = s.sp := rfl
@[simp] theorem miRaise_rdp (s : State) (q : MiSource) : (miRaise s q).rdp = s.rdp := rfl
@[simp] theorem miRaise_mi_intr (s : State) (q : MiSource) :
    (miRaise s q).mi.intr = setBit s.mi.intr (miBit q) true := rfl
@[simp] theorem miRaise_mi_mask (s : State) (q : MiSource) : (miRaise s q).mi.mask = s.mi.mask := rfl
@[simp] theorem miRaise_mi_initLength (s : State) (q : MiSource) : (miRaise s q).mi.initLength = s.mi.initLength := rfl
@[simp] theorem miRaise_mi_initMode (s : State) (q : MiSource) : (miRaise s q).mi.initMode = s.mi.initMode := rfl
@[simp] theorem miRaise_mi_ebusTest (s : State) (q : MiSource) : (miRaise s q).mi.ebusTest = s.mi.ebusTest := rfl
@[simp] theorem miRaise_mi_rdramReg (s : State) (q : MiSource) : (miRaise s q).mi.rdramReg = s.mi.rdramReg := rfl
@[simp] theorem miRaise_pi (s : State) (q : MiSource) : (miRaise s q).pi = s.pi := rfl
@[simp] theorem miRaise_si (s : State) (q : MiSource) : (miRaise s q).si = s.si := rfl
@[simp] theorem miRaise_ai (s : State) (q : MiSource) : (miRaise s q).ai = s.ai := rfl
@[simp] theorem miRaise_vi (s : State) (q : MiSource) : (miRaise s q).vi = s.vi := rfl
@[simp] theorem miRaise_ri (s : State) (q : MiSource) : (miRaise s q).ri = s.ri := rfl
@[simp] theorem miRaise_busy (s : State) (q : MiSource) : (miRaise s q).busy = s.busy := rfl
@[simp] theorem miRaise_dma (s : State) (q : MiSource) : (miRaise s q).dma = s.dma := rfl
@[simp] theorem miRaise_clock (s : State) (q : MiSource) : (miRaise s q).clock = s.clock := rfl
@[simp] theorem miRaise_out (s : State) (q : MiSource) : (miRaise s q).out = s.out := rfl
@[simp] theorem miRaise_controllerLatch (s : State) (q : MiSource) : (miRaise s q).controllerLatch = s.controllerLatch := rfl
@[simp] theorem miRaise_refused (s : State) (q : MiSource) : (miRaise s q).refused = s.refused := rfl
@[simp] theorem miRaise_draws (s : State) (q : MiSource) : (miRaise s q).draws = s.draws := rfl
@[simp] theorem miRaise_cfg (s : State) (q : MiSource) : (miRaise s q).cfg = s.cfg := rfl
@[simp] theorem miRaise_mem (s : State) (q : MiSource) : (miRaise s q).mem = s.mem := rfl

/-! ### miAck -/

@[simp] theorem miAck_cpu (s : State) (q : MiSource) : (miAck s q).cpu = s.cpu := rfl
@[simp] theorem miAck_cp0 (s : State) (q : MiSource) : (miAck s q).cp0 = s.cp0 := rfl
@[simp] theorem miAck_fpu (s : State) (q : MiSource) : (miAck s q).fpu = s.fpu := rfl
@[simp] theorem miAck_vu (s : State) (q : MiSource) : (miAck s q).vu = s.vu := rfl
@[simp] theorem miAck_sp (s : State) (q : MiSource) : (miAck s q).sp = s.sp := rfl
@[simp] theorem miAck_rdp (s : State) (q : MiSource) : (miAck s q).rdp = s.rdp := rfl
@[simp] theorem miAck_mi_intr (s : State) (q : MiSource) :
    (miAck s q).mi.intr = setBit s.mi.intr (miBit q) false := rfl
@[simp] theorem miAck_mi_mask (s : State) (q : MiSource) : (miAck s q).mi.mask = s.mi.mask := rfl
@[simp] theorem miAck_mi_initLength (s : State) (q : MiSource) : (miAck s q).mi.initLength = s.mi.initLength := rfl
@[simp] theorem miAck_mi_initMode (s : State) (q : MiSource) : (miAck s q).mi.initMode = s.mi.initMode := rfl
@[simp] theorem miAck_mi_ebusTest (s : State) (q : MiSource) : (miAck s q).mi.ebusTest = s.mi.ebusTest := rfl
@[simp] theorem miAck_mi_rdramReg (s : State) (q : MiSource) : (miAck s q).mi.rdramReg = s.mi.rdramReg := rfl
@[simp] theorem miAck_pi (s : State) (q : MiSource) : (miAck s q).pi = s.pi := rfl
@[simp] theorem miAck_si (s : State) (q : MiSource) : (miAck s q).si = s.si := rfl
@[simp] theorem miAck_ai (s : State) (q : MiSource) : (miAck s q).ai = s.ai := rfl
@[simp] theorem miAck_vi (s : State) (q : MiSource) : (miAck s q).vi = s.vi := rfl
@[simp] theorem miAck_ri (s : State) (q : MiSource) : (miAck s q).ri = s.ri := rfl
@[simp] theorem miAck_busy (s : State) (q : MiSource) : (miAck s q).busy = s.busy := rfl
@[simp] theorem miAck_dma (s : State) (q : MiSource) : (miAck s q).dma = s.dma := rfl
@[simp] theorem miAck_clock (s : State) (q : MiSource) : (miAck s q).clock = s.clock := rfl
@[simp] theorem miAck_out (s : State) (q : MiSource) : (miAck s q).out = s.out := rfl
@[simp] theorem miAck_controllerLatch (s : State) (q : MiSource) : (miAck s q).controllerLatch = s.controllerLatch := rfl
@[simp] theorem miAck_refused (s : State) (q : MiSource) : (miAck s q).refused = s.refused := rfl
@[simp] theorem miAck_draws (s : State) (q : MiSource) : (miAck s q).draws = s.draws := rfl
@[simp] theorem miAck_cfg (s : State) (q : MiSource) : (miAck s q).cfg = s.cfg := rfl
@[simp] theorem miAck_mem (s : State) (q : MiSource) : (miAck s q).mem = s.mem := rfl

/-! ### eretClearMi -/

@[simp] theorem eretClearMi_cpu (s : State) : (eretClearMi s).cpu = s.cpu := rfl
@[simp] theorem eretClearMi_cp0 (s : State) : (eretClearMi s).cp0 = s.cp0 := rfl
@[simp] theorem eretClearMi_fpu (s : State) : (eretClearMi s).fpu = s.fpu := rfl
@[simp] theorem eretClearMi_vu (s : State) : (eretClearMi s).vu = s.vu := rfl
@[simp] theorem eretClearMi_sp (s : State) : (eretClearMi s).sp = s.sp := rfl
@[simp] theorem eretClearMi_rdp (s : State) : (eretClearMi s).rdp = s.rdp := rfl
@[simp] theorem eretClearMi_mi_mask (s : State) : (eretClearMi s).mi.mask = s.mi.mask := rfl
@[simp] theorem eretClearMi_mi_initLength (s : State) : (eretClearMi s).mi.initLength = s.mi.initLength := rfl
@[simp] theorem eretClearMi_mi_initMode (s : State) : (eretClearMi s).mi.initMode = s.mi.initMode := rfl
@[simp] theorem eretClearMi_mi_ebusTest (s : State) : (eretClearMi s).mi.ebusTest = s.mi.ebusTest := rfl
@[simp] theorem eretClearMi_mi_rdramReg (s : State) : (eretClearMi s).mi.rdramReg = s.mi.rdramReg := rfl
@[simp] theorem eretClearMi_pi (s : State) : (eretClearMi s).pi = s.pi := rfl
@[simp] theorem eretClearMi_si (s : State) : (eretClearMi s).si = s.si := rfl
@[simp] theorem eretClearMi_ai (s : State) : (eretClearMi s).ai = s.ai := rfl
@[simp] theorem eretClearMi_vi (s : State) : (eretClearMi s).vi = s.vi := rfl
@[simp] theorem eretClearMi_ri (s : State) : (eretClearMi s).ri = s.ri := rfl
@[simp] theorem eretClearMi_busy (s : State) : (eretClearMi s).busy = s.busy := rfl
@[simp] theorem eretClearMi_dma (s : State) : (eretClearMi s).dma = s.dma := rfl
@[simp] theorem eretClearMi_clock (s : State) : (eretClearMi s).clock = s.clock := rfl
@[simp] theorem eretClearMi_out (s : State) : (eretClearMi s).out = s.out := rfl
@[simp] theorem eretClearMi_controllerLatch (s : State) : (eretClearMi s).controllerLatch = s.controllerLatch := rfl
@[simp] theorem eretClearMi_refused (s : State) : (eretClearMi s).refused = s.refused := rfl
@[simp] theorem eretClearMi_draws (s : State) : (eretClearMi s).draws = s.draws := rfl
@[simp] theorem eretClearMi_cfg (s : State) : (eretClearMi s).cfg = s.cfg := rfl
@[simp] theorem eretClearMi_mem (s : State) : (eretClearMi s).mem = s.mem := rfl

/-! ### vuRetireSeq -/

@[simp] theorem vuRetireSeq_cpu (s : State) : (vuRetireSeq s).cpu = s.cpu := rfl
@[simp] theorem vuRetireSeq_cp0 (s : State) : (vuRetireSeq s).cp0 = s.cp0 := rfl
@[simp] theorem vuRetireSeq_fpu (s : State) : (vuRetireSeq s).fpu = s.fpu := rfl
@[simp] theorem vuRetireSeq_vu_sr (s : State) : (vuRetireSeq s).vu.sr = s.vu.sr := rfl
@[simp] theorem vuRetireSeq_vu_pc (s : State) :
    (vuRetireSeq s).vu.pc = if s.vu.ds then s.vu.pending.getD (s.vu.pc + 4) else s.vu.pc + 4 := rfl
@[simp] theorem vuRetireSeq_vu_pending (s : State) :
    (vuRetireSeq s).vu.pending = none := rfl
@[simp] theorem vuRetireSeq_vu_ds (s : State) :
    (vuRetireSeq s).vu.ds = false := rfl
@[simp] theorem vuRetireSeq_vu_vr (s : State) : (vuRetireSeq s).vu.vr = s.vu.vr := rfl
@[simp] theorem vuRetireSeq_vu_acc (s : State) : (vuRetireSeq s).vu.acc = s.vu.acc := rfl
@[simp] theorem vuRetireSeq_vu_vco (s : State) : (vuRetireSeq s).vu.vco = s.vu.vco := rfl
@[simp] theorem vuRetireSeq_vu_vcc (s : State) : (vuRetireSeq s).vu.vcc = s.vu.vcc := rfl
@[simp] theorem vuRetireSeq_vu_vce (s : State) : (vuRetireSeq s).vu.vce = s.vu.vce := rfl
@[simp] theorem vuRetireSeq_sp (s : State) : (vuRetireSeq s).sp = s.sp := rfl
@[simp] theorem vuRetireSeq_rdp (s : State) : (vuRetireSeq s).rdp = s.rdp := rfl
@[simp] theorem vuRetireSeq_mi (s : State) : (vuRetireSeq s).mi = s.mi := rfl
@[simp] theorem vuRetireSeq_pi (s : State) : (vuRetireSeq s).pi = s.pi := rfl
@[simp] theorem vuRetireSeq_si (s : State) : (vuRetireSeq s).si = s.si := rfl
@[simp] theorem vuRetireSeq_ai (s : State) : (vuRetireSeq s).ai = s.ai := rfl
@[simp] theorem vuRetireSeq_vi (s : State) : (vuRetireSeq s).vi = s.vi := rfl
@[simp] theorem vuRetireSeq_ri (s : State) : (vuRetireSeq s).ri = s.ri := rfl
@[simp] theorem vuRetireSeq_busy (s : State) : (vuRetireSeq s).busy = s.busy := rfl
@[simp] theorem vuRetireSeq_dma (s : State) : (vuRetireSeq s).dma = s.dma := rfl
@[simp] theorem vuRetireSeq_clock (s : State) : (vuRetireSeq s).clock = s.clock := rfl
@[simp] theorem vuRetireSeq_out (s : State) : (vuRetireSeq s).out = s.out := rfl
@[simp] theorem vuRetireSeq_controllerLatch (s : State) : (vuRetireSeq s).controllerLatch = s.controllerLatch := rfl
@[simp] theorem vuRetireSeq_refused (s : State) : (vuRetireSeq s).refused = s.refused := rfl
@[simp] theorem vuRetireSeq_draws (s : State) : (vuRetireSeq s).draws = s.draws := rfl
@[simp] theorem vuRetireSeq_cfg (s : State) : (vuRetireSeq s).cfg = s.cfg := rfl
@[simp] theorem vuRetireSeq_mem (s : State) : (vuRetireSeq s).mem = s.mem := rfl

/-! ### vuRetireBranch -/

@[simp] theorem vuRetireBranch_cpu (taken : Bool) (target : BitVec 12) (s : State) : (vuRetireBranch taken target s).cpu = s.cpu := rfl
@[simp] theorem vuRetireBranch_cp0 (taken : Bool) (target : BitVec 12) (s : State) : (vuRetireBranch taken target s).cp0 = s.cp0 := rfl
@[simp] theorem vuRetireBranch_fpu (taken : Bool) (target : BitVec 12) (s : State) : (vuRetireBranch taken target s).fpu = s.fpu := rfl
@[simp] theorem vuRetireBranch_vu_sr (taken : Bool) (target : BitVec 12) (s : State) : (vuRetireBranch taken target s).vu.sr = s.vu.sr := rfl
@[simp] theorem vuRetireBranch_vu_pc (taken : Bool) (target : BitVec 12) (s : State) :
    (vuRetireBranch taken target s).vu.pc = s.vu.pc + 4 := rfl
@[simp] theorem vuRetireBranch_vu_pending (taken : Bool) (target : BitVec 12) (s : State) :
    (vuRetireBranch taken target s).vu.pending = if taken then some target else none := rfl
@[simp] theorem vuRetireBranch_vu_ds (taken : Bool) (target : BitVec 12) (s : State) :
    (vuRetireBranch taken target s).vu.ds = true := rfl
@[simp] theorem vuRetireBranch_vu_vr (taken : Bool) (target : BitVec 12) (s : State) : (vuRetireBranch taken target s).vu.vr = s.vu.vr := rfl
@[simp] theorem vuRetireBranch_vu_acc (taken : Bool) (target : BitVec 12) (s : State) : (vuRetireBranch taken target s).vu.acc = s.vu.acc := rfl
@[simp] theorem vuRetireBranch_vu_vco (taken : Bool) (target : BitVec 12) (s : State) : (vuRetireBranch taken target s).vu.vco = s.vu.vco := rfl
@[simp] theorem vuRetireBranch_vu_vcc (taken : Bool) (target : BitVec 12) (s : State) : (vuRetireBranch taken target s).vu.vcc = s.vu.vcc := rfl
@[simp] theorem vuRetireBranch_vu_vce (taken : Bool) (target : BitVec 12) (s : State) : (vuRetireBranch taken target s).vu.vce = s.vu.vce := rfl
@[simp] theorem vuRetireBranch_sp (taken : Bool) (target : BitVec 12) (s : State) : (vuRetireBranch taken target s).sp = s.sp := rfl
@[simp] theorem vuRetireBranch_rdp (taken : Bool) (target : BitVec 12) (s : State) : (vuRetireBranch taken target s).rdp = s.rdp := rfl
@[simp] theorem vuRetireBranch_mi (taken : Bool) (target : BitVec 12) (s : State) : (vuRetireBranch taken target s).mi = s.mi := rfl
@[simp] theorem vuRetireBranch_pi (taken : Bool) (target : BitVec 12) (s : State) : (vuRetireBranch taken target s).pi = s.pi := rfl
@[simp] theorem vuRetireBranch_si (taken : Bool) (target : BitVec 12) (s : State) : (vuRetireBranch taken target s).si = s.si := rfl
@[simp] theorem vuRetireBranch_ai (taken : Bool) (target : BitVec 12) (s : State) : (vuRetireBranch taken target s).ai = s.ai := rfl
@[simp] theorem vuRetireBranch_vi (taken : Bool) (target : BitVec 12) (s : State) : (vuRetireBranch taken target s).vi = s.vi := rfl
@[simp] theorem vuRetireBranch_ri (taken : Bool) (target : BitVec 12) (s : State) : (vuRetireBranch taken target s).ri = s.ri := rfl
@[simp] theorem vuRetireBranch_busy (taken : Bool) (target : BitVec 12) (s : State) : (vuRetireBranch taken target s).busy = s.busy := rfl
@[simp] theorem vuRetireBranch_dma (taken : Bool) (target : BitVec 12) (s : State) : (vuRetireBranch taken target s).dma = s.dma := rfl
@[simp] theorem vuRetireBranch_clock (taken : Bool) (target : BitVec 12) (s : State) : (vuRetireBranch taken target s).clock = s.clock := rfl
@[simp] theorem vuRetireBranch_out (taken : Bool) (target : BitVec 12) (s : State) : (vuRetireBranch taken target s).out = s.out := rfl
@[simp] theorem vuRetireBranch_controllerLatch (taken : Bool) (target : BitVec 12) (s : State) : (vuRetireBranch taken target s).controllerLatch = s.controllerLatch := rfl
@[simp] theorem vuRetireBranch_refused (taken : Bool) (target : BitVec 12) (s : State) : (vuRetireBranch taken target s).refused = s.refused := rfl
@[simp] theorem vuRetireBranch_draws (taken : Bool) (target : BitVec 12) (s : State) : (vuRetireBranch taken target s).draws = s.draws := rfl
@[simp] theorem vuRetireBranch_cfg (taken : Bool) (target : BitVec 12) (s : State) : (vuRetireBranch taken target s).cfg = s.cfg := rfl
@[simp] theorem vuRetireBranch_mem (taken : Bool) (target : BitVec 12) (s : State) : (vuRetireBranch taken target s).mem = s.mem := rfl

/-! ### setPhase -/

@[simp] theorem setPhase_cpu (p : Phase) (s : State) : (setPhase p s).cpu = s.cpu := rfl
@[simp] theorem setPhase_cp0 (p : Phase) (s : State) : (setPhase p s).cp0 = s.cp0 := rfl
@[simp] theorem setPhase_fpu (p : Phase) (s : State) : (setPhase p s).fpu = s.fpu := rfl
@[simp] theorem setPhase_vu (p : Phase) (s : State) : (setPhase p s).vu = s.vu := rfl
@[simp] theorem setPhase_sp (p : Phase) (s : State) : (setPhase p s).sp = s.sp := rfl
@[simp] theorem setPhase_rdp (p : Phase) (s : State) : (setPhase p s).rdp = s.rdp := rfl
@[simp] theorem setPhase_mi (p : Phase) (s : State) : (setPhase p s).mi = s.mi := rfl
@[simp] theorem setPhase_pi (p : Phase) (s : State) : (setPhase p s).pi = s.pi := rfl
@[simp] theorem setPhase_si (p : Phase) (s : State) : (setPhase p s).si = s.si := rfl
@[simp] theorem setPhase_ai (p : Phase) (s : State) : (setPhase p s).ai = s.ai := rfl
@[simp] theorem setPhase_vi (p : Phase) (s : State) : (setPhase p s).vi = s.vi := rfl
@[simp] theorem setPhase_ri (p : Phase) (s : State) : (setPhase p s).ri = s.ri := rfl
@[simp] theorem setPhase_busy (p : Phase) (s : State) : (setPhase p s).busy = s.busy := rfl
@[simp] theorem setPhase_dma (p : Phase) (s : State) : (setPhase p s).dma = s.dma := rfl
@[simp] theorem setPhase_clock_state (p : Phase) (s : State) : (setPhase p s).clock.state = s.clock.state := rfl
@[simp] theorem setPhase_clock_tick (p : Phase) (s : State) : (setPhase p s).clock.tick = s.clock.tick := rfl
@[simp] theorem setPhase_clock_framePhase (p : Phase) (s : State) : (setPhase p s).clock.framePhase = s.clock.framePhase := rfl
@[simp] theorem setPhase_clock_frames (p : Phase) (s : State) : (setPhase p s).clock.frames = s.clock.frames := rfl
@[simp] theorem setPhase_clock_phase (p : Phase) (s : State) :
    (setPhase p s).clock.phase = p := rfl
@[simp] theorem setPhase_out (p : Phase) (s : State) : (setPhase p s).out = s.out := rfl
@[simp] theorem setPhase_controllerLatch (p : Phase) (s : State) : (setPhase p s).controllerLatch = s.controllerLatch := rfl
@[simp] theorem setPhase_refused (p : Phase) (s : State) : (setPhase p s).refused = s.refused := rfl
@[simp] theorem setPhase_draws (p : Phase) (s : State) : (setPhase p s).draws = s.draws := rfl
@[simp] theorem setPhase_cfg (p : Phase) (s : State) : (setPhase p s).cfg = s.cfg := rfl
@[simp] theorem setPhase_mem (p : Phase) (s : State) : (setPhase p s).mem = s.mem := rfl

/-! ### setDpState -/

@[simp] theorem setDpState_cpu (op : BitVec 8) (payload : BitVec 56) (s : State) : (setDpState op payload s).cpu = s.cpu := rfl
@[simp] theorem setDpState_cp0 (op : BitVec 8) (payload : BitVec 56) (s : State) : (setDpState op payload s).cp0 = s.cp0 := rfl
@[simp] theorem setDpState_fpu (op : BitVec 8) (payload : BitVec 56) (s : State) : (setDpState op payload s).fpu = s.fpu := rfl
@[simp] theorem setDpState_vu (op : BitVec 8) (payload : BitVec 56) (s : State) : (setDpState op payload s).vu = s.vu := rfl
@[simp] theorem setDpState_sp (op : BitVec 8) (payload : BitVec 56) (s : State) : (setDpState op payload s).sp = s.sp := rfl
@[simp] theorem setDpState_rdp_stream (op : BitVec 8) (payload : BitVec 56) (s : State) : (setDpState op payload s).rdp.stream = s.rdp.stream := rfl
@[simp] theorem setDpState_rdp_fbWidth (op : BitVec 8) (payload : BitVec 56) (s : State) : (setDpState op payload s).rdp.fbWidth = s.rdp.fbWidth := rfl
@[simp] theorem setDpState_rdp_fbHeight (op : BitVec 8) (payload : BitVec 56) (s : State) : (setDpState op payload s).rdp.fbHeight = s.rdp.fbHeight := rfl
@[simp] theorem setDpState_rdp_fb (op : BitVec 8) (payload : BitVec 56) (s : State) : (setDpState op payload s).rdp.fb = s.rdp.fb := rfl
@[simp] theorem setDpState_rdp_depth (op : BitVec 8) (payload : BitVec 56) (s : State) : (setDpState op payload s).rdp.depth = s.rdp.depth := rfl
@[simp] theorem setDpState_rdp_fillColor (op : BitVec 8) (payload : BitVec 56) (s : State) : (setDpState op payload s).rdp.fillColor = s.rdp.fillColor := rfl
@[simp] theorem setDpState_rdp_dpState (op : BitVec 8) (payload : BitVec 56) (s : State) :
    (setDpState op payload s).rdp.dpState = Store.set 0 s.rdp.dpState op.toNat (op ++ payload) := rfl
@[simp] theorem setDpState_rdp_dpcStart (op : BitVec 8) (payload : BitVec 56) (s : State) : (setDpState op payload s).rdp.dpcStart = s.rdp.dpcStart := rfl
@[simp] theorem setDpState_rdp_dpcEnd (op : BitVec 8) (payload : BitVec 56) (s : State) : (setDpState op payload s).rdp.dpcEnd = s.rdp.dpcEnd := rfl
@[simp] theorem setDpState_rdp_dpcCurrent (op : BitVec 8) (payload : BitVec 56) (s : State) : (setDpState op payload s).rdp.dpcCurrent = s.rdp.dpcCurrent := rfl
@[simp] theorem setDpState_rdp_xbus (op : BitVec 8) (payload : BitVec 56) (s : State) : (setDpState op payload s).rdp.xbus = s.rdp.xbus := rfl
@[simp] theorem setDpState_mi (op : BitVec 8) (payload : BitVec 56) (s : State) : (setDpState op payload s).mi = s.mi := rfl
@[simp] theorem setDpState_pi (op : BitVec 8) (payload : BitVec 56) (s : State) : (setDpState op payload s).pi = s.pi := rfl
@[simp] theorem setDpState_si (op : BitVec 8) (payload : BitVec 56) (s : State) : (setDpState op payload s).si = s.si := rfl
@[simp] theorem setDpState_ai (op : BitVec 8) (payload : BitVec 56) (s : State) : (setDpState op payload s).ai = s.ai := rfl
@[simp] theorem setDpState_vi (op : BitVec 8) (payload : BitVec 56) (s : State) : (setDpState op payload s).vi = s.vi := rfl
@[simp] theorem setDpState_ri (op : BitVec 8) (payload : BitVec 56) (s : State) : (setDpState op payload s).ri = s.ri := rfl
@[simp] theorem setDpState_busy (op : BitVec 8) (payload : BitVec 56) (s : State) : (setDpState op payload s).busy = s.busy := rfl
@[simp] theorem setDpState_dma (op : BitVec 8) (payload : BitVec 56) (s : State) : (setDpState op payload s).dma = s.dma := rfl
@[simp] theorem setDpState_clock (op : BitVec 8) (payload : BitVec 56) (s : State) : (setDpState op payload s).clock = s.clock := rfl
@[simp] theorem setDpState_out (op : BitVec 8) (payload : BitVec 56) (s : State) : (setDpState op payload s).out = s.out := rfl
@[simp] theorem setDpState_controllerLatch (op : BitVec 8) (payload : BitVec 56) (s : State) : (setDpState op payload s).controllerLatch = s.controllerLatch := rfl
@[simp] theorem setDpState_refused (op : BitVec 8) (payload : BitVec 56) (s : State) : (setDpState op payload s).refused = s.refused := rfl
@[simp] theorem setDpState_draws (op : BitVec 8) (payload : BitVec 56) (s : State) : (setDpState op payload s).draws = s.draws := rfl
@[simp] theorem setDpState_cfg (op : BitVec 8) (payload : BitVec 56) (s : State) : (setDpState op payload s).cfg = s.cfg := rfl
@[simp] theorem setDpState_mem (op : BitVec 8) (payload : BitVec 56) (s : State) : (setDpState op payload s).mem = s.mem := rfl

/-! ### setPixel -/

@[simp] theorem setPixel_cpu (s : State) (x y : Nat) (c : Word) : (setPixel s x y c).cpu = s.cpu := rfl
@[simp] theorem setPixel_cp0 (s : State) (x y : Nat) (c : Word) : (setPixel s x y c).cp0 = s.cp0 := rfl
@[simp] theorem setPixel_fpu (s : State) (x y : Nat) (c : Word) : (setPixel s x y c).fpu = s.fpu := rfl
@[simp] theorem setPixel_vu (s : State) (x y : Nat) (c : Word) : (setPixel s x y c).vu = s.vu := rfl
@[simp] theorem setPixel_sp (s : State) (x y : Nat) (c : Word) : (setPixel s x y c).sp = s.sp := rfl
@[simp] theorem setPixel_rdp_stream (s : State) (x y : Nat) (c : Word) : (setPixel s x y c).rdp.stream = s.rdp.stream := rfl
@[simp] theorem setPixel_rdp_fbWidth (s : State) (x y : Nat) (c : Word) : (setPixel s x y c).rdp.fbWidth = s.rdp.fbWidth := rfl
@[simp] theorem setPixel_rdp_fbHeight (s : State) (x y : Nat) (c : Word) : (setPixel s x y c).rdp.fbHeight = s.rdp.fbHeight := rfl
@[simp] theorem setPixel_rdp_fb (s : State) (x y : Nat) (c : Word) :
    (setPixel s x y c).rdp.fb = Store.set 0 s.rdp.fb (y * s.rdp.fbWidth + x) c := rfl
@[simp] theorem setPixel_rdp_depth (s : State) (x y : Nat) (c : Word) : (setPixel s x y c).rdp.depth = s.rdp.depth := rfl
@[simp] theorem setPixel_rdp_fillColor (s : State) (x y : Nat) (c : Word) : (setPixel s x y c).rdp.fillColor = s.rdp.fillColor := rfl
@[simp] theorem setPixel_rdp_dpState (s : State) (x y : Nat) (c : Word) : (setPixel s x y c).rdp.dpState = s.rdp.dpState := rfl
@[simp] theorem setPixel_rdp_dpcStart (s : State) (x y : Nat) (c : Word) : (setPixel s x y c).rdp.dpcStart = s.rdp.dpcStart := rfl
@[simp] theorem setPixel_rdp_dpcEnd (s : State) (x y : Nat) (c : Word) : (setPixel s x y c).rdp.dpcEnd = s.rdp.dpcEnd := rfl
@[simp] theorem setPixel_rdp_dpcCurrent (s : State) (x y : Nat) (c : Word) : (setPixel s x y c).rdp.dpcCurrent = s.rdp.dpcCurrent := rfl
@[simp] theorem setPixel_rdp_xbus (s : State) (x y : Nat) (c : Word) : (setPixel s x y c).rdp.xbus = s.rdp.xbus := rfl
@[simp] theorem setPixel_mi (s : State) (x y : Nat) (c : Word) : (setPixel s x y c).mi = s.mi := rfl
@[simp] theorem setPixel_pi (s : State) (x y : Nat) (c : Word) : (setPixel s x y c).pi = s.pi := rfl
@[simp] theorem setPixel_si (s : State) (x y : Nat) (c : Word) : (setPixel s x y c).si = s.si := rfl
@[simp] theorem setPixel_ai (s : State) (x y : Nat) (c : Word) : (setPixel s x y c).ai = s.ai := rfl
@[simp] theorem setPixel_vi (s : State) (x y : Nat) (c : Word) : (setPixel s x y c).vi = s.vi := rfl
@[simp] theorem setPixel_ri (s : State) (x y : Nat) (c : Word) : (setPixel s x y c).ri = s.ri := rfl
@[simp] theorem setPixel_busy (s : State) (x y : Nat) (c : Word) : (setPixel s x y c).busy = s.busy := rfl
@[simp] theorem setPixel_dma (s : State) (x y : Nat) (c : Word) : (setPixel s x y c).dma = s.dma := rfl
@[simp] theorem setPixel_clock (s : State) (x y : Nat) (c : Word) : (setPixel s x y c).clock = s.clock := rfl
@[simp] theorem setPixel_out (s : State) (x y : Nat) (c : Word) : (setPixel s x y c).out = s.out := rfl
@[simp] theorem setPixel_controllerLatch (s : State) (x y : Nat) (c : Word) : (setPixel s x y c).controllerLatch = s.controllerLatch := rfl
@[simp] theorem setPixel_refused (s : State) (x y : Nat) (c : Word) : (setPixel s x y c).refused = s.refused := rfl
@[simp] theorem setPixel_draws (s : State) (x y : Nat) (c : Word) : (setPixel s x y c).draws = s.draws := rfl
@[simp] theorem setPixel_cfg (s : State) (x y : Nat) (c : Word) : (setPixel s x y c).cfg = s.cfg := rfl
@[simp] theorem setPixel_mem (s : State) (x y : Nat) (c : Word) : (setPixel s x y c).mem = s.mem := rfl

/-! ### setDepth -/

@[simp] theorem setDepth_cpu (s : State) (x y : Nat) (z : Word) : (setDepth s x y z).cpu = s.cpu := rfl
@[simp] theorem setDepth_cp0 (s : State) (x y : Nat) (z : Word) : (setDepth s x y z).cp0 = s.cp0 := rfl
@[simp] theorem setDepth_fpu (s : State) (x y : Nat) (z : Word) : (setDepth s x y z).fpu = s.fpu := rfl
@[simp] theorem setDepth_vu (s : State) (x y : Nat) (z : Word) : (setDepth s x y z).vu = s.vu := rfl
@[simp] theorem setDepth_sp (s : State) (x y : Nat) (z : Word) : (setDepth s x y z).sp = s.sp := rfl
@[simp] theorem setDepth_rdp_stream (s : State) (x y : Nat) (z : Word) : (setDepth s x y z).rdp.stream = s.rdp.stream := rfl
@[simp] theorem setDepth_rdp_fbWidth (s : State) (x y : Nat) (z : Word) : (setDepth s x y z).rdp.fbWidth = s.rdp.fbWidth := rfl
@[simp] theorem setDepth_rdp_fbHeight (s : State) (x y : Nat) (z : Word) : (setDepth s x y z).rdp.fbHeight = s.rdp.fbHeight := rfl
@[simp] theorem setDepth_rdp_fb (s : State) (x y : Nat) (z : Word) : (setDepth s x y z).rdp.fb = s.rdp.fb := rfl
@[simp] theorem setDepth_rdp_depth (s : State) (x y : Nat) (z : Word) :
    (setDepth s x y z).rdp.depth = Store.set depthFar s.rdp.depth (y * s.rdp.fbWidth + x) z := rfl
@[simp] theorem setDepth_rdp_fillColor (s : State) (x y : Nat) (z : Word) : (setDepth s x y z).rdp.fillColor = s.rdp.fillColor := rfl
@[simp] theorem setDepth_rdp_dpState (s : State) (x y : Nat) (z : Word) : (setDepth s x y z).rdp.dpState = s.rdp.dpState := rfl
@[simp] theorem setDepth_rdp_dpcStart (s : State) (x y : Nat) (z : Word) : (setDepth s x y z).rdp.dpcStart = s.rdp.dpcStart := rfl
@[simp] theorem setDepth_rdp_dpcEnd (s : State) (x y : Nat) (z : Word) : (setDepth s x y z).rdp.dpcEnd = s.rdp.dpcEnd := rfl
@[simp] theorem setDepth_rdp_dpcCurrent (s : State) (x y : Nat) (z : Word) : (setDepth s x y z).rdp.dpcCurrent = s.rdp.dpcCurrent := rfl
@[simp] theorem setDepth_rdp_xbus (s : State) (x y : Nat) (z : Word) : (setDepth s x y z).rdp.xbus = s.rdp.xbus := rfl
@[simp] theorem setDepth_mi (s : State) (x y : Nat) (z : Word) : (setDepth s x y z).mi = s.mi := rfl
@[simp] theorem setDepth_pi (s : State) (x y : Nat) (z : Word) : (setDepth s x y z).pi = s.pi := rfl
@[simp] theorem setDepth_si (s : State) (x y : Nat) (z : Word) : (setDepth s x y z).si = s.si := rfl
@[simp] theorem setDepth_ai (s : State) (x y : Nat) (z : Word) : (setDepth s x y z).ai = s.ai := rfl
@[simp] theorem setDepth_vi (s : State) (x y : Nat) (z : Word) : (setDepth s x y z).vi = s.vi := rfl
@[simp] theorem setDepth_ri (s : State) (x y : Nat) (z : Word) : (setDepth s x y z).ri = s.ri := rfl
@[simp] theorem setDepth_busy (s : State) (x y : Nat) (z : Word) : (setDepth s x y z).busy = s.busy := rfl
@[simp] theorem setDepth_dma (s : State) (x y : Nat) (z : Word) : (setDepth s x y z).dma = s.dma := rfl
@[simp] theorem setDepth_clock (s : State) (x y : Nat) (z : Word) : (setDepth s x y z).clock = s.clock := rfl
@[simp] theorem setDepth_out (s : State) (x y : Nat) (z : Word) : (setDepth s x y z).out = s.out := rfl
@[simp] theorem setDepth_controllerLatch (s : State) (x y : Nat) (z : Word) : (setDepth s x y z).controllerLatch = s.controllerLatch := rfl
@[simp] theorem setDepth_refused (s : State) (x y : Nat) (z : Word) : (setDepth s x y z).refused = s.refused := rfl
@[simp] theorem setDepth_draws (s : State) (x y : Nat) (z : Word) : (setDepth s x y z).draws = s.draws := rfl
@[simp] theorem setDepth_cfg (s : State) (x y : Nat) (z : Word) : (setDepth s x y z).cfg = s.cfg := rfl
@[simp] theorem setDepth_mem (s : State) (x y : Nat) (z : Word) : (setDepth s x y z).mem = s.mem := rfl

/-! ### newBuffers -/

@[simp] theorem newBuffers_cpu (s : State) (w : Nat) : (newBuffers s w).cpu = s.cpu := rfl
@[simp] theorem newBuffers_cp0 (s : State) (w : Nat) : (newBuffers s w).cp0 = s.cp0 := rfl
@[simp] theorem newBuffers_fpu (s : State) (w : Nat) : (newBuffers s w).fpu = s.fpu := rfl
@[simp] theorem newBuffers_vu (s : State) (w : Nat) : (newBuffers s w).vu = s.vu := rfl
@[simp] theorem newBuffers_sp (s : State) (w : Nat) : (newBuffers s w).sp = s.sp := rfl
@[simp] theorem newBuffers_rdp_stream (s : State) (w : Nat) : (newBuffers s w).rdp.stream = s.rdp.stream := rfl
@[simp] theorem newBuffers_rdp_fbWidth (s : State) (w : Nat) :
    (newBuffers s w).rdp.fbWidth = w := rfl
@[simp] theorem newBuffers_rdp_fbHeight (s : State) (w : Nat) : (newBuffers s w).rdp.fbHeight = s.rdp.fbHeight := rfl
@[simp] theorem newBuffers_rdp_fb (s : State) (w : Nat) :
    (newBuffers s w).rdp.fb = [] := rfl
@[simp] theorem newBuffers_rdp_depth (s : State) (w : Nat) :
    (newBuffers s w).rdp.depth = [] := rfl
@[simp] theorem newBuffers_rdp_fillColor (s : State) (w : Nat) : (newBuffers s w).rdp.fillColor = s.rdp.fillColor := rfl
@[simp] theorem newBuffers_rdp_dpState (s : State) (w : Nat) : (newBuffers s w).rdp.dpState = s.rdp.dpState := rfl
@[simp] theorem newBuffers_rdp_dpcStart (s : State) (w : Nat) : (newBuffers s w).rdp.dpcStart = s.rdp.dpcStart := rfl
@[simp] theorem newBuffers_rdp_dpcEnd (s : State) (w : Nat) : (newBuffers s w).rdp.dpcEnd = s.rdp.dpcEnd := rfl
@[simp] theorem newBuffers_rdp_dpcCurrent (s : State) (w : Nat) : (newBuffers s w).rdp.dpcCurrent = s.rdp.dpcCurrent := rfl
@[simp] theorem newBuffers_rdp_xbus (s : State) (w : Nat) : (newBuffers s w).rdp.xbus = s.rdp.xbus := rfl
@[simp] theorem newBuffers_mi (s : State) (w : Nat) : (newBuffers s w).mi = s.mi := rfl
@[simp] theorem newBuffers_pi (s : State) (w : Nat) : (newBuffers s w).pi = s.pi := rfl
@[simp] theorem newBuffers_si (s : State) (w : Nat) : (newBuffers s w).si = s.si := rfl
@[simp] theorem newBuffers_ai (s : State) (w : Nat) : (newBuffers s w).ai = s.ai := rfl
@[simp] theorem newBuffers_vi (s : State) (w : Nat) : (newBuffers s w).vi = s.vi := rfl
@[simp] theorem newBuffers_ri (s : State) (w : Nat) : (newBuffers s w).ri = s.ri := rfl
@[simp] theorem newBuffers_busy (s : State) (w : Nat) : (newBuffers s w).busy = s.busy := rfl
@[simp] theorem newBuffers_dma (s : State) (w : Nat) : (newBuffers s w).dma = s.dma := rfl
@[simp] theorem newBuffers_clock (s : State) (w : Nat) : (newBuffers s w).clock = s.clock := rfl
@[simp] theorem newBuffers_out (s : State) (w : Nat) : (newBuffers s w).out = s.out := rfl
@[simp] theorem newBuffers_controllerLatch (s : State) (w : Nat) : (newBuffers s w).controllerLatch = s.controllerLatch := rfl
@[simp] theorem newBuffers_refused (s : State) (w : Nat) : (newBuffers s w).refused = s.refused := rfl
@[simp] theorem newBuffers_draws (s : State) (w : Nat) : (newBuffers s w).draws = s.draws := rfl
@[simp] theorem newBuffers_cfg (s : State) (w : Nat) : (newBuffers s w).cfg = s.cfg := rfl
@[simp] theorem newBuffers_mem (s : State) (w : Nat) : (newBuffers s w).mem = s.mem := rfl

/-! ### refuse -/

@[simp] theorem refuse_cpu (why : Refusal) (s : State) : (refuse why s).cpu = s.cpu := rfl
@[simp] theorem refuse_cp0 (why : Refusal) (s : State) : (refuse why s).cp0 = s.cp0 := rfl
@[simp] theorem refuse_fpu (why : Refusal) (s : State) : (refuse why s).fpu = s.fpu := rfl
@[simp] theorem refuse_vu (why : Refusal) (s : State) : (refuse why s).vu = s.vu := rfl
@[simp] theorem refuse_sp (why : Refusal) (s : State) : (refuse why s).sp = s.sp := rfl
@[simp] theorem refuse_rdp (why : Refusal) (s : State) : (refuse why s).rdp = s.rdp := rfl
@[simp] theorem refuse_mi (why : Refusal) (s : State) : (refuse why s).mi = s.mi := rfl
@[simp] theorem refuse_pi (why : Refusal) (s : State) : (refuse why s).pi = s.pi := rfl
@[simp] theorem refuse_si (why : Refusal) (s : State) : (refuse why s).si = s.si := rfl
@[simp] theorem refuse_ai (why : Refusal) (s : State) : (refuse why s).ai = s.ai := rfl
@[simp] theorem refuse_vi (why : Refusal) (s : State) : (refuse why s).vi = s.vi := rfl
@[simp] theorem refuse_ri (why : Refusal) (s : State) : (refuse why s).ri = s.ri := rfl
@[simp] theorem refuse_busy (why : Refusal) (s : State) : (refuse why s).busy = s.busy := rfl
@[simp] theorem refuse_dma (why : Refusal) (s : State) : (refuse why s).dma = s.dma := rfl
@[simp] theorem refuse_clock_state (why : Refusal) (s : State) : (refuse why s).clock.state = s.clock.state := rfl
@[simp] theorem refuse_clock_tick (why : Refusal) (s : State) :
    (refuse why s).clock.tick = s.clock.tick + 1 := rfl
@[simp] theorem refuse_clock_framePhase (why : Refusal) (s : State) : (refuse why s).clock.framePhase = s.clock.framePhase := rfl
@[simp] theorem refuse_clock_frames (why : Refusal) (s : State) : (refuse why s).clock.frames = s.clock.frames := rfl
@[simp] theorem refuse_clock_phase (why : Refusal) (s : State) :
    (refuse why s).clock.phase = .boundary := rfl
@[simp] theorem refuse_out (why : Refusal) (s : State) : (refuse why s).out = s.out := rfl
@[simp] theorem refuse_controllerLatch (why : Refusal) (s : State) : (refuse why s).controllerLatch = s.controllerLatch := rfl
@[simp] theorem refuse_refused (why : Refusal) (s : State) :
    (refuse why s).refused = some why := rfl
@[simp] theorem refuse_draws (why : Refusal) (s : State) : (refuse why s).draws = s.draws := rfl
@[simp] theorem refuse_cfg (why : Refusal) (s : State) : (refuse why s).cfg = s.cfg := rfl
@[simp] theorem refuse_mem (why : Refusal) (s : State) : (refuse why s).mem = s.mem := rfl

/-! ### save -/

@[simp] theorem save_cpu (s : State) : (save s).cpu = s.cpu := rfl
@[simp] theorem save_cp0 (s : State) : (save s).cp0 = s.cp0 := rfl
@[simp] theorem save_fpu (s : State) : (save s).fpu = s.fpu := rfl
@[simp] theorem save_vu (s : State) : (save s).vu = s.vu := rfl
@[simp] theorem save_sp (s : State) : (save s).sp = s.sp := rfl
@[simp] theorem save_rdp (s : State) : (save s).rdp = s.rdp := rfl
@[simp] theorem save_mi (s : State) : (save s).mi = s.mi := rfl
@[simp] theorem save_pi (s : State) : (save s).pi = s.pi := rfl
@[simp] theorem save_si (s : State) : (save s).si = s.si := rfl
@[simp] theorem save_ai (s : State) : (save s).ai = s.ai := rfl
@[simp] theorem save_vi (s : State) : (save s).vi = s.vi := rfl
@[simp] theorem save_ri (s : State) : (save s).ri = s.ri := rfl
@[simp] theorem save_busy (s : State) : (save s).busy = s.busy := rfl
@[simp] theorem save_dma (s : State) : (save s).dma = s.dma := rfl
@[simp] theorem save_clock (s : State) : (save s).clock = s.clock := rfl
@[simp] theorem save_controllerLatch (s : State) : (save s).controllerLatch = s.controllerLatch := rfl
@[simp] theorem save_refused (s : State) : (save s).refused = s.refused := rfl
@[simp] theorem save_draws (s : State) : (save s).draws = s.draws := rfl
@[simp] theorem save_mem (s : State) : (save s).mem = s.mem := rfl

/-! ### restore -/

@[simp] theorem restore_cpu (v : SaveState) (s : State) : (restore v s).cpu = v.cpu := rfl
@[simp] theorem restore_cp0 (v : SaveState) (s : State) : (restore v s).cp0 = v.cp0 := rfl
@[simp] theorem restore_fpu (v : SaveState) (s : State) : (restore v s).fpu = v.fpu := rfl
@[simp] theorem restore_vu (v : SaveState) (s : State) : (restore v s).vu = v.vu := rfl
@[simp] theorem restore_sp (v : SaveState) (s : State) : (restore v s).sp = v.sp := rfl
@[simp] theorem restore_rdp (v : SaveState) (s : State) : (restore v s).rdp = v.rdp := rfl
@[simp] theorem restore_mi (v : SaveState) (s : State) : (restore v s).mi = v.mi := rfl
@[simp] theorem restore_pi (v : SaveState) (s : State) : (restore v s).pi = v.pi := rfl
@[simp] theorem restore_si (v : SaveState) (s : State) : (restore v s).si = v.si := rfl
@[simp] theorem restore_ai (v : SaveState) (s : State) : (restore v s).ai = v.ai := rfl
@[simp] theorem restore_vi (v : SaveState) (s : State) : (restore v s).vi = v.vi := rfl
@[simp] theorem restore_ri (v : SaveState) (s : State) : (restore v s).ri = v.ri := rfl
@[simp] theorem restore_busy (v : SaveState) (s : State) : (restore v s).busy = v.busy := rfl
@[simp] theorem restore_dma (v : SaveState) (s : State) : (restore v s).dma = v.dma := rfl
@[simp] theorem restore_clock (v : SaveState) (s : State) : (restore v s).clock = v.clock := rfl
@[simp] theorem restore_out (v : SaveState) (s : State) : (restore v s).out = s.out := rfl
@[simp] theorem restore_controllerLatch (v : SaveState) (s : State) : (restore v s).controllerLatch = v.controllerLatch := rfl
@[simp] theorem restore_refused (v : SaveState) (s : State) : (restore v s).refused = v.refused := rfl
@[simp] theorem restore_draws (v : SaveState) (s : State) : (restore v s).draws = v.draws := rfl
@[simp] theorem restore_cfg (v : SaveState) (s : State) : (restore v s).cfg = s.cfg := rfl
@[simp] theorem restore_mem (v : SaveState) (s : State) : (restore v s).mem = v.mem := rfl

/-- A save state put back where it was taken is no change (R85). -/
@[simp] theorem restore_save (s : State) : restore (save s) s = s := rfl

/-- A save state taken where one was put back is that one. -/
@[simp] theorem save_restore (v : SaveState) (s : State) : save (restore v s) = v := rfl

end Sys2Proof.Machine
end

