-- ==== Sys2Proof/Laws/Store.lean ====
section
/-! SUPPORT. Laws of sparse stores and register files: a read after a write, and the canonical form kept. -/

namespace Sys2Proof.Machine

set_option Elab.async false

variable {β : Type}

/-! ## Reading -/

theorem Store.get_erase_same (d : β) (m : List (Nat × β)) (a : Nat) : Store.get d (Store.erase m a) a = d := by
  induction m with
  | nil => rfl
  | cons c t ih =>
    obtain ⟨k, v⟩ := c
    by_cases h : k = a <;> simp [Store.erase, Store.get, h, ih]

theorem Store.get_erase_ne (d : β) (m : List (Nat × β)) {a b : Nat} (h : b ≠ a) :
    Store.get d (Store.erase m a) b = Store.get d m b := by
  induction m with
  | nil => rfl
  | cons c t ih =>
    obtain ⟨k, v⟩ := c
    by_cases hk : k = a
    · subst hk
      simp [Store.erase, Store.get, ih, Ne.symm h]
    · by_cases hb : k = b
      · subst hb
        simp [Store.erase, Store.get, hk]
      · simp [Store.erase, Store.get, hk, hb, ih]

theorem Store.get_insert_ne (d : β) (m : List (Nat × β)) {a b : Nat} (v : β) (h : b ≠ a) :
    Store.get d (Store.insert m a v) b = Store.get d m b := by
  induction m with
  | nil => simp [Store.insert, Store.get, Ne.symm h]
  | cons c t ih =>
    obtain ⟨k, w⟩ := c
    by_cases hk : a < k
    · simp [Store.insert, Store.get, hk, Ne.symm h]
    · by_cases hb : k = b
      · subst hb
        simp [Store.insert, Store.get, hk]
      · simp [Store.insert, Store.get, hk, hb, ih]

theorem Store.get_insert_same (d : β) (m : List (Nat × β)) (a : Nat) (v : β) (h : ∀ c ∈ m, c.1 ≠ a) :
    Store.get d (Store.insert m a v) a = v := by
  induction m with
  | nil => simp [Store.insert, Store.get]
  | cons c t ih =>
    obtain ⟨k, w⟩ := c
    have hk : k ≠ a := h (k, w) (by simp)
    have ht := ih fun c hc => h c (by simp [hc])
    by_cases hlt : a < k <;> simp [Store.insert, Store.get, hlt, hk, ht]

theorem Store.not_mem_erase (m : List (Nat × β)) (a : Nat) : ∀ c ∈ Store.erase m a, c.1 ≠ a := by
  induction m with
  | nil => simp [Store.erase]
  | cons c t ih =>
    obtain ⟨k, v⟩ := c
    by_cases h : k = a
    · simpa [Store.erase, h] using ih
    · simp only [Store.erase, h, if_false, List.mem_cons]
      rintro c (rfl | hc)
      · exact h
      · exact ih c hc

/-! ## Rising keys -/

theorem Store.rising_cons {k : Nat} {v : β} {t : List (Nat × β)} :
    Store.rising ((k, v) :: t) = true ↔ (∀ c ∈ t, k < c.1) ∧ Store.rising t = true := by
  simp [Store.rising, List.all_eq_true]

theorem Store.mem_erase {m : List (Nat × β)} {a : Nat} {c : Nat × β} (h : c ∈ Store.erase m a) : c ∈ m := by
  induction m with
  | nil => simp [Store.erase] at h
  | cons x t ih =>
    obtain ⟨k, v⟩ := x
    by_cases hk : k = a
    · simp only [Store.erase, hk, if_true] at h
      exact List.mem_cons_of_mem _ (ih h)
    · simp only [Store.erase, hk, if_false, List.mem_cons] at h
      rcases h with rfl | h
      · exact List.mem_cons_self
      · exact List.mem_cons_of_mem _ (ih h)

theorem Store.rising_erase {m : List (Nat × β)} (a : Nat) (h : Store.rising m = true) :
    Store.rising (Store.erase m a) = true := by
  induction m with
  | nil => rfl
  | cons x t ih =>
    obtain ⟨k, v⟩ := x
    rw [Store.rising_cons] at h
    by_cases hk : k = a
    · simpa [Store.erase, hk] using ih h.2
    · simp only [Store.erase, hk, if_false]
      rw [Store.rising_cons]
      exact ⟨fun c hc => h.1 c (Store.mem_erase hc), ih h.2⟩

theorem Store.mem_insert {m : List (Nat × β)} {a : Nat} {v : β} {c : Nat × β} (h : c ∈ Store.insert m a v) :
    c = (a, v) ∨ c ∈ m := by
  induction m with
  | nil => simpa [Store.insert] using h
  | cons x t ih =>
    obtain ⟨k, w⟩ := x
    by_cases hk : a < k
    · simpa [Store.insert, hk] using h
    · simp only [Store.insert, hk, if_false, List.mem_cons] at h
      rcases h with rfl | h
      · exact .inr List.mem_cons_self
      · exact (ih h).imp id (List.mem_cons_of_mem _)

theorem Store.rising_insert {m : List (Nat × β)} (a : Nat) (v : β) (h : Store.rising m = true)
    (ha : ∀ c ∈ m, c.1 ≠ a) : Store.rising (Store.insert m a v) = true := by
  induction m with
  | nil => simp [Store.insert, Store.rising]
  | cons x t ih =>
    obtain ⟨k, w⟩ := x
    have hr := h
    rw [Store.rising_cons] at h
    have hne : k ≠ a := ha (k, w) (by simp)
    by_cases hk : a < k
    · simp only [Store.insert, hk, if_true]
      rw [Store.rising_cons]
      refine ⟨?_, hr⟩
      rintro c hc
      rcases List.mem_cons.1 hc with rfl | hc
      · exact hk
      · exact Nat.lt_trans hk (h.1 c hc)
    · simp only [Store.insert, hk, if_false]
      rw [Store.rising_cons]
      refine ⟨?_, ih h.2 fun c hc => ha c (by simp [hc])⟩
      rintro c hc
      rcases Store.mem_insert hc with rfl | hc
      · show k < a
        omega
      · exact h.1 c hc

theorem Store.get_append (d : β) (m n : List (Nat × β)) (a : Nat) (h : ∀ c ∈ m, c.1 ≠ a) :
    Store.get d (m ++ n) a = Store.get d n a := by
  induction m with
  | nil => rfl
  | cons c t ih =>
    obtain ⟨k, v⟩ := c
    have hk : k ≠ a := h (k, v) (by simp)
    simp [Store.get, hk, ih fun c hc => h c (by simp [hc])]

theorem Store.get_append_left (d : β) (m n : List (Nat × β)) (a : Nat) (h : ∀ c ∈ n, c.1 ≠ a) :
    Store.get d (m ++ n) a = Store.get d m a := by
  induction m with
  | nil =>
    have := Store.get_append d n [] a h
    simpa using this
  | cons c t ih =>
    obtain ⟨k, v⟩ := c
    by_cases hk : k = a <;> simp [Store.get, hk, ih]

theorem Store.get_filter (d : β) (m : List (Nat × β)) (p : Nat → Bool) (a : Nat) (h : p a = true) :
    Store.get d (m.filter fun c => p c.1) a = Store.get d m a := by
  induction m with
  | nil => rfl
  | cons c t ih =>
    obtain ⟨k, v⟩ := c
    by_cases hk : k = a
    · subst hk
      simp [h, Store.get]
    · by_cases hp : p k = true <;> simp [hp, Store.get, hk, ih]

theorem Store.get_block (d : β) (lo : Nat) (v : β) (a : Nat) (l : List Nat) :
    Store.get d (l.map fun k => (lo + k, v)) a = if ∃ k ∈ l, lo + k = a then v else d := by
  induction l with
  | nil => simp [Store.get]
  | cons x t ih =>
    by_cases hx : lo + x = a
    · simp [Store.get, hx]
    · simp only [List.map_cons, Store.get, hx, if_false, ih, List.mem_cons, exists_eq_or_imp, false_or]

theorem Store.rising_append {m n : List (Nat × β)} (hm : Store.rising m = true) (hn : Store.rising n = true)
    (h : ∀ c ∈ m, ∀ e ∈ n, c.1 < e.1) : Store.rising (m ++ n) = true := by
  induction m with
  | nil => exact hn
  | cons c t ih =>
    obtain ⟨k, v⟩ := c
    rw [Store.rising_cons] at hm
    rw [List.cons_append, Store.rising_cons]
    refine ⟨?_, ih hm.2 fun c hc => h c (by simp [hc])⟩
    intro e he
    rcases List.mem_append.1 he with he | he
    · exact hm.1 e he
    · exact h (k, v) (by simp) e he

theorem Store.rising_filter {m : List (Nat × β)} (p : Nat × β → Bool) (h : Store.rising m = true) :
    Store.rising (m.filter p) = true := by
  induction m with
  | nil => rfl
  | cons c t ih =>
    obtain ⟨k, v⟩ := c
    rw [Store.rising_cons] at h
    rw [List.filter_cons]
    split
    · rw [Store.rising_cons]
      exact ⟨fun c hc => h.1 c (List.mem_filter.1 hc).1, ih h.2⟩
    · exact ih h.2

theorem Store.rising_block (lo : Nat) (v : β) {l : List Nat} (h : l.Pairwise (· < ·)) :
    Store.rising (l.map fun k => (lo + k, v)) = true := by
  induction h with
  | nil => rfl
  | cons hx _ ih =>
    rw [List.map_cons, Store.rising_cons]
    refine ⟨?_, ih⟩
    intro c hc
    obtain ⟨k, hk, rfl⟩ := List.mem_map.1 hc
    have := hx k hk
    simp only
    omega

variable [DecidableEq β]

/-- A read after a write to the same key gives the value written. -/
@[simp] theorem Store.get_set_same (d : β) (m : List (Nat × β)) (a : Nat) (v : β) :
    Store.get d (Store.set d m a v) a = v := by
  unfold Store.set
  split
  · rename_i h
    rw [Store.get_erase_same, h]
  · exact Store.get_insert_same d _ a v (Store.not_mem_erase m a)

/-- A write leaves every other key alone. -/
theorem Store.get_set_ne (d : β) (m : List (Nat × β)) {a b : Nat} (v : β) (h : b ≠ a) :
    Store.get d (Store.set d m a v) b = Store.get d m b := by
  unfold Store.set
  split
  · exact Store.get_erase_ne d m h
  · rw [Store.get_insert_ne d _ v h, Store.get_erase_ne d m h]

/-! ## The canonical form -/

theorem Store.wf_iff {d : β} {m : List (Nat × β)} :
    Store.wf d m = true ↔ Store.rising m = true ∧ ∀ c ∈ m, c.2 ≠ d := by
  simp [Store.wf, List.all_eq_true]

/-- A write keeps the canonical form. -/
theorem Store.wf_set {d : β} {m : List (Nat × β)} (a : Nat) (v : β) (h : Store.wf d m = true) :
    Store.wf d (Store.set d m a v) = true := by
  rw [Store.wf_iff] at h
  unfold Store.set
  split
  · rw [Store.wf_iff]
    exact ⟨Store.rising_erase a h.1, fun c hc => h.2 c (Store.mem_erase hc)⟩
  · rename_i hv
    rw [Store.wf_iff]
    refine ⟨Store.rising_insert a v (Store.rising_erase a h.1) (Store.not_mem_erase m a), ?_⟩
    intro c hc
    rcases Store.mem_insert hc with rfl | hc
    · exact hv
    · exact h.2 c (Store.mem_erase hc)

/-! ## Filling a range -/

/-- What a key reads as after `n` keys from `lo` on are filled with `v`. -/
theorem Store.get_fill (d : β) (m : List (Nat × β)) (lo n : Nat) (v : β) (a : Nat) :
    Store.get d (Store.fill d m lo n v) a = if lo ≤ a ∧ a < lo + n then v else Store.get d m a := by
  unfold Store.fill
  by_cases h1 : a < lo
  · have e : ¬(lo ≤ a ∧ a < lo + n) := by omega
    rw [if_neg e, Store.get_append_left, Store.get_filter d m (fun k => decide (k < lo)) a (by simpa using h1)]
    intro c hc
    simp only [List.mem_append, List.mem_filter, decide_eq_true_eq] at hc
    rcases hc with hc | hc
    · split at hc
      · simp at hc
      · simp only [List.mem_map, List.mem_range] at hc
        obtain ⟨k, _, rfl⟩ := hc
        simp only
        omega
    · omega
  · rw [Store.get_append d _ _ a (by
      intro c hc
      simp only [List.mem_filter, decide_eq_true_eq] at hc
      omega)]
    by_cases h2 : a < lo + n
    · have e : lo ≤ a ∧ a < lo + n := by omega
      rw [if_pos e, Store.get_append_left d _ _ a (by
        intro c hc
        simp only [List.mem_filter, decide_eq_true_eq] at hc
        omega)]
      split
      · rename_i hv
        simp [Store.get, hv]
      · rw [Store.get_block, if_pos]
        exact ⟨a - lo, by simp only [List.mem_range]; omega, by omega⟩
    · have e : ¬(lo ≤ a ∧ a < lo + n) := by omega
      rw [if_neg e, Store.get_append d _ _ a (by
        intro c hc
        split at hc
        · simp at hc
        · simp only [List.mem_map, List.mem_range] at hc
          obtain ⟨k, _, rfl⟩ := hc
          simp only
          omega)]
      exact Store.get_filter d m (fun k => decide (lo + n ≤ k)) a (by simpa using h2)

/-- Filling keeps the canonical form. -/
theorem Store.wf_fill {d : β} {m : List (Nat × β)} (lo n : Nat) (v : β) (h : Store.wf d m = true) :
    Store.wf d (Store.fill d m lo n v) = true := by
  rw [Store.wf_iff] at h ⊢
  have hb : ∀ c ∈ (if v = d then [] else (List.range n).map fun k => (lo + k, v)),
      lo ≤ c.1 ∧ c.1 < lo + n ∧ c.2 = v ∧ v ≠ d := by
    intro c hc
    split at hc
    · simp at hc
    · obtain ⟨k, hk, rfl⟩ := List.mem_map.1 hc
      rw [List.mem_range] at hk
      refine ⟨?_, ?_, rfl, by assumption⟩ <;> simp only <;> omega
  unfold Store.fill
  constructor
  · refine Store.rising_append (Store.rising_filter _ h.1) (Store.rising_append ?_ (Store.rising_filter _ h.1) ?_) ?_
    · split
      · rfl
      · exact Store.rising_block lo v List.pairwise_lt_range
    · intro c hc e he
      have := hb c hc
      simp only [List.mem_filter, decide_eq_true_eq] at he
      omega
    · intro c hc e he
      simp only [List.mem_filter, decide_eq_true_eq] at hc
      rcases List.mem_append.1 he with he | he
      · have := hb e he
        omega
      · simp only [List.mem_filter, decide_eq_true_eq] at he
        omega
  · intro c hc
    rcases List.mem_append.1 hc with hc | hc
    · exact h.2 c (List.mem_filter.1 hc).1
    · rcases List.mem_append.1 hc with hc | hc
      · have := hb c hc
        rw [this.2.2.1]
        exact this.2.2.2
      · exact h.2 c (List.mem_filter.1 hc).1

/-! ## Memory -/

@[simp] theorem Memory.byte_setByte_same (m : List Host.Cell) (a : Nat) (b : Byte) :
    Memory.byte (Memory.setByte m a b) a = b := Store.get_set_same 0 m a b

theorem Memory.byte_setByte_ne (m : List Host.Cell) {a a' : Nat} (b : Byte) (h : a' ≠ a) :
    Memory.byte (Memory.setByte m a b) a' = Memory.byte m a' := Store.get_set_ne 0 m b h

theorem Memory.wf_setByte {m : List Host.Cell} (a : Nat) (b : Byte) (h : Memory.wf m = true) :
    Memory.wf (Memory.setByte m a b) = true := Store.wf_set a b h

/-- A store leaves every byte outside its `n` bytes alone. -/
theorem Memory.byte_write_outside (m : List Host.Cell) (a : Nat) (v : Dword) (n a' : Nat)
    (h : a' < a ∨ a + n ≤ a') : Memory.byte (Memory.write m a v n) a' = Memory.byte m a' := by
  induction n generalizing m v with
  | zero => rfl
  | succ n ih =>
    rw [Memory.write, ih _ _ (by omega), Memory.byte_setByte_ne _ _ (by omega)]

/-- The byte at offset `k` of a store of `n` bytes is byte `n - 1 - k` of the value (big-endian). -/
theorem Memory.byte_write_inside (m : List Host.Cell) (a : Nat) (v : Dword) (n k : Nat) (h : k < n) :
    Memory.byte (Memory.write m a v n) (a + k) = (v >>> (8 * (n - 1 - k))).setWidth 8 := by
  induction n generalizing m v with
  | zero => omega
  | succ n ih =>
    rw [Memory.write]
    by_cases hk : k = n
    · subst hk
      rw [Memory.byte_write_outside _ _ _ _ _ (by omega), Memory.byte_setByte_same]
      simp
    · rw [ih _ _ (by omega), ← BitVec.shiftRight_add]
      congr 2
      omega

theorem Memory.wf_write {m : List Host.Cell} (a : Nat) (v : Dword) (n : Nat) (h : Memory.wf m = true) :
    Memory.wf (Memory.write m a v n) = true := by
  induction n generalizing m v with
  | zero => exact h
  | succ n ih => exact ih _ (Memory.wf_setByte _ _ h)

/-- A masked store leaves every byte outside its unit alone. -/
theorem Memory.byte_writeMasked_outside (m : List Host.Cell) (a : Nat) (v : Dword) (k : Byte) (n a' : Nat)
    (h : a' < a ∨ a + n ≤ a') : Memory.byte (Memory.writeMasked m a v k n) a' = Memory.byte m a' := by
  induction n generalizing m v k with
  | zero => rfl
  | succ n ih =>
    rw [Memory.writeMasked, ih _ _ _ (by omega)]
    split
    · rw [Memory.byte_setByte_ne _ _ (by omega)]
    · rfl

theorem Memory.wf_writeMasked {m : List Host.Cell} (a : Nat) (v : Dword) (k : Byte) (n : Nat)
    (h : Memory.wf m = true) : Memory.wf (Memory.writeMasked m a v k n) = true := by
  induction n generalizing m v k with
  | zero => exact h
  | succ n ih =>
    rw [Memory.writeMasked]
    split
    · exact ih _ _ (Memory.wf_setByte _ _ h)
    · exact ih _ _ h

/-! ## Register files -/

@[simp] theorem Regs.get_set_same {α : Type} (v : Vector α 32) (i : Reg) (x : α) :
    Regs.get (Regs.set v i x) i = x := by simp [Regs.get, Regs.set]

theorem Regs.get_set_ne {α : Type} (v : Vector α 32) {i j : Reg} (x : α) (h : j ≠ i) :
    Regs.get (Regs.set v i x) j = Regs.get v j := by
  have : i.toNat ≠ j.toNat := fun e => h (BitVec.eq_of_toNat_eq e.symm)
  simp [Regs.get, Regs.set, this]

@[simp] theorem Regs.setNonzero_zero {α : Type} (v : Vector α 32) (x : α) : Regs.setNonzero v 0 x = v := rfl

theorem Regs.get_setNonzero_ne {α : Type} (v : Vector α 32) {i j : Reg} (x : α) (h : j ≠ i) :
    Regs.get (Regs.setNonzero v i x) j = Regs.get v j := by
  unfold Regs.setNonzero
  split
  · rfl
  · exact Regs.get_set_ne v x h

theorem Regs.get_setNonzero_same {α : Type} (v : Vector α 32) {i : Reg} (x : α) (h : i ≠ 0) :
    Regs.get (Regs.setNonzero v i x) i = x := by
  unfold Regs.setNonzero
  rw [if_neg h, Regs.get_set_same]

end Sys2Proof.Machine
end

