-- ==== Sys2Proof/Laws/Ops.lean ====
section
/-! SUPPORT. One lemma per register operation: what it reads as after each update. Cite these instead of unfolding. -/

namespace Sys2Proof.Machine

set_option Elab.async false

/-! ## Hard-wired zeros -/

@[simp] theorem gpr_zero (s : State) : gpr s 0 = 0 := rfl

@[simp] theorem sr_zero (s : State) : sr s 0 = 0 := rfl

/-! ## Registers not touched by an update -/

@[simp] theorem sr_setGpr (s : State) (i : Reg) (v : Dword) (j : Reg) : sr (setGpr s i v) j = sr s j := rfl
@[simp] theorem fpr_setGpr (s : State) (i : Reg) (v : Dword) (j : Reg) : fpr (setGpr s i v) j = fpr s j := rfl
@[simp] theorem vr_setGpr (s : State) (i : Reg) (v : Dword) (j : Reg) : vr (setGpr s i v) j = vr s j := rfl
@[simp] theorem statusBit_setGpr (s : State) (i : Reg) (v : Dword) (k : Nat) : statusBit (setGpr s i v) k = statusBit s k := rfl
@[simp] theorem gpr_setHi (s : State) (v : Dword) (j : Reg) : gpr (setHi s v) j = gpr s j := rfl
@[simp] theorem sr_setHi (s : State) (v : Dword) (j : Reg) : sr (setHi s v) j = sr s j := rfl
@[simp] theorem fpr_setHi (s : State) (v : Dword) (j : Reg) : fpr (setHi s v) j = fpr s j := rfl
@[simp] theorem vr_setHi (s : State) (v : Dword) (j : Reg) : vr (setHi s v) j = vr s j := rfl
@[simp] theorem statusBit_setHi (s : State) (v : Dword) (k : Nat) : statusBit (setHi s v) k = statusBit s k := rfl
@[simp] theorem gpr_setLo (s : State) (v : Dword) (j : Reg) : gpr (setLo s v) j = gpr s j := rfl
@[simp] theorem sr_setLo (s : State) (v : Dword) (j : Reg) : sr (setLo s v) j = sr s j := rfl
@[simp] theorem fpr_setLo (s : State) (v : Dword) (j : Reg) : fpr (setLo s v) j = fpr s j := rfl
@[simp] theorem vr_setLo (s : State) (v : Dword) (j : Reg) : vr (setLo s v) j = vr s j := rfl
@[simp] theorem statusBit_setLo (s : State) (v : Dword) (k : Nat) : statusBit (setLo s v) k = statusBit s k := rfl
@[simp] theorem gpr_setLlbit (s : State) (b : Bool) (j : Reg) : gpr (setLlbit s b) j = gpr s j := rfl
@[simp] theorem sr_setLlbit (s : State) (b : Bool) (j : Reg) : sr (setLlbit s b) j = sr s j := rfl
@[simp] theorem fpr_setLlbit (s : State) (b : Bool) (j : Reg) : fpr (setLlbit s b) j = fpr s j := rfl
@[simp] theorem vr_setLlbit (s : State) (b : Bool) (j : Reg) : vr (setLlbit s b) j = vr s j := rfl
@[simp] theorem statusBit_setLlbit (s : State) (b : Bool) (k : Nat) : statusBit (setLlbit s b) k = statusBit s k := rfl
@[simp] theorem gpr_setFpr (s : State) (i : Reg) (v : Dword) (j : Reg) : gpr (setFpr s i v) j = gpr s j := rfl
@[simp] theorem sr_setFpr (s : State) (i : Reg) (v : Dword) (j : Reg) : sr (setFpr s i v) j = sr s j := rfl
@[simp] theorem vr_setFpr (s : State) (i : Reg) (v : Dword) (j : Reg) : vr (setFpr s i v) j = vr s j := rfl
@[simp] theorem statusBit_setFpr (s : State) (i : Reg) (v : Dword) (k : Nat) : statusBit (setFpr s i v) k = statusBit s k := rfl
@[simp] theorem gpr_setFcr31 (s : State) (v : Word) (j : Reg) : gpr (setFcr31 s v) j = gpr s j := rfl
@[simp] theorem sr_setFcr31 (s : State) (v : Word) (j : Reg) : sr (setFcr31 s v) j = sr s j := rfl
@[simp] theorem fpr_setFcr31 (s : State) (v : Word) (j : Reg) : fpr (setFcr31 s v) j = fpr s j := rfl
@[simp] theorem vr_setFcr31 (s : State) (v : Word) (j : Reg) : vr (setFcr31 s v) j = vr s j := rfl
@[simp] theorem statusBit_setFcr31 (s : State) (v : Word) (k : Nat) : statusBit (setFcr31 s v) k = statusBit s k := rfl
@[simp] theorem gpr_setSr (s : State) (i : Reg) (v : Word) (j : Reg) : gpr (setSr s i v) j = gpr s j := rfl
@[simp] theorem fpr_setSr (s : State) (i : Reg) (v : Word) (j : Reg) : fpr (setSr s i v) j = fpr s j := rfl
@[simp] theorem vr_setSr (s : State) (i : Reg) (v : Word) (j : Reg) : vr (setSr s i v) j = vr s j := rfl
@[simp] theorem statusBit_setSr (s : State) (i : Reg) (v : Word) (k : Nat) : statusBit (setSr s i v) k = statusBit s k := rfl
@[simp] theorem gpr_setVr (s : State) (i : Reg) (v : Vector Half 8) (j : Reg) : gpr (setVr s i v) j = gpr s j := rfl
@[simp] theorem sr_setVr (s : State) (i : Reg) (v : Vector Half 8) (j : Reg) : sr (setVr s i v) j = sr s j := rfl
@[simp] theorem fpr_setVr (s : State) (i : Reg) (v : Vector Half 8) (j : Reg) : fpr (setVr s i v) j = fpr s j := rfl
@[simp] theorem statusBit_setVr (s : State) (i : Reg) (v : Vector Half 8) (k : Nat) : statusBit (setVr s i v) k = statusBit s k := rfl
@[simp] theorem gpr_retireSeq (s : State) (j : Reg) : gpr (retireSeq s) j = gpr s j := rfl
@[simp] theorem sr_retireSeq (s : State) (j : Reg) : sr (retireSeq s) j = sr s j := rfl
@[simp] theorem fpr_retireSeq (s : State) (j : Reg) : fpr (retireSeq s) j = fpr s j := rfl
@[simp] theorem vr_retireSeq (s : State) (j : Reg) : vr (retireSeq s) j = vr s j := rfl
@[simp] theorem statusBit_retireSeq (s : State) (k : Nat) : statusBit (retireSeq s) k = statusBit s k := rfl
@[simp] theorem gpr_retireBranch (taken likely : Bool) (target : Dword) (s : State) (j : Reg) : gpr (retireBranch taken target likely s) j = gpr s j := rfl
@[simp] theorem sr_retireBranch (taken likely : Bool) (target : Dword) (s : State) (j : Reg) : sr (retireBranch taken target likely s) j = sr s j := rfl
@[simp] theorem fpr_retireBranch (taken likely : Bool) (target : Dword) (s : State) (j : Reg) : fpr (retireBranch taken target likely s) j = fpr s j := rfl
@[simp] theorem vr_retireBranch (taken likely : Bool) (target : Dword) (s : State) (j : Reg) : vr (retireBranch taken target likely s) j = vr s j := rfl
@[simp] theorem statusBit_retireBranch (taken likely : Bool) (target : Dword) (s : State) (k : Nat) : statusBit (retireBranch taken target likely s) k = statusBit s k := rfl
@[simp] theorem gpr_retireEret (newpc : Dword) (s : State) (j : Reg) : gpr (retireEret newpc s) j = gpr s j := rfl
@[simp] theorem sr_retireEret (newpc : Dword) (s : State) (j : Reg) : sr (retireEret newpc s) j = sr s j := rfl
@[simp] theorem fpr_retireEret (newpc : Dword) (s : State) (j : Reg) : fpr (retireEret newpc s) j = fpr s j := rfl
@[simp] theorem vr_retireEret (newpc : Dword) (s : State) (j : Reg) : vr (retireEret newpc s) j = vr s j := rfl
@[simp] theorem statusBit_retireEret (newpc : Dword) (s : State) (k : Nat) : statusBit (retireEret newpc s) k = statusBit s k := rfl
@[simp] theorem gpr_enter (e : Exception) (slot : Bool) (s : State) (j : Reg) : gpr (enter e slot s) j = gpr s j := rfl
@[simp] theorem sr_enter (e : Exception) (slot : Bool) (s : State) (j : Reg) : sr (enter e slot s) j = sr s j := rfl
@[simp] theorem fpr_enter (e : Exception) (slot : Bool) (s : State) (j : Reg) : fpr (enter e slot s) j = fpr s j := rfl
@[simp] theorem vr_enter (e : Exception) (slot : Bool) (s : State) (j : Reg) : vr (enter e slot s) j = vr s j := rfl
@[simp] theorem gpr_miRaise (s : State) (q : MiSource) (j : Reg) : gpr (miRaise s q) j = gpr s j := rfl
@[simp] theorem sr_miRaise (s : State) (q : MiSource) (j : Reg) : sr (miRaise s q) j = sr s j := rfl
@[simp] theorem fpr_miRaise (s : State) (q : MiSource) (j : Reg) : fpr (miRaise s q) j = fpr s j := rfl
@[simp] theorem vr_miRaise (s : State) (q : MiSource) (j : Reg) : vr (miRaise s q) j = vr s j := rfl
@[simp] theorem statusBit_miRaise (s : State) (q : MiSource) (k : Nat) : statusBit (miRaise s q) k = statusBit s k := rfl
@[simp] theorem gpr_miAck (s : State) (q : MiSource) (j : Reg) : gpr (miAck s q) j = gpr s j := rfl
@[simp] theorem sr_miAck (s : State) (q : MiSource) (j : Reg) : sr (miAck s q) j = sr s j := rfl
@[simp] theorem fpr_miAck (s : State) (q : MiSource) (j : Reg) : fpr (miAck s q) j = fpr s j := rfl
@[simp] theorem vr_miAck (s : State) (q : MiSource) (j : Reg) : vr (miAck s q) j = vr s j := rfl
@[simp] theorem statusBit_miAck (s : State) (q : MiSource) (k : Nat) : statusBit (miAck s q) k = statusBit s k := rfl
@[simp] theorem gpr_vuRetireSeq (s : State) (j : Reg) : gpr (vuRetireSeq s) j = gpr s j := rfl
@[simp] theorem sr_vuRetireSeq (s : State) (j : Reg) : sr (vuRetireSeq s) j = sr s j := rfl
@[simp] theorem fpr_vuRetireSeq (s : State) (j : Reg) : fpr (vuRetireSeq s) j = fpr s j := rfl
@[simp] theorem vr_vuRetireSeq (s : State) (j : Reg) : vr (vuRetireSeq s) j = vr s j := rfl
@[simp] theorem statusBit_vuRetireSeq (s : State) (k : Nat) : statusBit (vuRetireSeq s) k = statusBit s k := rfl
@[simp] theorem gpr_vuRetireBranch (taken : Bool) (target : BitVec 12) (s : State) (j : Reg) : gpr (vuRetireBranch taken target s) j = gpr s j := rfl
@[simp] theorem sr_vuRetireBranch (taken : Bool) (target : BitVec 12) (s : State) (j : Reg) : sr (vuRetireBranch taken target s) j = sr s j := rfl
@[simp] theorem fpr_vuRetireBranch (taken : Bool) (target : BitVec 12) (s : State) (j : Reg) : fpr (vuRetireBranch taken target s) j = fpr s j := rfl
@[simp] theorem vr_vuRetireBranch (taken : Bool) (target : BitVec 12) (s : State) (j : Reg) : vr (vuRetireBranch taken target s) j = vr s j := rfl
@[simp] theorem statusBit_vuRetireBranch (taken : Bool) (target : BitVec 12) (s : State) (k : Nat) : statusBit (vuRetireBranch taken target s) k = statusBit s k := rfl
@[simp] theorem gpr_setPhase (p : Phase) (s : State) (j : Reg) : gpr (setPhase p s) j = gpr s j := rfl
@[simp] theorem sr_setPhase (p : Phase) (s : State) (j : Reg) : sr (setPhase p s) j = sr s j := rfl
@[simp] theorem fpr_setPhase (p : Phase) (s : State) (j : Reg) : fpr (setPhase p s) j = fpr s j := rfl
@[simp] theorem vr_setPhase (p : Phase) (s : State) (j : Reg) : vr (setPhase p s) j = vr s j := rfl
@[simp] theorem statusBit_setPhase (p : Phase) (s : State) (k : Nat) : statusBit (setPhase p s) k = statusBit s k := rfl

/-! ## The register written -/

/-- x[rd] after a write of it: the value, or 0 for x[0]. -/
theorem gpr_setGpr_same (s : State) (i : Reg) (v : Dword) : gpr (setGpr s i v) i = if i = 0 then 0 else v := by
  unfold gpr setGpr
  by_cases h : i = 0
  · rw [if_pos h, if_pos h]
  · rw [if_neg h, if_neg h, Regs.get_setNonzero_same _ _ h]

/-- Every other x[j] after a write of x[i]. -/
theorem gpr_setGpr_ne (s : State) {i j : Reg} (v : Dword) (h : j ≠ i) : gpr (setGpr s i v) j = gpr s j := by
  unfold gpr setGpr
  split
  · rfl
  · exact Regs.get_setNonzero_ne _ _ h

theorem sr_setSr_same (s : State) (i : Reg) (v : Word) : sr (setSr s i v) i = if i = 0 then 0 else v := by
  unfold sr setSr
  by_cases h : i = 0
  · rw [if_pos h, if_pos h]
  · rw [if_neg h, if_neg h, Regs.get_setNonzero_same _ _ h]

theorem sr_setSr_ne (s : State) {i j : Reg} (v : Word) (h : j ≠ i) : sr (setSr s i v) j = sr s j := by
  unfold sr setSr
  split
  · rfl
  · exact Regs.get_setNonzero_ne _ _ h

@[simp] theorem fpr_setFpr_same (s : State) (i : Reg) (v : Dword) : fpr (setFpr s i v) i = v := by
  simp [fpr, setFpr]

theorem fpr_setFpr_ne (s : State) {i j : Reg} (v : Dword) (h : j ≠ i) : fpr (setFpr s i v) j = fpr s j :=
  Regs.get_set_ne _ _ h

@[simp] theorem vr_setVr_same (s : State) (i : Reg) (v : Vector Half 8) : vr (setVr s i v) i = v := by
  simp [vr, setVr]

theorem vr_setVr_ne (s : State) {i j : Reg} (v : Vector Half 8) (h : j ≠ i) : vr (setVr s i v) j = vr s j :=
  Regs.get_set_ne _ _ h

/-! ## What a phase of a meaning can answer -/

/-- `controlTransfer` answers a next state only outside a delay slot, and then what it was given. -/
theorem controlTransfer_next {s t : State} {r : Result} (h : controlTransfer s r = .next t) :
    s.cpu.ds = false ∧ r = .next t := by
  unfold controlTransfer at h
  split at h
  · cases h
  · rename_i hd
    exact ⟨by simpa using hd, h⟩

/-- `linkNotSource` answers a next state only without a clash. -/
theorem linkNotSource_next {c : Bool} {t : State} {r : Result} (h : linkNotSource c r = .next t) :
    c = false ∧ r = .next t := by
  unfold linkNotSource at h
  split at h
  · cases h
  · rename_i hc
    exact ⟨by simpa using hc, h⟩

/-- `on32` answers what it was given, or refuses. -/
theorem on32_next {s t : State} {vs : List Dword} {r : Result} (h : on32 s vs r = .next t) : r = .next t := by
  unfold on32 at h
  split at h
  · exact h
  · split at h
    · exact h
    · cases h

/-- `withCp1` answers what it was given, or Coprocessor Unusable. -/
theorem withCp1_next {s t : State} {r : Result} (h : withCp1 s r = .next t) :
    (statusCu1 s = true ∧ r = .next t) ∨ t = enter (.coprocessorUnusable 1) s.cpu.ds s := by
  unfold withCp1 at h
  split at h
  · exact .inl ⟨by assumption, h⟩
  · cases h
    exact .inr rfl

/-- `onFprs` answers what it was given, or Coprocessor Unusable. -/
theorem onFprs_next {s t : State} {l : List (Fmt × Reg)} {r : Result} (h : onFprs s l r = .next t) :
    r = .next t ∨ t = enter (.coprocessorUnusable 1) s.cpu.ds s := by
  rcases withCp1_next h with ⟨_, h⟩ | h
  · split at h
    · exact .inl h
    · cases h
  · exact .inr h

/-- `translated` answers what follows it, at a physical address, or an address error of that access. -/
theorem translated_next {s t : State} {k : Access} {va : Dword} {next : Word → Result}
    (h : translated s k va next = .next t) :
    (∃ pa, translateVa s k va = .physical pa ∧ next pa = .next t) ∨
      ∃ e, translateVa s k va = .exception e ∧ t = enter e s.cpu.ds s := by
  unfold translated at h
  split at h
  · exact .inl ⟨_, by assumption, h⟩
  · cases h
    exact .inr ⟨_, by assumption, rfl⟩
  · cases h

/-- `stored` answers what follows an accepted write. -/
theorem stored_next {w : Except Refusal State} {next : State → Result} {t : State}
    (h : stored w next = .next t) : ∃ s', w = .ok s' ∧ next s' = .next t := by
  unfold stored at h
  split at h
  · exact ⟨_, rfl, h⟩
  · cases h

/-- `modeCheck` answers the state it was given, in kernel mode. -/
theorem modeCheck_ok {s t : State} (h : modeCheck s = .ok t) : t = s ∧ kernelMode s = true := by
  unfold modeCheck at h
  split at h
  · cases h
    exact ⟨rfl, by assumption⟩
  · cases h

/-- Exception entry leaves the machine in kernel mode with EXL set. -/
theorem statusExl_enter (e : Exception) (slot : Bool) (s : State) : statusExl (enter e slot s) = true := by
  simp [statusExl, statusBit]

theorem kernelMode_enter (e : Exception) (slot : Bool) (s : State) : kernelMode (enter e slot s) = true := by
  simp [kernelMode, statusExl_enter]

/-- The poll does nothing while EXL is set, so not after an exception. -/
theorem pollInterrupt_of_exl {s : State} (h : statusExl s = true) : pollInterrupt s = s := by
  simp [pollInterrupt, interruptTaken, h]

/-- `countTick` changes count_phase, Count and Cause.IP7 alone. -/
theorem countTick_cases (s : State) :
    countTick s = { s with cpu.countPhase := s.cpu.countPhase + 1 } ∨
      countTick s = { s with
        cpu.countPhase := 0
        cp0.count := s.cp0.count + 1
        cp0.cause := if s.cp0.count + 1 = s.cp0.compare then setBit s.cp0.cause 15 true else s.cp0.cause } := by
  unfold countTick
  split
  · exact .inr rfl
  · exact .inl rfl

end Sys2Proof.Machine
end

