-- ==== Sys2Proof/Laws/Bus.lean ====
section
/-! SUPPORT. What a bus access can change: a read at most SP_SEMAPHORE, a register write only the state of the
peripherals, a memory write only memory, which keeps its canonical form. -/

namespace Sys2Proof.Machine

set_option Elab.async false

/-! ## Reads -/

/-- A register read changes at most SP_SEMAPHORE. -/
theorem regReadEffect_cases (s : State) (g : RegGroup) (off : Nat) :
    regReadEffect s g off = s ∨ regReadEffect s g off = { s with sp.semaphore := true } := by
  unfold regReadEffect; split <;> simp

theorem memReadSmall_cases (s : State) (pa : Word) (n : Nat) :
    (memReadSmall s pa n).2 = s ∨ (memReadSmall s pa n).2 = { s with sp.semaphore := true } := by
  unfold memReadSmall; split <;> first | exact .inl rfl | exact regReadEffect_cases _ _ _

/-- A bus read changes at most SP_SEMAPHORE, which it can set. -/
theorem memRead_cases (s : State) (pa : Word) (n : Nat) :
    (memRead s pa n).2 = s ∨ (memRead s pa n).2 = { s with sp.semaphore := true } := by
  unfold memRead; split <;> try exact .inl rfl
  split
  · rcases memReadSmall_cases s pa 4 with h | h <;>
      rcases memReadSmall_cases (memReadSmall s pa 4).2 (pa + 4) 4 with h2 | h2 <;> simp_all
  · exact memReadSmall_cases s pa n

@[simp] theorem memRead_cpu (s : State) (pa : Word) (n : Nat) : (memRead s pa n).2.cpu = s.cpu := by
  rcases memRead_cases s pa n with h | h <;> rw [h]
@[simp] theorem memRead_cp0 (s : State) (pa : Word) (n : Nat) : (memRead s pa n).2.cp0 = s.cp0 := by
  rcases memRead_cases s pa n with h | h <;> rw [h]
@[simp] theorem memRead_fpu (s : State) (pa : Word) (n : Nat) : (memRead s pa n).2.fpu = s.fpu := by
  rcases memRead_cases s pa n with h | h <;> rw [h]
@[simp] theorem memRead_vu (s : State) (pa : Word) (n : Nat) : (memRead s pa n).2.vu = s.vu := by
  rcases memRead_cases s pa n with h | h <;> rw [h]
@[simp] theorem memRead_rdp (s : State) (pa : Word) (n : Nat) : (memRead s pa n).2.rdp = s.rdp := by
  rcases memRead_cases s pa n with h | h <;> rw [h]
@[simp] theorem memRead_mi (s : State) (pa : Word) (n : Nat) : (memRead s pa n).2.mi = s.mi := by
  rcases memRead_cases s pa n with h | h <;> rw [h]
@[simp] theorem memRead_pi (s : State) (pa : Word) (n : Nat) : (memRead s pa n).2.pi = s.pi := by
  rcases memRead_cases s pa n with h | h <;> rw [h]
@[simp] theorem memRead_si (s : State) (pa : Word) (n : Nat) : (memRead s pa n).2.si = s.si := by
  rcases memRead_cases s pa n with h | h <;> rw [h]
@[simp] theorem memRead_ai (s : State) (pa : Word) (n : Nat) : (memRead s pa n).2.ai = s.ai := by
  rcases memRead_cases s pa n with h | h <;> rw [h]
@[simp] theorem memRead_vi (s : State) (pa : Word) (n : Nat) : (memRead s pa n).2.vi = s.vi := by
  rcases memRead_cases s pa n with h | h <;> rw [h]
@[simp] theorem memRead_ri (s : State) (pa : Word) (n : Nat) : (memRead s pa n).2.ri = s.ri := by
  rcases memRead_cases s pa n with h | h <;> rw [h]
@[simp] theorem memRead_busy (s : State) (pa : Word) (n : Nat) : (memRead s pa n).2.busy = s.busy := by
  rcases memRead_cases s pa n with h | h <;> rw [h]
@[simp] theorem memRead_dma (s : State) (pa : Word) (n : Nat) : (memRead s pa n).2.dma = s.dma := by
  rcases memRead_cases s pa n with h | h <;> rw [h]
@[simp] theorem memRead_clock (s : State) (pa : Word) (n : Nat) : (memRead s pa n).2.clock = s.clock := by
  rcases memRead_cases s pa n with h | h <;> rw [h]
@[simp] theorem memRead_out (s : State) (pa : Word) (n : Nat) : (memRead s pa n).2.out = s.out := by
  rcases memRead_cases s pa n with h | h <;> rw [h]
@[simp] theorem memRead_controllerLatch (s : State) (pa : Word) (n : Nat) : (memRead s pa n).2.controllerLatch = s.controllerLatch := by
  rcases memRead_cases s pa n with h | h <;> rw [h]
@[simp] theorem memRead_refused (s : State) (pa : Word) (n : Nat) : (memRead s pa n).2.refused = s.refused := by
  rcases memRead_cases s pa n with h | h <;> rw [h]
@[simp] theorem memRead_draws (s : State) (pa : Word) (n : Nat) : (memRead s pa n).2.draws = s.draws := by
  rcases memRead_cases s pa n with h | h <;> rw [h]
@[simp] theorem memRead_cfg (s : State) (pa : Word) (n : Nat) : (memRead s pa n).2.cfg = s.cfg := by
  rcases memRead_cases s pa n with h | h <;> rw [h]
@[simp] theorem memRead_mem (s : State) (pa : Word) (n : Nat) : (memRead s pa n).2.mem = s.mem := by
  rcases memRead_cases s pa n with h | h <;> rw [h]

@[simp] theorem gpr_memRead (s : State) (pa : Word) (n : Nat) (i : Reg) : gpr (memRead s pa n).2 i = gpr s i := by
  rcases memRead_cases s pa n with h | h <;> rw [h] <;> rfl
@[simp] theorem sr_memRead (s : State) (pa : Word) (n : Nat) (i : Reg) : sr (memRead s pa n).2 i = sr s i := by
  rcases memRead_cases s pa n with h | h <;> rw [h] <;> rfl
@[simp] theorem fpr_memRead (s : State) (pa : Word) (n : Nat) (i : Reg) : fpr (memRead s pa n).2 i = fpr s i := by
  rcases memRead_cases s pa n with h | h <;> rw [h] <;> rfl
@[simp] theorem vr_memRead (s : State) (pa : Word) (n : Nat) (i : Reg) : vr (memRead s pa n).2 i = vr s i := by
  rcases memRead_cases s pa n with h | h <;> rw [h] <;> rfl

/-! ## DMA creation -/

/-- A busy peripheral gets no request. -/
theorem startDma_busy {s : State} {o : DmaOwner} (src dst : DmaPlace) (len rows skip : Nat) (h : busy s o = true) :
    startDma s o src dst len rows skip = s := by simp [startDma, h]

/-- A free one gets one, at the end of the queue, and is busy. -/
theorem startDma_free {s : State} {o : DmaOwner} (src dst : DmaPlace) (len rows skip : Nat) (h : busy s o = false) :
    startDma s o src dst len rows skip = { setBusy s o true with dma := s.dma ++ [{
      owner := o, src := src, dst := dst, len := len, rows := rows, skip := skip,
      deadline := s.clock.tick + s.cfg.dmaDelayTicks }] } := by
  cases o <;> simp [startDma, h, setBusy]

@[simp] theorem startDma_cpu (s : State) (o : DmaOwner) (src dst : DmaPlace) (len rows skip : Nat) :
    (startDma s o src dst len rows skip).cpu = s.cpu := by unfold startDma; split <;> first | rfl | cases o <;> rfl
@[simp] theorem startDma_cp0 (s : State) (o : DmaOwner) (src dst : DmaPlace) (len rows skip : Nat) :
    (startDma s o src dst len rows skip).cp0 = s.cp0 := by unfold startDma; split <;> first | rfl | cases o <;> rfl
@[simp] theorem startDma_fpu (s : State) (o : DmaOwner) (src dst : DmaPlace) (len rows skip : Nat) :
    (startDma s o src dst len rows skip).fpu = s.fpu := by unfold startDma; split <;> first | rfl | cases o <;> rfl
@[simp] theorem startDma_clock (s : State) (o : DmaOwner) (src dst : DmaPlace) (len rows skip : Nat) :
    (startDma s o src dst len rows skip).clock = s.clock := by unfold startDma; split <;> first | rfl | cases o <;> rfl
@[simp] theorem startDma_out (s : State) (o : DmaOwner) (src dst : DmaPlace) (len rows skip : Nat) :
    (startDma s o src dst len rows skip).out = s.out := by unfold startDma; split <;> first | rfl | cases o <;> rfl
@[simp] theorem startDma_controllerLatch (s : State) (o : DmaOwner) (src dst : DmaPlace) (len rows skip : Nat) :
    (startDma s o src dst len rows skip).controllerLatch = s.controllerLatch := by unfold startDma; split <;> first | rfl | cases o <;> rfl
@[simp] theorem startDma_refused (s : State) (o : DmaOwner) (src dst : DmaPlace) (len rows skip : Nat) :
    (startDma s o src dst len rows skip).refused = s.refused := by unfold startDma; split <;> first | rfl | cases o <;> rfl
@[simp] theorem startDma_draws (s : State) (o : DmaOwner) (src dst : DmaPlace) (len rows skip : Nat) :
    (startDma s o src dst len rows skip).draws = s.draws := by unfold startDma; split <;> first | rfl | cases o <;> rfl
@[simp] theorem startDma_cfg (s : State) (o : DmaOwner) (src dst : DmaPlace) (len rows skip : Nat) :
    (startDma s o src dst len rows skip).cfg = s.cfg := by unfold startDma; split <;> first | rfl | cases o <;> rfl
@[simp] theorem startDma_mem (s : State) (o : DmaOwner) (src dst : DmaPlace) (len rows skip : Nat) :
    (startDma s o src dst len rows skip).mem = s.mem := by unfold startDma; split <;> first | rfl | cases o <;> rfl
@[simp] theorem startDma_vu (s : State) (o : DmaOwner) (src dst : DmaPlace) (len rows skip : Nat) :
    (startDma s o src dst len rows skip).vu = s.vu := by unfold startDma; split <;> first | rfl | cases o <;> rfl
@[simp] theorem startDma_sp (s : State) (o : DmaOwner) (src dst : DmaPlace) (len rows skip : Nat) :
    (startDma s o src dst len rows skip).sp = s.sp := by unfold startDma; split <;> first | rfl | cases o <;> rfl
@[simp] theorem startDma_rdp (s : State) (o : DmaOwner) (src dst : DmaPlace) (len rows skip : Nat) :
    (startDma s o src dst len rows skip).rdp = s.rdp := by unfold startDma; split <;> first | rfl | cases o <;> rfl
@[simp] theorem startDma_mi (s : State) (o : DmaOwner) (src dst : DmaPlace) (len rows skip : Nat) :
    (startDma s o src dst len rows skip).mi = s.mi := by unfold startDma; split <;> first | rfl | cases o <;> rfl
@[simp] theorem startDma_pi (s : State) (o : DmaOwner) (src dst : DmaPlace) (len rows skip : Nat) :
    (startDma s o src dst len rows skip).pi = s.pi := by unfold startDma; split <;> first | rfl | cases o <;> rfl
@[simp] theorem startDma_si (s : State) (o : DmaOwner) (src dst : DmaPlace) (len rows skip : Nat) :
    (startDma s o src dst len rows skip).si = s.si := by unfold startDma; split <;> first | rfl | cases o <;> rfl
@[simp] theorem startDma_ai (s : State) (o : DmaOwner) (src dst : DmaPlace) (len rows skip : Nat) :
    (startDma s o src dst len rows skip).ai = s.ai := by unfold startDma; split <;> first | rfl | cases o <;> rfl
@[simp] theorem startDma_vi (s : State) (o : DmaOwner) (src dst : DmaPlace) (len rows skip : Nat) :
    (startDma s o src dst len rows skip).vi = s.vi := by unfold startDma; split <;> first | rfl | cases o <;> rfl
@[simp] theorem startDma_ri (s : State) (o : DmaOwner) (src dst : DmaPlace) (len rows skip : Nat) :
    (startDma s o src dst len rows skip).ri = s.ri := by unfold startDma; split <;> first | rfl | cases o <;> rfl

/-! ## Register writes -/

@[simp] theorem regWrite_cpu (s : State) (g : RegGroup) (off : Nat) (v : Word) : (regWrite s g off v).cpu = s.cpu := by
  cases g <;> simp only [regWrite, spWrite, spPcWrite, dpWrite, miWrite, viWrite, aiWrite, piWrite, riWrite, siWrite] <;>
    repeat (first | rfl | exact startDma_cpu .. | split)
@[simp] theorem regWrite_cp0 (s : State) (g : RegGroup) (off : Nat) (v : Word) : (regWrite s g off v).cp0 = s.cp0 := by
  cases g <;> simp only [regWrite, spWrite, spPcWrite, dpWrite, miWrite, viWrite, aiWrite, piWrite, riWrite, siWrite] <;>
    repeat (first | rfl | exact startDma_cp0 .. | split)
@[simp] theorem regWrite_fpu (s : State) (g : RegGroup) (off : Nat) (v : Word) : (regWrite s g off v).fpu = s.fpu := by
  cases g <;> simp only [regWrite, spWrite, spPcWrite, dpWrite, miWrite, viWrite, aiWrite, piWrite, riWrite, siWrite] <;>
    repeat (first | rfl | exact startDma_fpu .. | split)
@[simp] theorem regWrite_clock (s : State) (g : RegGroup) (off : Nat) (v : Word) : (regWrite s g off v).clock = s.clock := by
  cases g <;> simp only [regWrite, spWrite, spPcWrite, dpWrite, miWrite, viWrite, aiWrite, piWrite, riWrite, siWrite] <;>
    repeat (first | rfl | exact startDma_clock .. | split)
@[simp] theorem regWrite_out (s : State) (g : RegGroup) (off : Nat) (v : Word) : (regWrite s g off v).out = s.out := by
  cases g <;> simp only [regWrite, spWrite, spPcWrite, dpWrite, miWrite, viWrite, aiWrite, piWrite, riWrite, siWrite] <;>
    repeat (first | rfl | exact startDma_out .. | split)
@[simp] theorem regWrite_controllerLatch (s : State) (g : RegGroup) (off : Nat) (v : Word) : (regWrite s g off v).controllerLatch = s.controllerLatch := by
  cases g <;> simp only [regWrite, spWrite, spPcWrite, dpWrite, miWrite, viWrite, aiWrite, piWrite, riWrite, siWrite] <;>
    repeat (first | rfl | exact startDma_controllerLatch .. | split)
@[simp] theorem regWrite_refused (s : State) (g : RegGroup) (off : Nat) (v : Word) : (regWrite s g off v).refused = s.refused := by
  cases g <;> simp only [regWrite, spWrite, spPcWrite, dpWrite, miWrite, viWrite, aiWrite, piWrite, riWrite, siWrite] <;>
    repeat (first | rfl | exact startDma_refused .. | split)
@[simp] theorem regWrite_draws (s : State) (g : RegGroup) (off : Nat) (v : Word) : (regWrite s g off v).draws = s.draws := by
  cases g <;> simp only [regWrite, spWrite, spPcWrite, dpWrite, miWrite, viWrite, aiWrite, piWrite, riWrite, siWrite] <;>
    repeat (first | rfl | exact startDma_draws .. | split)
@[simp] theorem regWrite_cfg (s : State) (g : RegGroup) (off : Nat) (v : Word) : (regWrite s g off v).cfg = s.cfg := by
  cases g <;> simp only [regWrite, spWrite, spPcWrite, dpWrite, miWrite, viWrite, aiWrite, piWrite, riWrite, siWrite] <;>
    repeat (first | rfl | exact startDma_cfg .. | split)
@[simp] theorem regWrite_mem (s : State) (g : RegGroup) (off : Nat) (v : Word) : (regWrite s g off v).mem = s.mem := by
  cases g <;> simp only [regWrite, spWrite, spPcWrite, dpWrite, miWrite, viWrite, aiWrite, piWrite, riWrite, siWrite] <;>
    repeat (first | rfl | exact startDma_mem .. | split)

@[simp] theorem regWrite_rdp_fb (s : State) (g : RegGroup) (off : Nat) (v : Word) : (regWrite s g off v).rdp.fb = s.rdp.fb := by
  cases g <;> simp only [regWrite, spWrite, spPcWrite, dpWrite, miWrite, viWrite, aiWrite, piWrite, riWrite, siWrite] <;>
    repeat (first | rfl | (rw [startDma_rdp]) | split)
@[simp] theorem regWrite_rdp_depth (s : State) (g : RegGroup) (off : Nat) (v : Word) : (regWrite s g off v).rdp.depth = s.rdp.depth := by
  cases g <;> simp only [regWrite, spWrite, spPcWrite, dpWrite, miWrite, viWrite, aiWrite, piWrite, riWrite, siWrite] <;>
    repeat (first | rfl | (rw [startDma_rdp]) | split)
@[simp] theorem regWrite_rdp_dpState (s : State) (g : RegGroup) (off : Nat) (v : Word) : (regWrite s g off v).rdp.dpState = s.rdp.dpState := by
  cases g <;> simp only [regWrite, spWrite, spPcWrite, dpWrite, miWrite, viWrite, aiWrite, piWrite, riWrite, siWrite] <;>
    repeat (first | rfl | (rw [startDma_rdp]) | split)
@[simp] theorem regWrite_rdp_fbWidth (s : State) (g : RegGroup) (off : Nat) (v : Word) : (regWrite s g off v).rdp.fbWidth = s.rdp.fbWidth := by
  cases g <;> simp only [regWrite, spWrite, spPcWrite, dpWrite, miWrite, viWrite, aiWrite, piWrite, riWrite, siWrite] <;>
    repeat (first | rfl | (rw [startDma_rdp]) | split)
@[simp] theorem regWrite_rdp_fbHeight (s : State) (g : RegGroup) (off : Nat) (v : Word) : (regWrite s g off v).rdp.fbHeight = s.rdp.fbHeight := by
  cases g <;> simp only [regWrite, spWrite, spPcWrite, dpWrite, miWrite, viWrite, aiWrite, piWrite, riWrite, siWrite] <;>
    repeat (first | rfl | (rw [startDma_rdp]) | split)
@[simp] theorem regWrite_rdp_fillColor (s : State) (g : RegGroup) (off : Nat) (v : Word) : (regWrite s g off v).rdp.fillColor = s.rdp.fillColor := by
  cases g <;> simp only [regWrite, spWrite, spPcWrite, dpWrite, miWrite, viWrite, aiWrite, piWrite, riWrite, siWrite] <;>
    repeat (first | rfl | (rw [startDma_rdp]) | split)

/-! ## Memory writes -/

/-- A word write is a write of memory, a register write, or nothing. -/
theorem memWriteWord_cases (s : State) (pa : Word) (v : Dword) :
    memWriteWord s pa v = s ∨ memWriteWord s pa v = { s with mem := Memory.write s.mem pa.toNat v 4 } ∨
      ∃ g off, region s.cfg.rdramSize pa.toNat = .registers g off ∧ memWriteWord s pa v = regWrite s g off (lo32 v) := by
  unfold memWriteWord; split
  · exact .inr (.inl rfl)
  · exact .inr (.inr ⟨_, _, by assumption, rfl⟩)
  all_goals exact .inl rfl

/-- An accepted write is a write of memory, one or two word writes of registers, or nothing. -/
theorem memWrite_ok {s t : State} {pa : Word} {n : Nat} {v : Dword} (h : memWrite s pa n v = .ok t) :
    t = s ∨ t = { s with mem := Memory.write s.mem pa.toNat v n } ∨
      (∃ g off, region s.cfg.rdramSize pa.toNat = .registers g off ∧ n = 4 ∧ t = regWrite s g off (lo32 v)) ∨
      (n = 8 ∧ t = memWriteWord (memWriteWord s pa (v >>> 32)) (pa + 4) v) := by
  unfold memWrite at h; split at h
  · cases h; exact .inr (.inl rfl)
  · split at h
    · cases h; exact .inr (.inr (.inr ⟨by assumption, rfl⟩))
    · split at h
      · cases h; exact .inr (.inr (.inl ⟨_, _, by assumption, by assumption, rfl⟩))
      · cases h
  all_goals (cases h; exact .inl rfl)

/-- An accepted masked write is a write of memory, a whole write, or nothing. -/
theorem memWriteMasked_ok {s t : State} {pa : Word} {n : Nat} {v : Dword} {m : Byte}
    (h : memWriteMasked s pa n v m = .ok t) :
    t = s ∨ t = { s with mem := Memory.writeMasked s.mem pa.toNat v m n } ∨ memWrite s pa n v = .ok t := by
  unfold memWriteMasked at h; split at h
  · cases h; exact .inr (.inl rfl)
  · split at h
    · exact .inr (.inr h)
    · cases h
  all_goals (cases h; exact .inl rfl)

@[simp] theorem memWriteWord_cpu (s : State) (pa : Word) (v : Dword) : (memWriteWord s pa v).cpu = s.cpu := by
  rcases memWriteWord_cases s pa v with h | h | ⟨g, off, -, h⟩ <;> rw [h]; exact regWrite_cpu ..
@[simp] theorem memWriteWord_cp0 (s : State) (pa : Word) (v : Dword) : (memWriteWord s pa v).cp0 = s.cp0 := by
  rcases memWriteWord_cases s pa v with h | h | ⟨g, off, -, h⟩ <;> rw [h]; exact regWrite_cp0 ..
@[simp] theorem memWriteWord_fpu (s : State) (pa : Word) (v : Dword) : (memWriteWord s pa v).fpu = s.fpu := by
  rcases memWriteWord_cases s pa v with h | h | ⟨g, off, -, h⟩ <;> rw [h]; exact regWrite_fpu ..
@[simp] theorem memWriteWord_clock (s : State) (pa : Word) (v : Dword) : (memWriteWord s pa v).clock = s.clock := by
  rcases memWriteWord_cases s pa v with h | h | ⟨g, off, -, h⟩ <;> rw [h]; exact regWrite_clock ..
@[simp] theorem memWriteWord_out (s : State) (pa : Word) (v : Dword) : (memWriteWord s pa v).out = s.out := by
  rcases memWriteWord_cases s pa v with h | h | ⟨g, off, -, h⟩ <;> rw [h]; exact regWrite_out ..
@[simp] theorem memWriteWord_controllerLatch (s : State) (pa : Word) (v : Dword) : (memWriteWord s pa v).controllerLatch = s.controllerLatch := by
  rcases memWriteWord_cases s pa v with h | h | ⟨g, off, -, h⟩ <;> rw [h]; exact regWrite_controllerLatch ..
@[simp] theorem memWriteWord_refused (s : State) (pa : Word) (v : Dword) : (memWriteWord s pa v).refused = s.refused := by
  rcases memWriteWord_cases s pa v with h | h | ⟨g, off, -, h⟩ <;> rw [h]; exact regWrite_refused ..
@[simp] theorem memWriteWord_draws (s : State) (pa : Word) (v : Dword) : (memWriteWord s pa v).draws = s.draws := by
  rcases memWriteWord_cases s pa v with h | h | ⟨g, off, -, h⟩ <;> rw [h]; exact regWrite_draws ..
@[simp] theorem memWriteWord_cfg (s : State) (pa : Word) (v : Dword) : (memWriteWord s pa v).cfg = s.cfg := by
  rcases memWriteWord_cases s pa v with h | h | ⟨g, off, -, h⟩ <;> rw [h]; exact regWrite_cfg ..
@[simp] theorem memWriteWord_rdp_fb (s : State) (pa : Word) (v : Dword) : (memWriteWord s pa v).rdp.fb = s.rdp.fb := by
  rcases memWriteWord_cases s pa v with h | h | ⟨g, off, -, h⟩ <;> rw [h]; exact regWrite_rdp_fb ..
@[simp] theorem memWriteWord_rdp_depth (s : State) (pa : Word) (v : Dword) : (memWriteWord s pa v).rdp.depth = s.rdp.depth := by
  rcases memWriteWord_cases s pa v with h | h | ⟨g, off, -, h⟩ <;> rw [h]; exact regWrite_rdp_depth ..
@[simp] theorem memWriteWord_rdp_dpState (s : State) (pa : Word) (v : Dword) : (memWriteWord s pa v).rdp.dpState = s.rdp.dpState := by
  rcases memWriteWord_cases s pa v with h | h | ⟨g, off, -, h⟩ <;> rw [h]; exact regWrite_rdp_dpState ..
@[simp] theorem memWriteWord_rdp_fbWidth (s : State) (pa : Word) (v : Dword) : (memWriteWord s pa v).rdp.fbWidth = s.rdp.fbWidth := by
  rcases memWriteWord_cases s pa v with h | h | ⟨g, off, -, h⟩ <;> rw [h]; exact regWrite_rdp_fbWidth ..
@[simp] theorem memWriteWord_rdp_fbHeight (s : State) (pa : Word) (v : Dword) : (memWriteWord s pa v).rdp.fbHeight = s.rdp.fbHeight := by
  rcases memWriteWord_cases s pa v with h | h | ⟨g, off, -, h⟩ <;> rw [h]; exact regWrite_rdp_fbHeight ..
@[simp] theorem memWriteWord_rdp_fillColor (s : State) (pa : Word) (v : Dword) : (memWriteWord s pa v).rdp.fillColor = s.rdp.fillColor := by
  rcases memWriteWord_cases s pa v with h | h | ⟨g, off, -, h⟩ <;> rw [h]; exact regWrite_rdp_fillColor ..
theorem memWrite_cpu {s t : State} {pa : Word} {n : Nat} {v : Dword} (h : memWrite s pa n v = .ok t) : t.cpu = s.cpu := by
  rcases memWrite_ok h with h | h | ⟨g, off, -, -, h⟩ | ⟨-, h⟩ <;> simp [h]
theorem memWrite_cp0 {s t : State} {pa : Word} {n : Nat} {v : Dword} (h : memWrite s pa n v = .ok t) : t.cp0 = s.cp0 := by
  rcases memWrite_ok h with h | h | ⟨g, off, -, -, h⟩ | ⟨-, h⟩ <;> simp [h]
theorem memWrite_fpu {s t : State} {pa : Word} {n : Nat} {v : Dword} (h : memWrite s pa n v = .ok t) : t.fpu = s.fpu := by
  rcases memWrite_ok h with h | h | ⟨g, off, -, -, h⟩ | ⟨-, h⟩ <;> simp [h]
theorem memWrite_clock {s t : State} {pa : Word} {n : Nat} {v : Dword} (h : memWrite s pa n v = .ok t) : t.clock = s.clock := by
  rcases memWrite_ok h with h | h | ⟨g, off, -, -, h⟩ | ⟨-, h⟩ <;> simp [h]
theorem memWrite_out {s t : State} {pa : Word} {n : Nat} {v : Dword} (h : memWrite s pa n v = .ok t) : t.out = s.out := by
  rcases memWrite_ok h with h | h | ⟨g, off, -, -, h⟩ | ⟨-, h⟩ <;> simp [h]
theorem memWrite_controllerLatch {s t : State} {pa : Word} {n : Nat} {v : Dword} (h : memWrite s pa n v = .ok t) : t.controllerLatch = s.controllerLatch := by
  rcases memWrite_ok h with h | h | ⟨g, off, -, -, h⟩ | ⟨-, h⟩ <;> simp [h]
theorem memWrite_refused {s t : State} {pa : Word} {n : Nat} {v : Dword} (h : memWrite s pa n v = .ok t) : t.refused = s.refused := by
  rcases memWrite_ok h with h | h | ⟨g, off, -, -, h⟩ | ⟨-, h⟩ <;> simp [h]
theorem memWrite_draws {s t : State} {pa : Word} {n : Nat} {v : Dword} (h : memWrite s pa n v = .ok t) : t.draws = s.draws := by
  rcases memWrite_ok h with h | h | ⟨g, off, -, -, h⟩ | ⟨-, h⟩ <;> simp [h]
theorem memWrite_cfg {s t : State} {pa : Word} {n : Nat} {v : Dword} (h : memWrite s pa n v = .ok t) : t.cfg = s.cfg := by
  rcases memWrite_ok h with h | h | ⟨g, off, -, -, h⟩ | ⟨-, h⟩ <;> simp [h]
theorem memWrite_rdp_fb {s t : State} {pa : Word} {n : Nat} {v : Dword} (h : memWrite s pa n v = .ok t) : t.rdp.fb = s.rdp.fb := by
  rcases memWrite_ok h with h | h | ⟨g, off, -, -, h⟩ | ⟨-, h⟩ <;> simp [h]
theorem memWrite_rdp_depth {s t : State} {pa : Word} {n : Nat} {v : Dword} (h : memWrite s pa n v = .ok t) : t.rdp.depth = s.rdp.depth := by
  rcases memWrite_ok h with h | h | ⟨g, off, -, -, h⟩ | ⟨-, h⟩ <;> simp [h]
theorem memWrite_rdp_dpState {s t : State} {pa : Word} {n : Nat} {v : Dword} (h : memWrite s pa n v = .ok t) : t.rdp.dpState = s.rdp.dpState := by
  rcases memWrite_ok h with h | h | ⟨g, off, -, -, h⟩ | ⟨-, h⟩ <;> simp [h]
theorem memWrite_rdp_fbWidth {s t : State} {pa : Word} {n : Nat} {v : Dword} (h : memWrite s pa n v = .ok t) : t.rdp.fbWidth = s.rdp.fbWidth := by
  rcases memWrite_ok h with h | h | ⟨g, off, -, -, h⟩ | ⟨-, h⟩ <;> simp [h]
theorem memWrite_rdp_fbHeight {s t : State} {pa : Word} {n : Nat} {v : Dword} (h : memWrite s pa n v = .ok t) : t.rdp.fbHeight = s.rdp.fbHeight := by
  rcases memWrite_ok h with h | h | ⟨g, off, -, -, h⟩ | ⟨-, h⟩ <;> simp [h]
theorem memWrite_rdp_fillColor {s t : State} {pa : Word} {n : Nat} {v : Dword} (h : memWrite s pa n v = .ok t) : t.rdp.fillColor = s.rdp.fillColor := by
  rcases memWrite_ok h with h | h | ⟨g, off, -, -, h⟩ | ⟨-, h⟩ <;> simp [h]
theorem memWriteMasked_cpu {s t : State} {pa : Word} {n : Nat} {v : Dword} {m : Byte} (h : memWriteMasked s pa n v m = .ok t) :
    t.cpu = s.cpu := by
  rcases memWriteMasked_ok h with h | h | h
  · rw [h]
  · rw [h]
  · exact memWrite_cpu h
theorem memWriteMasked_cp0 {s t : State} {pa : Word} {n : Nat} {v : Dword} {m : Byte} (h : memWriteMasked s pa n v m = .ok t) :
    t.cp0 = s.cp0 := by
  rcases memWriteMasked_ok h with h | h | h
  · rw [h]
  · rw [h]
  · exact memWrite_cp0 h
theorem memWriteMasked_fpu {s t : State} {pa : Word} {n : Nat} {v : Dword} {m : Byte} (h : memWriteMasked s pa n v m = .ok t) :
    t.fpu = s.fpu := by
  rcases memWriteMasked_ok h with h | h | h
  · rw [h]
  · rw [h]
  · exact memWrite_fpu h
theorem memWriteMasked_clock {s t : State} {pa : Word} {n : Nat} {v : Dword} {m : Byte} (h : memWriteMasked s pa n v m = .ok t) :
    t.clock = s.clock := by
  rcases memWriteMasked_ok h with h | h | h
  · rw [h]
  · rw [h]
  · exact memWrite_clock h
theorem memWriteMasked_out {s t : State} {pa : Word} {n : Nat} {v : Dword} {m : Byte} (h : memWriteMasked s pa n v m = .ok t) :
    t.out = s.out := by
  rcases memWriteMasked_ok h with h | h | h
  · rw [h]
  · rw [h]
  · exact memWrite_out h
theorem memWriteMasked_controllerLatch {s t : State} {pa : Word} {n : Nat} {v : Dword} {m : Byte} (h : memWriteMasked s pa n v m = .ok t) :
    t.controllerLatch = s.controllerLatch := by
  rcases memWriteMasked_ok h with h | h | h
  · rw [h]
  · rw [h]
  · exact memWrite_controllerLatch h
theorem memWriteMasked_refused {s t : State} {pa : Word} {n : Nat} {v : Dword} {m : Byte} (h : memWriteMasked s pa n v m = .ok t) :
    t.refused = s.refused := by
  rcases memWriteMasked_ok h with h | h | h
  · rw [h]
  · rw [h]
  · exact memWrite_refused h
theorem memWriteMasked_draws {s t : State} {pa : Word} {n : Nat} {v : Dword} {m : Byte} (h : memWriteMasked s pa n v m = .ok t) :
    t.draws = s.draws := by
  rcases memWriteMasked_ok h with h | h | h
  · rw [h]
  · rw [h]
  · exact memWrite_draws h
theorem memWriteMasked_cfg {s t : State} {pa : Word} {n : Nat} {v : Dword} {m : Byte} (h : memWriteMasked s pa n v m = .ok t) :
    t.cfg = s.cfg := by
  rcases memWriteMasked_ok h with h | h | h
  · rw [h]
  · rw [h]
  · exact memWrite_cfg h
theorem memWriteMasked_rdp_fb {s t : State} {pa : Word} {n : Nat} {v : Dword} {m : Byte} (h : memWriteMasked s pa n v m = .ok t) :
    t.rdp.fb = s.rdp.fb := by
  rcases memWriteMasked_ok h with h | h | h
  · rw [h]
  · rw [h]
  · exact memWrite_rdp_fb h
theorem memWriteMasked_rdp_depth {s t : State} {pa : Word} {n : Nat} {v : Dword} {m : Byte} (h : memWriteMasked s pa n v m = .ok t) :
    t.rdp.depth = s.rdp.depth := by
  rcases memWriteMasked_ok h with h | h | h
  · rw [h]
  · rw [h]
  · exact memWrite_rdp_depth h
theorem memWriteMasked_rdp_dpState {s t : State} {pa : Word} {n : Nat} {v : Dword} {m : Byte} (h : memWriteMasked s pa n v m = .ok t) :
    t.rdp.dpState = s.rdp.dpState := by
  rcases memWriteMasked_ok h with h | h | h
  · rw [h]
  · rw [h]
  · exact memWrite_rdp_dpState h
theorem memWriteMasked_rdp_fbWidth {s t : State} {pa : Word} {n : Nat} {v : Dword} {m : Byte} (h : memWriteMasked s pa n v m = .ok t) :
    t.rdp.fbWidth = s.rdp.fbWidth := by
  rcases memWriteMasked_ok h with h | h | h
  · rw [h]
  · rw [h]
  · exact memWrite_rdp_fbWidth h
theorem memWriteMasked_rdp_fbHeight {s t : State} {pa : Word} {n : Nat} {v : Dword} {m : Byte} (h : memWriteMasked s pa n v m = .ok t) :
    t.rdp.fbHeight = s.rdp.fbHeight := by
  rcases memWriteMasked_ok h with h | h | h
  · rw [h]
  · rw [h]
  · exact memWrite_rdp_fbHeight h
theorem memWriteMasked_rdp_fillColor {s t : State} {pa : Word} {n : Nat} {v : Dword} {m : Byte} (h : memWriteMasked s pa n v m = .ok t) :
    t.rdp.fillColor = s.rdp.fillColor := by
  rcases memWriteMasked_ok h with h | h | h
  · rw [h]
  · rw [h]
  · exact memWrite_rdp_fillColor h

/-! ## Canonical form -/

theorem memWriteWord_wf {s : State} (pa : Word) (v : Dword) (h : Memory.wf s.mem = true) :
    Memory.wf (memWriteWord s pa v).mem = true := by
  rcases memWriteWord_cases s pa v with e | e | ⟨g, off, -, e⟩ <;> rw [e]
  · exact h
  · exact Memory.wf_write _ _ _ h
  · simpa using h

theorem memWrite_wf {s t : State} {pa : Word} {n : Nat} {v : Dword} (e : memWrite s pa n v = .ok t)
    (h : Memory.wf s.mem = true) : Memory.wf t.mem = true := by
  rcases memWrite_ok e with e | e | ⟨g, off, -, -, e⟩ | ⟨-, e⟩ <;> rw [e]
  · exact h
  · exact Memory.wf_write _ _ _ h
  · simpa using h
  · exact memWriteWord_wf _ _ (memWriteWord_wf _ _ h)

theorem memWriteMasked_wf {s t : State} {pa : Word} {n : Nat} {v : Dword} {m : Byte}
    (e : memWriteMasked s pa n v m = .ok t) (h : Memory.wf s.mem = true) : Memory.wf t.mem = true := by
  rcases memWriteMasked_ok e with e | e | e
  · rw [e]; exact h
  · rw [e]; exact Memory.wf_writeMasked _ _ _ _ h
  · exact memWrite_wf e h

/-- The VectorUnit's stores change memory alone, and keep its form. -/
theorem dmemWrite_eq (s : State) (a v : Word) (n : Nat) : ∃ m, dmemWrite s a v n = { s with mem := m } ∧
    (Memory.wf s.mem = true → Memory.wf m = true) := by
  induction n generalizing s v with
  | zero => exact ⟨s.mem, rfl, id⟩
  | succ n ih =>
    obtain ⟨m, hm, hw⟩ := ih (setDmemByte s (a.toNat + n) (v.setWidth 8)) (v >>> 8)
    exact ⟨m, hm, fun h => hw (Memory.wf_setByte _ _ h)⟩

theorem storeImage_eq (s : State) (a : Word) (e : Nat) (v : Vector Half 8) (n : Nat) :
    ∃ m, storeImage s a e v n = { s with mem := m } ∧ (Memory.wf s.mem = true → Memory.wf m = true) := by
  induction n with
  | zero => exact ⟨s.mem, rfl, id⟩
  | succ n ih =>
    obtain ⟨m, hm, hw⟩ := ih
    exact ⟨Memory.setByte m (dmemBase + (a.toNat + n) % 4096) (imgByte v (e + n)), by simp [storeImage, hm, setDmemByte],
      fun h => Memory.wf_setByte _ _ (hw h)⟩

/-! ## The phase does not matter to the bus -/

/-- A bus read does not look at the phase. -/
theorem memRead_setPhase (p : Phase) (s : State) (pa : Word) (n : Nat) :
    memRead (setPhase p s) pa n = ((memRead s pa n).1, setPhase p (memRead s pa n).2) := by
  have small : ∀ s pa n, memReadSmall (setPhase p s) pa n =
      ((memReadSmall s pa n).1, setPhase p (memReadSmall s pa n).2) := by
    intro s pa n
    unfold memReadSmall
    simp only [setPhase_cfg, setPhase_mem]
    split <;> try rfl
    unfold regReadEffect
    split <;> rfl
  unfold memRead
  simp only [setPhase_cfg, setPhase_mem]
  split <;> try rfl
  split
  · simp only [small]
  · rw [small]

end Sys2Proof.Machine
end

