-- ==== Sys2Proof/Laws/Encoding.lean ====
section
/-! SUPPORT. Every field of every instruction format, read back from the word put together from it: what a proof that
decoding undoes encoding cites. -/

namespace Sys2Proof

set_option Elab.async false

/-- An append as a number. -/
theorem toNat_append_eq {n m : Nat} (x : BitVec n) (y : BitVec m) : (x ++ y).toNat = x.toNat * 2 ^ m + y.toNat := by
  rw [BitVec.toNat_append, Nat.shiftLeft_eq, Nat.mul_comm, ← Nat.two_pow_add_eq_or_of_lt y.isLt]

/-- The number of a `wordR`. -/
theorem wordR_toNat (op : BitVec 6) (rs : BitVec 5) (rt : BitVec 5) (rd : BitVec 5) (sa : BitVec 5) (funct : BitVec 6) :
    (wordR op rs rt rd sa funct).toNat = (((((op.toNat * 32 + rs.toNat) * 32 + rt.toNat) * 32 + rd.toNat) * 32 + sa.toNat) * 64 + funct.toNat) := by
  refine (toNat_append_eq _ funct).trans ?_
  simp only [toNat_append_eq] <;> rfl

@[simp] theorem fOp_wordR (op : BitVec 6) (rs : BitVec 5) (rt : BitVec 5) (rd : BitVec 5) (sa : BitVec 5) (funct : BitVec 6) : fOp (wordR op rs rt rd sa funct) = op := by
  apply BitVec.eq_of_toNat_eq; simp only [fOp, BitVec.extractLsb'_toNat, wordR_toNat, Nat.shiftRight_eq_div_pow]; omega
@[simp] theorem fRs_wordR (op : BitVec 6) (rs : BitVec 5) (rt : BitVec 5) (rd : BitVec 5) (sa : BitVec 5) (funct : BitVec 6) : fRs (wordR op rs rt rd sa funct) = rs := by
  apply BitVec.eq_of_toNat_eq; simp only [fRs, BitVec.extractLsb'_toNat, wordR_toNat, Nat.shiftRight_eq_div_pow]; omega
@[simp] theorem fRt_wordR (op : BitVec 6) (rs : BitVec 5) (rt : BitVec 5) (rd : BitVec 5) (sa : BitVec 5) (funct : BitVec 6) : fRt (wordR op rs rt rd sa funct) = rt := by
  apply BitVec.eq_of_toNat_eq; simp only [fRt, BitVec.extractLsb'_toNat, wordR_toNat, Nat.shiftRight_eq_div_pow]; omega
@[simp] theorem fRd_wordR (op : BitVec 6) (rs : BitVec 5) (rt : BitVec 5) (rd : BitVec 5) (sa : BitVec 5) (funct : BitVec 6) : fRd (wordR op rs rt rd sa funct) = rd := by
  apply BitVec.eq_of_toNat_eq; simp only [fRd, BitVec.extractLsb'_toNat, wordR_toNat, Nat.shiftRight_eq_div_pow]; omega
@[simp] theorem fSa_wordR (op : BitVec 6) (rs : BitVec 5) (rt : BitVec 5) (rd : BitVec 5) (sa : BitVec 5) (funct : BitVec 6) : fSa (wordR op rs rt rd sa funct) = sa := by
  apply BitVec.eq_of_toNat_eq; simp only [fSa, BitVec.extractLsb'_toNat, wordR_toNat, Nat.shiftRight_eq_div_pow]; omega
@[simp] theorem fFunct_wordR (op : BitVec 6) (rs : BitVec 5) (rt : BitVec 5) (rd : BitVec 5) (sa : BitVec 5) (funct : BitVec 6) : fFunct (wordR op rs rt rd sa funct) = funct := by
  apply BitVec.eq_of_toNat_eq; simp only [fFunct, BitVec.extractLsb'_toNat, wordR_toNat, Nat.shiftRight_eq_div_pow]; omega

/-- The number of a `wordI`. -/
theorem wordI_toNat (op : BitVec 6) (rs : BitVec 5) (rt : BitVec 5) (imm : BitVec 16) :
    (wordI op rs rt imm).toNat = (((op.toNat * 32 + rs.toNat) * 32 + rt.toNat) * 65536 + imm.toNat) := by
  refine (toNat_append_eq _ imm).trans ?_
  simp only [toNat_append_eq] <;> rfl

@[simp] theorem fOp_wordI (op : BitVec 6) (rs : BitVec 5) (rt : BitVec 5) (imm : BitVec 16) : fOp (wordI op rs rt imm) = op := by
  apply BitVec.eq_of_toNat_eq; simp only [fOp, BitVec.extractLsb'_toNat, wordI_toNat, Nat.shiftRight_eq_div_pow]; omega
@[simp] theorem fRs_wordI (op : BitVec 6) (rs : BitVec 5) (rt : BitVec 5) (imm : BitVec 16) : fRs (wordI op rs rt imm) = rs := by
  apply BitVec.eq_of_toNat_eq; simp only [fRs, BitVec.extractLsb'_toNat, wordI_toNat, Nat.shiftRight_eq_div_pow]; omega
@[simp] theorem fRt_wordI (op : BitVec 6) (rs : BitVec 5) (rt : BitVec 5) (imm : BitVec 16) : fRt (wordI op rs rt imm) = rt := by
  apply BitVec.eq_of_toNat_eq; simp only [fRt, BitVec.extractLsb'_toNat, wordI_toNat, Nat.shiftRight_eq_div_pow]; omega
@[simp] theorem fImm_wordI (op : BitVec 6) (rs : BitVec 5) (rt : BitVec 5) (imm : BitVec 16) : fImm (wordI op rs rt imm) = imm := by
  apply BitVec.eq_of_toNat_eq; simp only [fImm, BitVec.extractLsb'_toNat, wordI_toNat, Nat.shiftRight_eq_div_pow]; omega

/-- The number of a `wordJ`. -/
theorem wordJ_toNat (op : BitVec 6) (target : BitVec 26) :
    (wordJ op target).toNat = (op.toNat * 67108864 + target.toNat) := by
  refine (toNat_append_eq _ target).trans ?_
  rfl

@[simp] theorem fOp_wordJ (op : BitVec 6) (target : BitVec 26) : fOp (wordJ op target) = op := by
  apply BitVec.eq_of_toNat_eq; simp only [fOp, BitVec.extractLsb'_toNat, wordJ_toNat, Nat.shiftRight_eq_div_pow]; omega
@[simp] theorem fTarget_wordJ (op : BitVec 6) (target : BitVec 26) : fTarget (wordJ op target) = target := by
  apply BitVec.eq_of_toNat_eq; simp only [fTarget, BitVec.extractLsb'_toNat, wordJ_toNat, Nat.shiftRight_eq_div_pow]; omega

/-- The number of a `wordSc`. -/
theorem wordSc_toNat (code : BitVec 20) (funct : BitVec 6) :
    (wordSc code funct).toNat = ((0 * 1048576 + code.toNat) * 64 + funct.toNat) := by
  refine (toNat_append_eq _ funct).trans ?_
  simp only [toNat_append_eq]
  rfl

@[simp] theorem fOp_wordSc (code : BitVec 20) (funct : BitVec 6) : fOp (wordSc code funct) = 0#6 := by
  apply BitVec.eq_of_toNat_eq; simp only [fOp, BitVec.extractLsb'_toNat, wordSc_toNat, Nat.shiftRight_eq_div_pow]; simp <;> omega
@[simp] theorem fFunct_wordSc (code : BitVec 20) (funct : BitVec 6) : fFunct (wordSc code funct) = funct := by
  apply BitVec.eq_of_toNat_eq; simp only [fFunct, BitVec.extractLsb'_toNat, wordSc_toNat, Nat.shiftRight_eq_div_pow]; omega
@[simp] theorem fCode20_wordSc (code : BitVec 20) (funct : BitVec 6) : fCode20 (wordSc code funct) = code := by
  apply BitVec.eq_of_toNat_eq; simp only [fCode20, BitVec.extractLsb'_toNat, wordSc_toNat, Nat.shiftRight_eq_div_pow]; omega

/-- The number of a `wordTr`. -/
theorem wordTr_toNat (rs : BitVec 5) (rt : BitVec 5) (code : BitVec 10) (funct : BitVec 6) :
    (wordTr rs rt code funct).toNat = ((((0 * 32 + rs.toNat) * 32 + rt.toNat) * 1024 + code.toNat) * 64 + funct.toNat) := by
  refine (toNat_append_eq _ funct).trans ?_
  simp only [toNat_append_eq]
  rfl

@[simp] theorem fOp_wordTr (rs : BitVec 5) (rt : BitVec 5) (code : BitVec 10) (funct : BitVec 6) : fOp (wordTr rs rt code funct) = 0#6 := by
  apply BitVec.eq_of_toNat_eq; simp only [fOp, BitVec.extractLsb'_toNat, wordTr_toNat, Nat.shiftRight_eq_div_pow]; simp <;> omega
@[simp] theorem fRs_wordTr (rs : BitVec 5) (rt : BitVec 5) (code : BitVec 10) (funct : BitVec 6) : fRs (wordTr rs rt code funct) = rs := by
  apply BitVec.eq_of_toNat_eq; simp only [fRs, BitVec.extractLsb'_toNat, wordTr_toNat, Nat.shiftRight_eq_div_pow]; omega
@[simp] theorem fRt_wordTr (rs : BitVec 5) (rt : BitVec 5) (code : BitVec 10) (funct : BitVec 6) : fRt (wordTr rs rt code funct) = rt := by
  apply BitVec.eq_of_toNat_eq; simp only [fRt, BitVec.extractLsb'_toNat, wordTr_toNat, Nat.shiftRight_eq_div_pow]; omega
@[simp] theorem fFunct_wordTr (rs : BitVec 5) (rt : BitVec 5) (code : BitVec 10) (funct : BitVec 6) : fFunct (wordTr rs rt code funct) = funct := by
  apply BitVec.eq_of_toNat_eq; simp only [fFunct, BitVec.extractLsb'_toNat, wordTr_toNat, Nat.shiftRight_eq_div_pow]; omega
@[simp] theorem fCode10_wordTr (rs : BitVec 5) (rt : BitVec 5) (code : BitVec 10) (funct : BitVec 6) : fCode10 (wordTr rs rt code funct) = code := by
  apply BitVec.eq_of_toNat_eq; simp only [fCode10, BitVec.extractLsb'_toNat, wordTr_toNat, Nat.shiftRight_eq_div_pow]; omega

/-- The number of a `wordMove2`. -/
theorem wordMove2_toNat (rs : BitVec 5) (rt : BitVec 5) (vs : BitVec 5) (e : BitVec 4) :
    (wordMove2 rs rt vs e).toNat = (((((18 * 32 + rs.toNat) * 32 + rt.toNat) * 32 + vs.toNat) * 16 + e.toNat) * 128 + 0) := by
  refine (toNat_append_eq _ (0#7)).trans ?_
  simp only [toNat_append_eq]
  rfl

@[simp] theorem fOp_wordMove2 (rs : BitVec 5) (rt : BitVec 5) (vs : BitVec 5) (e : BitVec 4) : fOp (wordMove2 rs rt vs e) = 18#6 := by
  apply BitVec.eq_of_toNat_eq; simp only [fOp, BitVec.extractLsb'_toNat, wordMove2_toNat, Nat.shiftRight_eq_div_pow]; simp <;> omega
@[simp] theorem fRs_wordMove2 (rs : BitVec 5) (rt : BitVec 5) (vs : BitVec 5) (e : BitVec 4) : fRs (wordMove2 rs rt vs e) = rs := by
  apply BitVec.eq_of_toNat_eq; simp only [fRs, BitVec.extractLsb'_toNat, wordMove2_toNat, Nat.shiftRight_eq_div_pow]; omega
@[simp] theorem fRt_wordMove2 (rs : BitVec 5) (rt : BitVec 5) (vs : BitVec 5) (e : BitVec 4) : fRt (wordMove2 rs rt vs e) = rt := by
  apply BitVec.eq_of_toNat_eq; simp only [fRt, BitVec.extractLsb'_toNat, wordMove2_toNat, Nat.shiftRight_eq_div_pow]; omega
@[simp] theorem fRd_wordMove2 (rs : BitVec 5) (rt : BitVec 5) (vs : BitVec 5) (e : BitVec 4) : fRd (wordMove2 rs rt vs e) = vs := by
  apply BitVec.eq_of_toNat_eq; simp only [fRd, BitVec.extractLsb'_toNat, wordMove2_toNat, Nat.shiftRight_eq_div_pow]; omega
@[simp] theorem fElem_wordMove2 (rs : BitVec 5) (rt : BitVec 5) (vs : BitVec 5) (e : BitVec 4) : fElem (wordMove2 rs rt vs e) = e := by
  apply BitVec.eq_of_toNat_eq; simp only [fElem, BitVec.extractLsb'_toNat, wordMove2_toNat, Nat.shiftRight_eq_div_pow]; omega
@[simp] theorem fOffset7_wordMove2 (rs : BitVec 5) (rt : BitVec 5) (vs : BitVec 5) (e : BitVec 4) : fOffset7 (wordMove2 rs rt vs e) = 0#7 := by
  apply BitVec.eq_of_toNat_eq; simp only [fOffset7, BitVec.extractLsb'_toNat, wordMove2_toNat, Nat.shiftRight_eq_div_pow]; simp <;> omega

/-- The number of a `wordVls`. -/
theorem wordVls_toNat (op : BitVec 6) (base : BitVec 5) (vt : BitVec 5) (opc : BitVec 5) (e : BitVec 4) (offset : BitVec 7) :
    (wordVls op base vt opc e offset).toNat = (((((op.toNat * 32 + base.toNat) * 32 + vt.toNat) * 32 + opc.toNat) * 16 + e.toNat) * 128 + offset.toNat) := by
  refine (toNat_append_eq _ offset).trans ?_
  simp only [toNat_append_eq] <;> rfl

@[simp] theorem fOp_wordVls (op : BitVec 6) (base : BitVec 5) (vt : BitVec 5) (opc : BitVec 5) (e : BitVec 4) (offset : BitVec 7) : fOp (wordVls op base vt opc e offset) = op := by
  apply BitVec.eq_of_toNat_eq; simp only [fOp, BitVec.extractLsb'_toNat, wordVls_toNat, Nat.shiftRight_eq_div_pow]; omega
@[simp] theorem fRs_wordVls (op : BitVec 6) (base : BitVec 5) (vt : BitVec 5) (opc : BitVec 5) (e : BitVec 4) (offset : BitVec 7) : fRs (wordVls op base vt opc e offset) = base := by
  apply BitVec.eq_of_toNat_eq; simp only [fRs, BitVec.extractLsb'_toNat, wordVls_toNat, Nat.shiftRight_eq_div_pow]; omega
@[simp] theorem fRt_wordVls (op : BitVec 6) (base : BitVec 5) (vt : BitVec 5) (opc : BitVec 5) (e : BitVec 4) (offset : BitVec 7) : fRt (wordVls op base vt opc e offset) = vt := by
  apply BitVec.eq_of_toNat_eq; simp only [fRt, BitVec.extractLsb'_toNat, wordVls_toNat, Nat.shiftRight_eq_div_pow]; omega
@[simp] theorem fRd_wordVls (op : BitVec 6) (base : BitVec 5) (vt : BitVec 5) (opc : BitVec 5) (e : BitVec 4) (offset : BitVec 7) : fRd (wordVls op base vt opc e offset) = opc := by
  apply BitVec.eq_of_toNat_eq; simp only [fRd, BitVec.extractLsb'_toNat, wordVls_toNat, Nat.shiftRight_eq_div_pow]; omega
@[simp] theorem fElem_wordVls (op : BitVec 6) (base : BitVec 5) (vt : BitVec 5) (opc : BitVec 5) (e : BitVec 4) (offset : BitVec 7) : fElem (wordVls op base vt opc e offset) = e := by
  apply BitVec.eq_of_toNat_eq; simp only [fElem, BitVec.extractLsb'_toNat, wordVls_toNat, Nat.shiftRight_eq_div_pow]; omega
@[simp] theorem fOffset7_wordVls (op : BitVec 6) (base : BitVec 5) (vt : BitVec 5) (opc : BitVec 5) (e : BitVec 4) (offset : BitVec 7) : fOffset7 (wordVls op base vt opc e offset) = offset := by
  apply BitVec.eq_of_toNat_eq; simp only [fOffset7, BitVec.extractLsb'_toNat, wordVls_toNat, Nat.shiftRight_eq_div_pow]; omega

/-- The number of a `wordVop`. -/
theorem wordVop_toNat (e : BitVec 4) (vt : BitVec 5) (vs : BitVec 5) (vd : BitVec 5) (funct : BitVec 6) :
    (wordVop e vt vs vd funct).toNat = ((((((18 * 2 + 1) * 16 + e.toNat) * 32 + vt.toNat) * 32 + vs.toNat) * 32 + vd.toNat) * 64 + funct.toNat) := by
  refine (toNat_append_eq _ funct).trans ?_
  simp only [toNat_append_eq]
  rfl

@[simp] theorem fOp_wordVop (e : BitVec 4) (vt : BitVec 5) (vs : BitVec 5) (vd : BitVec 5) (funct : BitVec 6) : fOp (wordVop e vt vs vd funct) = 18#6 := by
  apply BitVec.eq_of_toNat_eq; simp only [fOp, BitVec.extractLsb'_toNat, wordVop_toNat, Nat.shiftRight_eq_div_pow]; simp <;> omega
@[simp] theorem fRt_wordVop (e : BitVec 4) (vt : BitVec 5) (vs : BitVec 5) (vd : BitVec 5) (funct : BitVec 6) : fRt (wordVop e vt vs vd funct) = vt := by
  apply BitVec.eq_of_toNat_eq; simp only [fRt, BitVec.extractLsb'_toNat, wordVop_toNat, Nat.shiftRight_eq_div_pow]; omega
@[simp] theorem fRd_wordVop (e : BitVec 4) (vt : BitVec 5) (vs : BitVec 5) (vd : BitVec 5) (funct : BitVec 6) : fRd (wordVop e vt vs vd funct) = vs := by
  apply BitVec.eq_of_toNat_eq; simp only [fRd, BitVec.extractLsb'_toNat, wordVop_toNat, Nat.shiftRight_eq_div_pow]; omega
@[simp] theorem fSa_wordVop (e : BitVec 4) (vt : BitVec 5) (vs : BitVec 5) (vd : BitVec 5) (funct : BitVec 6) : fSa (wordVop e vt vs vd funct) = vd := by
  apply BitVec.eq_of_toNat_eq; simp only [fSa, BitVec.extractLsb'_toNat, wordVop_toNat, Nat.shiftRight_eq_div_pow]; omega
@[simp] theorem fFunct_wordVop (e : BitVec 4) (vt : BitVec 5) (vs : BitVec 5) (vd : BitVec 5) (funct : BitVec 6) : fFunct (wordVop e vt vs vd funct) = funct := by
  apply BitVec.eq_of_toNat_eq; simp only [fFunct, BitVec.extractLsb'_toNat, wordVop_toNat, Nat.shiftRight_eq_div_pow]; omega
@[simp] theorem fVElem_wordVop (e : BitVec 4) (vt : BitVec 5) (vs : BitVec 5) (vd : BitVec 5) (funct : BitVec 6) : fVElem (wordVop e vt vs vd funct) = e := by
  apply BitVec.eq_of_toNat_eq; simp only [fVElem, BitVec.extractLsb'_toNat, wordVop_toNat, Nat.shiftRight_eq_div_pow]; omega

/-- The number of a `wordCmd`. -/
theorem wordCmd_toNat (op : BitVec 8) (payload : BitVec 56) :
    (wordCmd op payload).toNat = (op.toNat * 72057594037927936 + payload.toNat) := by
  refine (toNat_append_eq _ payload).trans ?_
  rfl

@[simp] theorem commandOp_wordCmd (op : BitVec 8) (payload : BitVec 56) : commandOp (wordCmd op payload) = op := by
  apply BitVec.eq_of_toNat_eq; simp only [commandOp, BitVec.extractLsb'_toNat, wordCmd_toNat, Nat.shiftRight_eq_div_pow]; omega
@[simp] theorem commandPayload_wordCmd (op : BitVec 8) (payload : BitVec 56) : commandPayload (wordCmd op payload) = payload := by
  apply BitVec.eq_of_toNat_eq; simp only [commandPayload, BitVec.extractLsb'_toNat, wordCmd_toNat, Nat.shiftRight_eq_div_pow]; omega

/-- The coprocessor-0 and coprocessor-2 bit of a word of format R is the top bit of its rs. -/
@[simp] theorem fCo_wordR (op : BitVec 6) (rs rt rd sa : BitVec 5) (funct : BitVec 6) :
    fCo (wordR op rs rt rd sa funct) = decide (16 ≤ rs.toNat) := by
  unfold fCo BitVec.getLsbD; rw [Nat.testBit_eq_decide_div_mod_eq, wordR_toNat]; apply decide_eq_decide.mpr; omega

@[simp] theorem fCo_wordMove2 (rs rt vs : BitVec 5) (e : BitVec 4) : fCo (wordMove2 rs rt vs e) = decide (16 ≤ rs.toNat) := by
  unfold fCo BitVec.getLsbD; rw [Nat.testBit_eq_decide_div_mod_eq, wordMove2_toNat]; apply decide_eq_decide.mpr; omega

@[simp] theorem fCo_wordVop (e : BitVec 4) (vt vs vd : BitVec 5) (funct : BitVec 6) : fCo (wordVop e vt vs vd funct) = true := by
  unfold fCo BitVec.getLsbD; rw [Nat.testBit_eq_decide_div_mod_eq, wordVop_toNat]; apply decide_eq_true; omega

/-- nd and tf of a coprocessor-1 branch are the low bits of its rt. -/
@[simp] theorem fNdTf_wordI (op : BitVec 6) (rs rt : BitVec 5) (imm : BitVec 16) :
    fNdTf (wordI op rs rt imm) = BitVec.ofNat 2 rt.toNat := by
  apply BitVec.eq_of_toNat_eq
  simp only [fNdTf, BitVec.extractLsb'_toNat, wordI_toNat, Nat.shiftRight_eq_div_pow, BitVec.toNat_ofNat]; omega

/-! ## The operands of the two commands that have fields -/

/-- The payload of FILL_RECTANGLE as a number. -/
theorem fillPayload_toNat (xl yl xh yh : BitVec 12) :
    (xl ++ yl ++ (0#8) ++ xh ++ yh : BitVec 56).toNat =
      (((xl.toNat * 4096 + yl.toNat) * 256 + 0) * 4096 + xh.toNat) * 4096 + yh.toNat := by
  refine (toNat_append_eq _ yh).trans ?_
  simp only [toNat_append_eq]
  rfl

/-- FILL_RECTANGLE's four coordinates, read back. -/
theorem fillRectangle_fields (xl yl xh yh : BitVec 12) :
    let w := wordCmd 0x36 (xl ++ yl ++ (0#8) ++ xh ++ yh)
    w.extractLsb' 44 12 = xl ∧ w.extractLsb' 32 12 = yl ∧ w.extractLsb' 12 12 = xh ∧ w.extractLsb' 0 12 = yh := by
  refine ⟨?_, ?_, ?_, ?_⟩ <;> apply BitVec.eq_of_toNat_eq <;>
    simp only [BitVec.extractLsb'_toNat, wordCmd_toNat, fillPayload_toNat, Nat.shiftRight_eq_div_pow] <;> omega

/-- SET_FILL_COLOR's colour, read back. -/
theorem fillColor_field (c : Word) : (wordCmd 0x37 ((0#24) ++ c)).extractLsb' 0 32 = c := by
  have h : ((0#24) ++ c : BitVec 56).toNat = 0 * 4294967296 + c.toNat := toNat_append_eq _ c
  apply BitVec.eq_of_toNat_eq
  simp only [BitVec.extractLsb'_toNat, wordCmd_toNat, h, Nat.shiftRight_eq_div_pow]
  omega

/-- Two words that differ only where a mask is 0 agree in every field that it covers. -/
theorem extractLsb'_eq_of_masked {m : Nat} {w v mask : BitVec m} (h : (w ^^^ v) &&& mask = 0) (start len : Nat)
    (hm : ∀ k < len, mask.getLsbD (start + k) = true) : v.extractLsb' start len = w.extractLsb' start len := by
  apply BitVec.eq_of_getLsbD_eq
  intro k hk
  have hb := congrArg (fun x => x.getLsbD (start + k)) h
  simp only [BitVec.getLsbD_and, BitVec.getLsbD_xor, hm k hk, Bool.and_true] at hb
  simp only [BitVec.getLsbD_extractLsb', hk, decide_true, Bool.true_and]
  cases hw : w.getLsbD (start + k) <;> cases hv : v.getLsbD (start + k) <;> simp_all

end Sys2Proof
end

