-- ==== Sys2Proof/Laws/PerInstr.lean ====
section
/-! SUPPORT. Lemmas made per instruction: the family Encoding, one lemma per constructor of `Instr`. -/

namespace Sys2Proof.Laws.Encoding

set_option Elab.async false

/-- The words of an instruction lie in its own decode space; a CPU or VectorUnit term is always well-formed, and a
DisplayProcessor term is so exactly when it has as many words as its top byte asks for (spec/48_rasterizer.md R1002). -/
def Statement (i : Instr) : Prop :=
  match encode i with
  | .cpu _ => i.agent = .cpu ∧ i.wellFormed = true
  | .vectorUnit _ => i.agent = .vectorUnit ∧ i.wellFormed = true
  | .displayProcessor ws =>
    i.agent = .displayProcessor ∧ (i.wellFormed = true ↔ ws.length = commandLength (commandOp (ws.headD 0)))

theorem add (rd rs rt : Reg) : Statement (.add rd rs rt) := ⟨rfl, rfl⟩
theorem addu (rd rs rt : Reg) : Statement (.addu rd rs rt) := ⟨rfl, rfl⟩
theorem sub (rd rs rt : Reg) : Statement (.sub rd rs rt) := ⟨rfl, rfl⟩
theorem subu (rd rs rt : Reg) : Statement (.subu rd rs rt) := ⟨rfl, rfl⟩
theorem addi (rt rs : Reg) (imm : BitVec 16) : Statement (.addi rt rs imm) := ⟨rfl, rfl⟩
theorem addiu (rt rs : Reg) (imm : BitVec 16) : Statement (.addiu rt rs imm) := ⟨rfl, rfl⟩
theorem dadd (rd rs rt : Reg) : Statement (.dadd rd rs rt) := ⟨rfl, rfl⟩
theorem daddu (rd rs rt : Reg) : Statement (.daddu rd rs rt) := ⟨rfl, rfl⟩
theorem dsub (rd rs rt : Reg) : Statement (.dsub rd rs rt) := ⟨rfl, rfl⟩
theorem dsubu (rd rs rt : Reg) : Statement (.dsubu rd rs rt) := ⟨rfl, rfl⟩
theorem daddi (rt rs : Reg) (imm : BitVec 16) : Statement (.daddi rt rs imm) := ⟨rfl, rfl⟩
theorem daddiu (rt rs : Reg) (imm : BitVec 16) : Statement (.daddiu rt rs imm) := ⟨rfl, rfl⟩
theorem and (rd rs rt : Reg) : Statement (.and rd rs rt) := ⟨rfl, rfl⟩
theorem or (rd rs rt : Reg) : Statement (.or rd rs rt) := ⟨rfl, rfl⟩
theorem xor (rd rs rt : Reg) : Statement (.xor rd rs rt) := ⟨rfl, rfl⟩
theorem nor (rd rs rt : Reg) : Statement (.nor rd rs rt) := ⟨rfl, rfl⟩
theorem andi (rt rs : Reg) (imm : BitVec 16) : Statement (.andi rt rs imm) := ⟨rfl, rfl⟩
theorem ori (rt rs : Reg) (imm : BitVec 16) : Statement (.ori rt rs imm) := ⟨rfl, rfl⟩
theorem xori (rt rs : Reg) (imm : BitVec 16) : Statement (.xori rt rs imm) := ⟨rfl, rfl⟩
theorem lui (rt : Reg) (imm : BitVec 16) : Statement (.lui rt imm) := ⟨rfl, rfl⟩
theorem slt (rd rs rt : Reg) : Statement (.slt rd rs rt) := ⟨rfl, rfl⟩
theorem sltu (rd rs rt : Reg) : Statement (.sltu rd rs rt) := ⟨rfl, rfl⟩
theorem slti (rt rs : Reg) (imm : BitVec 16) : Statement (.slti rt rs imm) := ⟨rfl, rfl⟩
theorem sltiu (rt rs : Reg) (imm : BitVec 16) : Statement (.sltiu rt rs imm) := ⟨rfl, rfl⟩
theorem sll (rd rt : Reg) (sa : BitVec 5) : Statement (.sll rd rt sa) := ⟨rfl, rfl⟩
theorem srl (rd rt : Reg) (sa : BitVec 5) : Statement (.srl rd rt sa) := ⟨rfl, rfl⟩
theorem sra (rd rt : Reg) (sa : BitVec 5) : Statement (.sra rd rt sa) := ⟨rfl, rfl⟩
theorem sllv (rd rt rs : Reg) : Statement (.sllv rd rt rs) := ⟨rfl, rfl⟩
theorem srlv (rd rt rs : Reg) : Statement (.srlv rd rt rs) := ⟨rfl, rfl⟩
theorem srav (rd rt rs : Reg) : Statement (.srav rd rt rs) := ⟨rfl, rfl⟩
theorem dsll (rd rt : Reg) (sa : BitVec 5) : Statement (.dsll rd rt sa) := ⟨rfl, rfl⟩
theorem dsrl (rd rt : Reg) (sa : BitVec 5) : Statement (.dsrl rd rt sa) := ⟨rfl, rfl⟩
theorem dsra (rd rt : Reg) (sa : BitVec 5) : Statement (.dsra rd rt sa) := ⟨rfl, rfl⟩
theorem dsll32 (rd rt : Reg) (sa : BitVec 5) : Statement (.dsll32 rd rt sa) := ⟨rfl, rfl⟩
theorem dsrl32 (rd rt : Reg) (sa : BitVec 5) : Statement (.dsrl32 rd rt sa) := ⟨rfl, rfl⟩
theorem dsra32 (rd rt : Reg) (sa : BitVec 5) : Statement (.dsra32 rd rt sa) := ⟨rfl, rfl⟩
theorem dsllv (rd rt rs : Reg) : Statement (.dsllv rd rt rs) := ⟨rfl, rfl⟩
theorem dsrlv (rd rt rs : Reg) : Statement (.dsrlv rd rt rs) := ⟨rfl, rfl⟩
theorem dsrav (rd rt rs : Reg) : Statement (.dsrav rd rt rs) := ⟨rfl, rfl⟩
theorem mult (rs rt : Reg) : Statement (.mult rs rt) := ⟨rfl, rfl⟩
theorem multu (rs rt : Reg) : Statement (.multu rs rt) := ⟨rfl, rfl⟩
theorem dmult (rs rt : Reg) : Statement (.dmult rs rt) := ⟨rfl, rfl⟩
theorem dmultu (rs rt : Reg) : Statement (.dmultu rs rt) := ⟨rfl, rfl⟩
theorem div (rs rt : Reg) : Statement (.div rs rt) := ⟨rfl, rfl⟩
theorem divu (rs rt : Reg) : Statement (.divu rs rt) := ⟨rfl, rfl⟩
theorem ddiv (rs rt : Reg) : Statement (.ddiv rs rt) := ⟨rfl, rfl⟩
theorem ddivu (rs rt : Reg) : Statement (.ddivu rs rt) := ⟨rfl, rfl⟩
theorem mfhi (rd : Reg) : Statement (.mfhi rd) := ⟨rfl, rfl⟩
theorem mflo (rd : Reg) : Statement (.mflo rd) := ⟨rfl, rfl⟩
theorem mthi (rs : Reg) : Statement (.mthi rs) := ⟨rfl, rfl⟩
theorem mtlo (rs : Reg) : Statement (.mtlo rs) := ⟨rfl, rfl⟩
theorem beq (rs rt : Reg) (imm : BitVec 16) : Statement (.beq rs rt imm) := ⟨rfl, rfl⟩
theorem bne (rs rt : Reg) (imm : BitVec 16) : Statement (.bne rs rt imm) := ⟨rfl, rfl⟩
theorem blez (rs : Reg) (imm : BitVec 16) : Statement (.blez rs imm) := ⟨rfl, rfl⟩
theorem bgtz (rs : Reg) (imm : BitVec 16) : Statement (.bgtz rs imm) := ⟨rfl, rfl⟩
theorem bltz (rs : Reg) (imm : BitVec 16) : Statement (.bltz rs imm) := ⟨rfl, rfl⟩
theorem bgez (rs : Reg) (imm : BitVec 16) : Statement (.bgez rs imm) := ⟨rfl, rfl⟩
theorem bltzal (rs : Reg) (imm : BitVec 16) : Statement (.bltzal rs imm) := ⟨rfl, rfl⟩
theorem bgezal (rs : Reg) (imm : BitVec 16) : Statement (.bgezal rs imm) := ⟨rfl, rfl⟩
theorem beql (rs rt : Reg) (imm : BitVec 16) : Statement (.beql rs rt imm) := ⟨rfl, rfl⟩
theorem bnel (rs rt : Reg) (imm : BitVec 16) : Statement (.bnel rs rt imm) := ⟨rfl, rfl⟩
theorem blezl (rs : Reg) (imm : BitVec 16) : Statement (.blezl rs imm) := ⟨rfl, rfl⟩
theorem bgtzl (rs : Reg) (imm : BitVec 16) : Statement (.bgtzl rs imm) := ⟨rfl, rfl⟩
theorem bltzl (rs : Reg) (imm : BitVec 16) : Statement (.bltzl rs imm) := ⟨rfl, rfl⟩
theorem bgezl (rs : Reg) (imm : BitVec 16) : Statement (.bgezl rs imm) := ⟨rfl, rfl⟩
theorem bltzall (rs : Reg) (imm : BitVec 16) : Statement (.bltzall rs imm) := ⟨rfl, rfl⟩
theorem bgezall (rs : Reg) (imm : BitVec 16) : Statement (.bgezall rs imm) := ⟨rfl, rfl⟩
theorem j (target : BitVec 26) : Statement (.j target) := ⟨rfl, rfl⟩
theorem jal (target : BitVec 26) : Statement (.jal target) := ⟨rfl, rfl⟩
theorem jr (rs : Reg) : Statement (.jr rs) := ⟨rfl, rfl⟩
theorem jalr (rd rs : Reg) : Statement (.jalr rd rs) := ⟨rfl, rfl⟩
theorem lb (rt : Reg) (offset : BitVec 16) (base : Reg) : Statement (.lb rt offset base) := ⟨rfl, rfl⟩
theorem lbu (rt : Reg) (offset : BitVec 16) (base : Reg) : Statement (.lbu rt offset base) := ⟨rfl, rfl⟩
theorem lh (rt : Reg) (offset : BitVec 16) (base : Reg) : Statement (.lh rt offset base) := ⟨rfl, rfl⟩
theorem lhu (rt : Reg) (offset : BitVec 16) (base : Reg) : Statement (.lhu rt offset base) := ⟨rfl, rfl⟩
theorem lw (rt : Reg) (offset : BitVec 16) (base : Reg) : Statement (.lw rt offset base) := ⟨rfl, rfl⟩
theorem lwu (rt : Reg) (offset : BitVec 16) (base : Reg) : Statement (.lwu rt offset base) := ⟨rfl, rfl⟩
theorem ld (rt : Reg) (offset : BitVec 16) (base : Reg) : Statement (.ld rt offset base) := ⟨rfl, rfl⟩
theorem sb (rt : Reg) (offset : BitVec 16) (base : Reg) : Statement (.sb rt offset base) := ⟨rfl, rfl⟩
theorem sh (rt : Reg) (offset : BitVec 16) (base : Reg) : Statement (.sh rt offset base) := ⟨rfl, rfl⟩
theorem sw (rt : Reg) (offset : BitVec 16) (base : Reg) : Statement (.sw rt offset base) := ⟨rfl, rfl⟩
theorem sd (rt : Reg) (offset : BitVec 16) (base : Reg) : Statement (.sd rt offset base) := ⟨rfl, rfl⟩
theorem lwl (rt : Reg) (offset : BitVec 16) (base : Reg) : Statement (.lwl rt offset base) := ⟨rfl, rfl⟩
theorem lwr (rt : Reg) (offset : BitVec 16) (base : Reg) : Statement (.lwr rt offset base) := ⟨rfl, rfl⟩
theorem ldl (rt : Reg) (offset : BitVec 16) (base : Reg) : Statement (.ldl rt offset base) := ⟨rfl, rfl⟩
theorem ldr (rt : Reg) (offset : BitVec 16) (base : Reg) : Statement (.ldr rt offset base) := ⟨rfl, rfl⟩
theorem swl (rt : Reg) (offset : BitVec 16) (base : Reg) : Statement (.swl rt offset base) := ⟨rfl, rfl⟩
theorem swr (rt : Reg) (offset : BitVec 16) (base : Reg) : Statement (.swr rt offset base) := ⟨rfl, rfl⟩
theorem sdl (rt : Reg) (offset : BitVec 16) (base : Reg) : Statement (.sdl rt offset base) := ⟨rfl, rfl⟩
theorem sdr (rt : Reg) (offset : BitVec 16) (base : Reg) : Statement (.sdr rt offset base) := ⟨rfl, rfl⟩
theorem ll (rt : Reg) (offset : BitVec 16) (base : Reg) : Statement (.ll rt offset base) := ⟨rfl, rfl⟩
theorem lld (rt : Reg) (offset : BitVec 16) (base : Reg) : Statement (.lld rt offset base) := ⟨rfl, rfl⟩
theorem sc (rt : Reg) (offset : BitVec 16) (base : Reg) : Statement (.sc rt offset base) := ⟨rfl, rfl⟩
theorem scd (rt : Reg) (offset : BitVec 16) (base : Reg) : Statement (.scd rt offset base) := ⟨rfl, rfl⟩
theorem syscall (code : BitVec 20) : Statement (.syscall code) := ⟨rfl, rfl⟩
theorem brk (code : BitVec 20) : Statement (.brk code) := ⟨rfl, rfl⟩
theorem tge (rs rt : Reg) (code : BitVec 10) : Statement (.tge rs rt code) := ⟨rfl, rfl⟩
theorem tgeu (rs rt : Reg) (code : BitVec 10) : Statement (.tgeu rs rt code) := ⟨rfl, rfl⟩
theorem tlt (rs rt : Reg) (code : BitVec 10) : Statement (.tlt rs rt code) := ⟨rfl, rfl⟩
theorem tltu (rs rt : Reg) (code : BitVec 10) : Statement (.tltu rs rt code) := ⟨rfl, rfl⟩
theorem teq (rs rt : Reg) (code : BitVec 10) : Statement (.teq rs rt code) := ⟨rfl, rfl⟩
theorem tne (rs rt : Reg) (code : BitVec 10) : Statement (.tne rs rt code) := ⟨rfl, rfl⟩
theorem tgei (rs : Reg) (imm : BitVec 16) : Statement (.tgei rs imm) := ⟨rfl, rfl⟩
theorem tgeiu (rs : Reg) (imm : BitVec 16) : Statement (.tgeiu rs imm) := ⟨rfl, rfl⟩
theorem tlti (rs : Reg) (imm : BitVec 16) : Statement (.tlti rs imm) := ⟨rfl, rfl⟩
theorem tltiu (rs : Reg) (imm : BitVec 16) : Statement (.tltiu rs imm) := ⟨rfl, rfl⟩
theorem teqi (rs : Reg) (imm : BitVec 16) : Statement (.teqi rs imm) := ⟨rfl, rfl⟩
theorem tnei (rs : Reg) (imm : BitVec 16) : Statement (.tnei rs imm) := ⟨rfl, rfl⟩
theorem mfc0 (rt rd : Reg) : Statement (.mfc0 rt rd) := ⟨rfl, rfl⟩
theorem dmfc0 (rt rd : Reg) : Statement (.dmfc0 rt rd) := ⟨rfl, rfl⟩
theorem mtc0 (rt rd : Reg) : Statement (.mtc0 rt rd) := ⟨rfl, rfl⟩
theorem dmtc0 (rt rd : Reg) : Statement (.dmtc0 rt rd) := ⟨rfl, rfl⟩
theorem eret : Statement (.eret) := ⟨rfl, rfl⟩
theorem tlbr : Statement (.tlbr) := ⟨rfl, rfl⟩
theorem tlbwi : Statement (.tlbwi) := ⟨rfl, rfl⟩
theorem tlbwr : Statement (.tlbwr) := ⟨rfl, rfl⟩
theorem tlbp : Statement (.tlbp) := ⟨rfl, rfl⟩
theorem sync : Statement (.sync) := ⟨rfl, rfl⟩
theorem cache (op : BitVec 5) (offset : BitVec 16) (base : Reg) : Statement (.cache op offset base) := ⟨rfl, rfl⟩
theorem cfc1 (rt fs : Reg) : Statement (.cfc1 rt fs) := ⟨rfl, rfl⟩
theorem ctc1 (rt fs : Reg) : Statement (.ctc1 rt fs) := ⟨rfl, rfl⟩
theorem mfc1 (rt fs : Reg) : Statement (.mfc1 rt fs) := ⟨rfl, rfl⟩
theorem dmfc1 (rt fs : Reg) : Statement (.dmfc1 rt fs) := ⟨rfl, rfl⟩
theorem mtc1 (rt fs : Reg) : Statement (.mtc1 rt fs) := ⟨rfl, rfl⟩
theorem dmtc1 (rt fs : Reg) : Statement (.dmtc1 rt fs) := ⟨rfl, rfl⟩
theorem lwc1 (ft : Reg) (offset : BitVec 16) (base : Reg) : Statement (.lwc1 ft offset base) := ⟨rfl, rfl⟩
theorem ldc1 (ft : Reg) (offset : BitVec 16) (base : Reg) : Statement (.ldc1 ft offset base) := ⟨rfl, rfl⟩
theorem swc1 (ft : Reg) (offset : BitVec 16) (base : Reg) : Statement (.swc1 ft offset base) := ⟨rfl, rfl⟩
theorem sdc1 (ft : Reg) (offset : BitVec 16) (base : Reg) : Statement (.sdc1 ft offset base) := ⟨rfl, rfl⟩
theorem bc1f (imm : BitVec 16) : Statement (.bc1f imm) := ⟨rfl, rfl⟩
theorem bc1t (imm : BitVec 16) : Statement (.bc1t imm) := ⟨rfl, rfl⟩
theorem bc1fl (imm : BitVec 16) : Statement (.bc1fl imm) := ⟨rfl, rfl⟩
theorem bc1tl (imm : BitVec 16) : Statement (.bc1tl imm) := ⟨rfl, rfl⟩
theorem addS (fd fs ft : Reg) : Statement (.addS fd fs ft) := ⟨rfl, rfl⟩
theorem addD (fd fs ft : Reg) : Statement (.addD fd fs ft) := ⟨rfl, rfl⟩
theorem subS (fd fs ft : Reg) : Statement (.subS fd fs ft) := ⟨rfl, rfl⟩
theorem subD (fd fs ft : Reg) : Statement (.subD fd fs ft) := ⟨rfl, rfl⟩
theorem mulS (fd fs ft : Reg) : Statement (.mulS fd fs ft) := ⟨rfl, rfl⟩
theorem mulD (fd fs ft : Reg) : Statement (.mulD fd fs ft) := ⟨rfl, rfl⟩
theorem divS (fd fs ft : Reg) : Statement (.divS fd fs ft) := ⟨rfl, rfl⟩
theorem divD (fd fs ft : Reg) : Statement (.divD fd fs ft) := ⟨rfl, rfl⟩
theorem sqrtS (fd fs : Reg) : Statement (.sqrtS fd fs) := ⟨rfl, rfl⟩
theorem sqrtD (fd fs : Reg) : Statement (.sqrtD fd fs) := ⟨rfl, rfl⟩
theorem absS (fd fs : Reg) : Statement (.absS fd fs) := ⟨rfl, rfl⟩
theorem absD (fd fs : Reg) : Statement (.absD fd fs) := ⟨rfl, rfl⟩
theorem movS (fd fs : Reg) : Statement (.movS fd fs) := ⟨rfl, rfl⟩
theorem movD (fd fs : Reg) : Statement (.movD fd fs) := ⟨rfl, rfl⟩
theorem negS (fd fs : Reg) : Statement (.negS fd fs) := ⟨rfl, rfl⟩
theorem negD (fd fs : Reg) : Statement (.negD fd fs) := ⟨rfl, rfl⟩
theorem roundLS (fd fs : Reg) : Statement (.roundLS fd fs) := ⟨rfl, rfl⟩
theorem roundLD (fd fs : Reg) : Statement (.roundLD fd fs) := ⟨rfl, rfl⟩
theorem truncLS (fd fs : Reg) : Statement (.truncLS fd fs) := ⟨rfl, rfl⟩
theorem truncLD (fd fs : Reg) : Statement (.truncLD fd fs) := ⟨rfl, rfl⟩
theorem ceilLS (fd fs : Reg) : Statement (.ceilLS fd fs) := ⟨rfl, rfl⟩
theorem ceilLD (fd fs : Reg) : Statement (.ceilLD fd fs) := ⟨rfl, rfl⟩
theorem floorLS (fd fs : Reg) : Statement (.floorLS fd fs) := ⟨rfl, rfl⟩
theorem floorLD (fd fs : Reg) : Statement (.floorLD fd fs) := ⟨rfl, rfl⟩
theorem roundWS (fd fs : Reg) : Statement (.roundWS fd fs) := ⟨rfl, rfl⟩
theorem roundWD (fd fs : Reg) : Statement (.roundWD fd fs) := ⟨rfl, rfl⟩
theorem truncWS (fd fs : Reg) : Statement (.truncWS fd fs) := ⟨rfl, rfl⟩
theorem truncWD (fd fs : Reg) : Statement (.truncWD fd fs) := ⟨rfl, rfl⟩
theorem ceilWS (fd fs : Reg) : Statement (.ceilWS fd fs) := ⟨rfl, rfl⟩
theorem ceilWD (fd fs : Reg) : Statement (.ceilWD fd fs) := ⟨rfl, rfl⟩
theorem floorWS (fd fs : Reg) : Statement (.floorWS fd fs) := ⟨rfl, rfl⟩
theorem floorWD (fd fs : Reg) : Statement (.floorWD fd fs) := ⟨rfl, rfl⟩
theorem cvtSD (fd fs : Reg) : Statement (.cvtSD fd fs) := ⟨rfl, rfl⟩
theorem cvtSW (fd fs : Reg) : Statement (.cvtSW fd fs) := ⟨rfl, rfl⟩
theorem cvtSL (fd fs : Reg) : Statement (.cvtSL fd fs) := ⟨rfl, rfl⟩
theorem cvtDS (fd fs : Reg) : Statement (.cvtDS fd fs) := ⟨rfl, rfl⟩
theorem cvtDW (fd fs : Reg) : Statement (.cvtDW fd fs) := ⟨rfl, rfl⟩
theorem cvtDL (fd fs : Reg) : Statement (.cvtDL fd fs) := ⟨rfl, rfl⟩
theorem cvtWS (fd fs : Reg) : Statement (.cvtWS fd fs) := ⟨rfl, rfl⟩
theorem cvtWD (fd fs : Reg) : Statement (.cvtWD fd fs) := ⟨rfl, rfl⟩
theorem cvtLS (fd fs : Reg) : Statement (.cvtLS fd fs) := ⟨rfl, rfl⟩
theorem cvtLD (fd fs : Reg) : Statement (.cvtLD fd fs) := ⟨rfl, rfl⟩
theorem cFS (fs ft : Reg) : Statement (.cFS fs ft) := ⟨rfl, rfl⟩
theorem cFD (fs ft : Reg) : Statement (.cFD fs ft) := ⟨rfl, rfl⟩
theorem cUnS (fs ft : Reg) : Statement (.cUnS fs ft) := ⟨rfl, rfl⟩
theorem cUnD (fs ft : Reg) : Statement (.cUnD fs ft) := ⟨rfl, rfl⟩
theorem cEqS (fs ft : Reg) : Statement (.cEqS fs ft) := ⟨rfl, rfl⟩
theorem cEqD (fs ft : Reg) : Statement (.cEqD fs ft) := ⟨rfl, rfl⟩
theorem cUeqS (fs ft : Reg) : Statement (.cUeqS fs ft) := ⟨rfl, rfl⟩
theorem cUeqD (fs ft : Reg) : Statement (.cUeqD fs ft) := ⟨rfl, rfl⟩
theorem cOltS (fs ft : Reg) : Statement (.cOltS fs ft) := ⟨rfl, rfl⟩
theorem cOltD (fs ft : Reg) : Statement (.cOltD fs ft) := ⟨rfl, rfl⟩
theorem cUltS (fs ft : Reg) : Statement (.cUltS fs ft) := ⟨rfl, rfl⟩
theorem cUltD (fs ft : Reg) : Statement (.cUltD fs ft) := ⟨rfl, rfl⟩
theorem cOleS (fs ft : Reg) : Statement (.cOleS fs ft) := ⟨rfl, rfl⟩
theorem cOleD (fs ft : Reg) : Statement (.cOleD fs ft) := ⟨rfl, rfl⟩
theorem cUleS (fs ft : Reg) : Statement (.cUleS fs ft) := ⟨rfl, rfl⟩
theorem cUleD (fs ft : Reg) : Statement (.cUleD fs ft) := ⟨rfl, rfl⟩
theorem cSfS (fs ft : Reg) : Statement (.cSfS fs ft) := ⟨rfl, rfl⟩
theorem cSfD (fs ft : Reg) : Statement (.cSfD fs ft) := ⟨rfl, rfl⟩
theorem cNgleS (fs ft : Reg) : Statement (.cNgleS fs ft) := ⟨rfl, rfl⟩
theorem cNgleD (fs ft : Reg) : Statement (.cNgleD fs ft) := ⟨rfl, rfl⟩
theorem cSeqS (fs ft : Reg) : Statement (.cSeqS fs ft) := ⟨rfl, rfl⟩
theorem cSeqD (fs ft : Reg) : Statement (.cSeqD fs ft) := ⟨rfl, rfl⟩
theorem cNglS (fs ft : Reg) : Statement (.cNglS fs ft) := ⟨rfl, rfl⟩
theorem cNglD (fs ft : Reg) : Statement (.cNglD fs ft) := ⟨rfl, rfl⟩
theorem cLtS (fs ft : Reg) : Statement (.cLtS fs ft) := ⟨rfl, rfl⟩
theorem cLtD (fs ft : Reg) : Statement (.cLtD fs ft) := ⟨rfl, rfl⟩
theorem cNgeS (fs ft : Reg) : Statement (.cNgeS fs ft) := ⟨rfl, rfl⟩
theorem cNgeD (fs ft : Reg) : Statement (.cNgeD fs ft) := ⟨rfl, rfl⟩
theorem cLeS (fs ft : Reg) : Statement (.cLeS fs ft) := ⟨rfl, rfl⟩
theorem cLeD (fs ft : Reg) : Statement (.cLeD fs ft) := ⟨rfl, rfl⟩
theorem cNgtS (fs ft : Reg) : Statement (.cNgtS fs ft) := ⟨rfl, rfl⟩
theorem cNgtD (fs ft : Reg) : Statement (.cNgtD fs ft) := ⟨rfl, rfl⟩
theorem rspSll (rd rt : Reg) (sa : BitVec 5) : Statement (.rspSll rd rt sa) := ⟨rfl, rfl⟩
theorem rspSrl (rd rt : Reg) (sa : BitVec 5) : Statement (.rspSrl rd rt sa) := ⟨rfl, rfl⟩
theorem rspSra (rd rt : Reg) (sa : BitVec 5) : Statement (.rspSra rd rt sa) := ⟨rfl, rfl⟩
theorem rspSllv (rd rt rs : Reg) : Statement (.rspSllv rd rt rs) := ⟨rfl, rfl⟩
theorem rspSrlv (rd rt rs : Reg) : Statement (.rspSrlv rd rt rs) := ⟨rfl, rfl⟩
theorem rspSrav (rd rt rs : Reg) : Statement (.rspSrav rd rt rs) := ⟨rfl, rfl⟩
theorem rspAdd (rd rs rt : Reg) : Statement (.rspAdd rd rs rt) := ⟨rfl, rfl⟩
theorem rspAddu (rd rs rt : Reg) : Statement (.rspAddu rd rs rt) := ⟨rfl, rfl⟩
theorem rspSub (rd rs rt : Reg) : Statement (.rspSub rd rs rt) := ⟨rfl, rfl⟩
theorem rspSubu (rd rs rt : Reg) : Statement (.rspSubu rd rs rt) := ⟨rfl, rfl⟩
theorem rspAnd (rd rs rt : Reg) : Statement (.rspAnd rd rs rt) := ⟨rfl, rfl⟩
theorem rspOr (rd rs rt : Reg) : Statement (.rspOr rd rs rt) := ⟨rfl, rfl⟩
theorem rspXor (rd rs rt : Reg) : Statement (.rspXor rd rs rt) := ⟨rfl, rfl⟩
theorem rspNor (rd rs rt : Reg) : Statement (.rspNor rd rs rt) := ⟨rfl, rfl⟩
theorem rspSlt (rd rs rt : Reg) : Statement (.rspSlt rd rs rt) := ⟨rfl, rfl⟩
theorem rspSltu (rd rs rt : Reg) : Statement (.rspSltu rd rs rt) := ⟨rfl, rfl⟩
theorem rspJr (rs : Reg) : Statement (.rspJr rs) := ⟨rfl, rfl⟩
theorem rspJalr (rd rs : Reg) : Statement (.rspJalr rd rs) := ⟨rfl, rfl⟩
theorem rspBreak (code : BitVec 20) : Statement (.rspBreak code) := ⟨rfl, rfl⟩
theorem rspAddi (rt rs : Reg) (imm : BitVec 16) : Statement (.rspAddi rt rs imm) := ⟨rfl, rfl⟩
theorem rspAddiu (rt rs : Reg) (imm : BitVec 16) : Statement (.rspAddiu rt rs imm) := ⟨rfl, rfl⟩
theorem rspSlti (rt rs : Reg) (imm : BitVec 16) : Statement (.rspSlti rt rs imm) := ⟨rfl, rfl⟩
theorem rspSltiu (rt rs : Reg) (imm : BitVec 16) : Statement (.rspSltiu rt rs imm) := ⟨rfl, rfl⟩
theorem rspAndi (rt rs : Reg) (imm : BitVec 16) : Statement (.rspAndi rt rs imm) := ⟨rfl, rfl⟩
theorem rspOri (rt rs : Reg) (imm : BitVec 16) : Statement (.rspOri rt rs imm) := ⟨rfl, rfl⟩
theorem rspXori (rt rs : Reg) (imm : BitVec 16) : Statement (.rspXori rt rs imm) := ⟨rfl, rfl⟩
theorem rspLui (rt : Reg) (imm : BitVec 16) : Statement (.rspLui rt imm) := ⟨rfl, rfl⟩
theorem rspBeq (rs rt : Reg) (imm : BitVec 16) : Statement (.rspBeq rs rt imm) := ⟨rfl, rfl⟩
theorem rspBne (rs rt : Reg) (imm : BitVec 16) : Statement (.rspBne rs rt imm) := ⟨rfl, rfl⟩
theorem rspBlez (rs : Reg) (imm : BitVec 16) : Statement (.rspBlez rs imm) := ⟨rfl, rfl⟩
theorem rspBgtz (rs : Reg) (imm : BitVec 16) : Statement (.rspBgtz rs imm) := ⟨rfl, rfl⟩
theorem rspJ (target : BitVec 26) : Statement (.rspJ target) := ⟨rfl, rfl⟩
theorem rspJal (target : BitVec 26) : Statement (.rspJal target) := ⟨rfl, rfl⟩
theorem rspBltz (rs : Reg) (imm : BitVec 16) : Statement (.rspBltz rs imm) := ⟨rfl, rfl⟩
theorem rspBgez (rs : Reg) (imm : BitVec 16) : Statement (.rspBgez rs imm) := ⟨rfl, rfl⟩
theorem rspBltzal (rs : Reg) (imm : BitVec 16) : Statement (.rspBltzal rs imm) := ⟨rfl, rfl⟩
theorem rspBgezal (rs : Reg) (imm : BitVec 16) : Statement (.rspBgezal rs imm) := ⟨rfl, rfl⟩
theorem rspLb (rt : Reg) (offset : BitVec 16) (base : Reg) : Statement (.rspLb rt offset base) := ⟨rfl, rfl⟩
theorem rspLh (rt : Reg) (offset : BitVec 16) (base : Reg) : Statement (.rspLh rt offset base) := ⟨rfl, rfl⟩
theorem rspLw (rt : Reg) (offset : BitVec 16) (base : Reg) : Statement (.rspLw rt offset base) := ⟨rfl, rfl⟩
theorem rspLbu (rt : Reg) (offset : BitVec 16) (base : Reg) : Statement (.rspLbu rt offset base) := ⟨rfl, rfl⟩
theorem rspLhu (rt : Reg) (offset : BitVec 16) (base : Reg) : Statement (.rspLhu rt offset base) := ⟨rfl, rfl⟩
theorem rspLwu (rt : Reg) (offset : BitVec 16) (base : Reg) : Statement (.rspLwu rt offset base) := ⟨rfl, rfl⟩
theorem rspSb (rt : Reg) (offset : BitVec 16) (base : Reg) : Statement (.rspSb rt offset base) := ⟨rfl, rfl⟩
theorem rspSh (rt : Reg) (offset : BitVec 16) (base : Reg) : Statement (.rspSh rt offset base) := ⟨rfl, rfl⟩
theorem rspSw (rt : Reg) (offset : BitVec 16) (base : Reg) : Statement (.rspSw rt offset base) := ⟨rfl, rfl⟩
theorem rspMfc0 (rt rd : Reg) : Statement (.rspMfc0 rt rd) := ⟨rfl, rfl⟩
theorem rspMtc0 (rt rd : Reg) : Statement (.rspMtc0 rt rd) := ⟨rfl, rfl⟩
theorem rspMfc2 (rt vs : Reg) (e : BitVec 4) : Statement (.rspMfc2 rt vs e) := ⟨rfl, rfl⟩
theorem rspMtc2 (rt vd : Reg) (e : BitVec 4) : Statement (.rspMtc2 rt vd e) := ⟨rfl, rfl⟩
theorem rspCfc2 (rt rd : Reg) : Statement (.rspCfc2 rt rd) := ⟨rfl, rfl⟩
theorem rspCtc2 (rt rd : Reg) : Statement (.rspCtc2 rt rd) := ⟨rfl, rfl⟩
theorem rspLbv (vt : Reg) (e : BitVec 4) (offset : BitVec 7) (base : Reg) : Statement (.rspLbv vt e offset base) := ⟨rfl, rfl⟩
theorem rspLsv (vt : Reg) (e : BitVec 4) (offset : BitVec 7) (base : Reg) : Statement (.rspLsv vt e offset base) := ⟨rfl, rfl⟩
theorem rspLlv (vt : Reg) (e : BitVec 4) (offset : BitVec 7) (base : Reg) : Statement (.rspLlv vt e offset base) := ⟨rfl, rfl⟩
theorem rspLdv (vt : Reg) (e : BitVec 4) (offset : BitVec 7) (base : Reg) : Statement (.rspLdv vt e offset base) := ⟨rfl, rfl⟩
theorem rspLqv (vt : Reg) (e : BitVec 4) (offset : BitVec 7) (base : Reg) : Statement (.rspLqv vt e offset base) := ⟨rfl, rfl⟩
theorem rspLrv (vt : Reg) (e : BitVec 4) (offset : BitVec 7) (base : Reg) : Statement (.rspLrv vt e offset base) := ⟨rfl, rfl⟩
theorem rspLpv (vt : Reg) (e : BitVec 4) (offset : BitVec 7) (base : Reg) : Statement (.rspLpv vt e offset base) := ⟨rfl, rfl⟩
theorem rspLuv (vt : Reg) (e : BitVec 4) (offset : BitVec 7) (base : Reg) : Statement (.rspLuv vt e offset base) := ⟨rfl, rfl⟩
theorem rspLhv (vt : Reg) (e : BitVec 4) (offset : BitVec 7) (base : Reg) : Statement (.rspLhv vt e offset base) := ⟨rfl, rfl⟩
theorem rspLfv (vt : Reg) (e : BitVec 4) (offset : BitVec 7) (base : Reg) : Statement (.rspLfv vt e offset base) := ⟨rfl, rfl⟩
theorem rspLwv (vt : Reg) (e : BitVec 4) (offset : BitVec 7) (base : Reg) : Statement (.rspLwv vt e offset base) := ⟨rfl, rfl⟩
theorem rspLtv (vt : Reg) (e : BitVec 4) (offset : BitVec 7) (base : Reg) : Statement (.rspLtv vt e offset base) := ⟨rfl, rfl⟩
theorem rspSbv (vt : Reg) (e : BitVec 4) (offset : BitVec 7) (base : Reg) : Statement (.rspSbv vt e offset base) := ⟨rfl, rfl⟩
theorem rspSsv (vt : Reg) (e : BitVec 4) (offset : BitVec 7) (base : Reg) : Statement (.rspSsv vt e offset base) := ⟨rfl, rfl⟩
theorem rspSlv (vt : Reg) (e : BitVec 4) (offset : BitVec 7) (base : Reg) : Statement (.rspSlv vt e offset base) := ⟨rfl, rfl⟩
theorem rspSdv (vt : Reg) (e : BitVec 4) (offset : BitVec 7) (base : Reg) : Statement (.rspSdv vt e offset base) := ⟨rfl, rfl⟩
theorem rspSqv (vt : Reg) (e : BitVec 4) (offset : BitVec 7) (base : Reg) : Statement (.rspSqv vt e offset base) := ⟨rfl, rfl⟩
theorem rspSrv (vt : Reg) (e : BitVec 4) (offset : BitVec 7) (base : Reg) : Statement (.rspSrv vt e offset base) := ⟨rfl, rfl⟩
theorem rspSpv (vt : Reg) (e : BitVec 4) (offset : BitVec 7) (base : Reg) : Statement (.rspSpv vt e offset base) := ⟨rfl, rfl⟩
theorem rspSuv (vt : Reg) (e : BitVec 4) (offset : BitVec 7) (base : Reg) : Statement (.rspSuv vt e offset base) := ⟨rfl, rfl⟩
theorem rspShv (vt : Reg) (e : BitVec 4) (offset : BitVec 7) (base : Reg) : Statement (.rspShv vt e offset base) := ⟨rfl, rfl⟩
theorem rspSfv (vt : Reg) (e : BitVec 4) (offset : BitVec 7) (base : Reg) : Statement (.rspSfv vt e offset base) := ⟨rfl, rfl⟩
theorem rspSwv (vt : Reg) (e : BitVec 4) (offset : BitVec 7) (base : Reg) : Statement (.rspSwv vt e offset base) := ⟨rfl, rfl⟩
theorem rspStv (vt : Reg) (e : BitVec 4) (offset : BitVec 7) (base : Reg) : Statement (.rspStv vt e offset base) := ⟨rfl, rfl⟩
theorem rspVadd (vd vs vt : Reg) (e : BitVec 4) : Statement (.rspVadd vd vs vt e) := ⟨rfl, rfl⟩
theorem rspVsub (vd vs vt : Reg) (e : BitVec 4) : Statement (.rspVsub vd vs vt e) := ⟨rfl, rfl⟩
theorem rspVabs (vd vs vt : Reg) (e : BitVec 4) : Statement (.rspVabs vd vs vt e) := ⟨rfl, rfl⟩
theorem rspVand (vd vs vt : Reg) (e : BitVec 4) : Statement (.rspVand vd vs vt e) := ⟨rfl, rfl⟩
theorem rspVnand (vd vs vt : Reg) (e : BitVec 4) : Statement (.rspVnand vd vs vt e) := ⟨rfl, rfl⟩
theorem rspVor (vd vs vt : Reg) (e : BitVec 4) : Statement (.rspVor vd vs vt e) := ⟨rfl, rfl⟩
theorem rspVnor (vd vs vt : Reg) (e : BitVec 4) : Statement (.rspVnor vd vs vt e) := ⟨rfl, rfl⟩
theorem rspVxor (vd vs vt : Reg) (e : BitVec 4) : Statement (.rspVxor vd vs vt e) := ⟨rfl, rfl⟩
theorem rspVnxor (vd vs vt : Reg) (e : BitVec 4) : Statement (.rspVnxor vd vs vt e) := ⟨rfl, rfl⟩
theorem rspVlt (vd vs vt : Reg) (e : BitVec 4) : Statement (.rspVlt vd vs vt e) := ⟨rfl, rfl⟩
theorem rspVeq (vd vs vt : Reg) (e : BitVec 4) : Statement (.rspVeq vd vs vt e) := ⟨rfl, rfl⟩
theorem rspVne (vd vs vt : Reg) (e : BitVec 4) : Statement (.rspVne vd vs vt e) := ⟨rfl, rfl⟩
theorem rspVge (vd vs vt : Reg) (e : BitVec 4) : Statement (.rspVge vd vs vt e) := ⟨rfl, rfl⟩
theorem rspVmrg (vd vs vt : Reg) (e : BitVec 4) : Statement (.rspVmrg vd vs vt e) := ⟨rfl, rfl⟩
theorem rspVsar (vd : Reg) (e : BitVec 4) : Statement (.rspVsar vd e) := ⟨rfl, rfl⟩
theorem rspVnop : Statement (.rspVnop) := ⟨rfl, rfl⟩
theorem rspVmulf (vd vs vt : Reg) (e : BitVec 4) : Statement (.rspVmulf vd vs vt e) := ⟨rfl, rfl⟩
theorem rspVmulu (vd vs vt : Reg) (e : BitVec 4) : Statement (.rspVmulu vd vs vt e) := ⟨rfl, rfl⟩
theorem rspVrndp (vd vs vt : Reg) (e : BitVec 4) : Statement (.rspVrndp vd vs vt e) := ⟨rfl, rfl⟩
theorem rspVmulq (vd vs vt : Reg) (e : BitVec 4) : Statement (.rspVmulq vd vs vt e) := ⟨rfl, rfl⟩
theorem rspVmudl (vd vs vt : Reg) (e : BitVec 4) : Statement (.rspVmudl vd vs vt e) := ⟨rfl, rfl⟩
theorem rspVmudm (vd vs vt : Reg) (e : BitVec 4) : Statement (.rspVmudm vd vs vt e) := ⟨rfl, rfl⟩
theorem rspVmudn (vd vs vt : Reg) (e : BitVec 4) : Statement (.rspVmudn vd vs vt e) := ⟨rfl, rfl⟩
theorem rspVmudh (vd vs vt : Reg) (e : BitVec 4) : Statement (.rspVmudh vd vs vt e) := ⟨rfl, rfl⟩
theorem rspVmacf (vd vs vt : Reg) (e : BitVec 4) : Statement (.rspVmacf vd vs vt e) := ⟨rfl, rfl⟩
theorem rspVmacu (vd vs vt : Reg) (e : BitVec 4) : Statement (.rspVmacu vd vs vt e) := ⟨rfl, rfl⟩
theorem rspVrndn (vd vs vt : Reg) (e : BitVec 4) : Statement (.rspVrndn vd vs vt e) := ⟨rfl, rfl⟩
theorem rspVmacq (vd vs vt : Reg) (e : BitVec 4) : Statement (.rspVmacq vd vs vt e) := ⟨rfl, rfl⟩
theorem rspVmadl (vd vs vt : Reg) (e : BitVec 4) : Statement (.rspVmadl vd vs vt e) := ⟨rfl, rfl⟩
theorem rspVmadm (vd vs vt : Reg) (e : BitVec 4) : Statement (.rspVmadm vd vs vt e) := ⟨rfl, rfl⟩
theorem rspVmadn (vd vs vt : Reg) (e : BitVec 4) : Statement (.rspVmadn vd vs vt e) := ⟨rfl, rfl⟩
theorem rspVmadh (vd vs vt : Reg) (e : BitVec 4) : Statement (.rspVmadh vd vs vt e) := ⟨rfl, rfl⟩
theorem rspVaddc (vd vs vt : Reg) (e : BitVec 4) : Statement (.rspVaddc vd vs vt e) := ⟨rfl, rfl⟩
theorem rspVsubc (vd vs vt : Reg) (e : BitVec 4) : Statement (.rspVsubc vd vs vt e) := ⟨rfl, rfl⟩
theorem rspVcl (vd vs vt : Reg) (e : BitVec 4) : Statement (.rspVcl vd vs vt e) := ⟨rfl, rfl⟩
theorem rspVch (vd vs vt : Reg) (e : BitVec 4) : Statement (.rspVch vd vs vt e) := ⟨rfl, rfl⟩
theorem rspVcr (vd vs vt : Reg) (e : BitVec 4) : Statement (.rspVcr vd vs vt e) := ⟨rfl, rfl⟩
theorem rspVrcp (vd vs vt : Reg) (e : BitVec 4) : Statement (.rspVrcp vd vs vt e) := ⟨rfl, rfl⟩
theorem rspVrcpl (vd vs vt : Reg) (e : BitVec 4) : Statement (.rspVrcpl vd vs vt e) := ⟨rfl, rfl⟩
theorem rspVrcph (vd vs vt : Reg) (e : BitVec 4) : Statement (.rspVrcph vd vs vt e) := ⟨rfl, rfl⟩
theorem rspVmov (vd vs vt : Reg) (e : BitVec 4) : Statement (.rspVmov vd vs vt e) := ⟨rfl, rfl⟩
theorem rspVrsq (vd vs vt : Reg) (e : BitVec 4) : Statement (.rspVrsq vd vs vt e) := ⟨rfl, rfl⟩
theorem rspVrsql (vd vs vt : Reg) (e : BitVec 4) : Statement (.rspVrsql vd vs vt e) := ⟨rfl, rfl⟩
theorem rspVrsqh (vd vs vt : Reg) (e : BitVec 4) : Statement (.rspVrsqh vd vs vt e) := ⟨rfl, rfl⟩
theorem rdpNop : Statement (.rdpNop) := ⟨rfl, iff_of_true rfl (by simp [commandLength])⟩
theorem rdpTriangle (payload : BitVec 56) (rest : List (BitVec 64)) : Statement (.rdpTriangle payload rest) := ⟨rfl, by show (rest.length == 3) = true ↔ _; simp [commandLength]⟩
theorem rdpTriangleZ (payload : BitVec 56) (rest : List (BitVec 64)) : Statement (.rdpTriangleZ payload rest) := ⟨rfl, by show (rest.length == 5) = true ↔ _; simp [commandLength]⟩
theorem rdpTriangleTex (payload : BitVec 56) (rest : List (BitVec 64)) : Statement (.rdpTriangleTex payload rest) := ⟨rfl, by show (rest.length == 11) = true ↔ _; simp [commandLength]⟩
theorem rdpTriangleTexZ (payload : BitVec 56) (rest : List (BitVec 64)) : Statement (.rdpTriangleTexZ payload rest) := ⟨rfl, by show (rest.length == 13) = true ↔ _; simp [commandLength]⟩
theorem rdpTriangleShade (payload : BitVec 56) (rest : List (BitVec 64)) : Statement (.rdpTriangleShade payload rest) := ⟨rfl, by show (rest.length == 11) = true ↔ _; simp [commandLength]⟩
theorem rdpTriangleShadeZ (payload : BitVec 56) (rest : List (BitVec 64)) : Statement (.rdpTriangleShadeZ payload rest) := ⟨rfl, by show (rest.length == 13) = true ↔ _; simp [commandLength]⟩
theorem rdpTriangleShadeTex (payload : BitVec 56) (rest : List (BitVec 64)) : Statement (.rdpTriangleShadeTex payload rest) := ⟨rfl, by show (rest.length == 19) = true ↔ _; simp [commandLength]⟩
theorem rdpTriangleShadeTexZ (payload : BitVec 56) (rest : List (BitVec 64)) : Statement (.rdpTriangleShadeTexZ payload rest) := ⟨rfl, by show (rest.length == 21) = true ↔ _; simp [commandLength]⟩
theorem rdpTextureRectangle (payload : BitVec 56) (rest : List (BitVec 64)) : Statement (.rdpTextureRectangle payload rest) := ⟨rfl, by show (rest.length == 1) = true ↔ _; simp [commandLength]⟩
theorem rdpTextureRectangleFlip (payload : BitVec 56) (rest : List (BitVec 64)) : Statement (.rdpTextureRectangleFlip payload rest) := ⟨rfl, by show (rest.length == 1) = true ↔ _; simp [commandLength]⟩
theorem rdpSyncLoad : Statement (.rdpSyncLoad) := ⟨rfl, iff_of_true rfl (by simp [commandLength])⟩
theorem rdpSyncPipe : Statement (.rdpSyncPipe) := ⟨rfl, iff_of_true rfl (by simp [commandLength])⟩
theorem rdpSyncTile : Statement (.rdpSyncTile) := ⟨rfl, iff_of_true rfl (by simp [commandLength])⟩
theorem rdpSyncFull : Statement (.rdpSyncFull) := ⟨rfl, iff_of_true rfl (by simp [commandLength])⟩
theorem rdpSetKeyGb (payload : BitVec 56) : Statement (.rdpSetKeyGb payload) := ⟨rfl, iff_of_true rfl (by simp [commandLength])⟩
theorem rdpSetKeyR (payload : BitVec 56) : Statement (.rdpSetKeyR payload) := ⟨rfl, iff_of_true rfl (by simp [commandLength])⟩
theorem rdpSetConvert (payload : BitVec 56) : Statement (.rdpSetConvert payload) := ⟨rfl, iff_of_true rfl (by simp [commandLength])⟩
theorem rdpSetScissor (payload : BitVec 56) : Statement (.rdpSetScissor payload) := ⟨rfl, iff_of_true rfl (by simp [commandLength])⟩
theorem rdpSetPrimDepth (payload : BitVec 56) : Statement (.rdpSetPrimDepth payload) := ⟨rfl, iff_of_true rfl (by simp [commandLength])⟩
theorem rdpSetOtherModes (payload : BitVec 56) : Statement (.rdpSetOtherModes payload) := ⟨rfl, iff_of_true rfl (by simp [commandLength])⟩
theorem rdpLoadTlut (payload : BitVec 56) : Statement (.rdpLoadTlut payload) := ⟨rfl, iff_of_true rfl (by simp [commandLength])⟩
theorem rdpSetTileSize (payload : BitVec 56) : Statement (.rdpSetTileSize payload) := ⟨rfl, iff_of_true rfl (by simp [commandLength])⟩
theorem rdpLoadBlock (payload : BitVec 56) : Statement (.rdpLoadBlock payload) := ⟨rfl, iff_of_true rfl (by simp [commandLength])⟩
theorem rdpLoadTile (payload : BitVec 56) : Statement (.rdpLoadTile payload) := ⟨rfl, iff_of_true rfl (by simp [commandLength])⟩
theorem rdpSetTile (payload : BitVec 56) : Statement (.rdpSetTile payload) := ⟨rfl, iff_of_true rfl (by simp [commandLength])⟩
theorem rdpFillRectangle (xl yl xh yh : BitVec 12) : Statement (.rdpFillRectangle xl yl xh yh) := ⟨rfl, iff_of_true rfl (by simp [commandLength])⟩
theorem rdpSetFillColor (color : BitVec 32) : Statement (.rdpSetFillColor color) := ⟨rfl, iff_of_true rfl (by simp [commandLength])⟩
theorem rdpSetFogColor (payload : BitVec 56) : Statement (.rdpSetFogColor payload) := ⟨rfl, iff_of_true rfl (by simp [commandLength])⟩
theorem rdpSetBlendColor (payload : BitVec 56) : Statement (.rdpSetBlendColor payload) := ⟨rfl, iff_of_true rfl (by simp [commandLength])⟩
theorem rdpSetPrimColor (payload : BitVec 56) : Statement (.rdpSetPrimColor payload) := ⟨rfl, iff_of_true rfl (by simp [commandLength])⟩
theorem rdpSetEnvColor (payload : BitVec 56) : Statement (.rdpSetEnvColor payload) := ⟨rfl, iff_of_true rfl (by simp [commandLength])⟩
theorem rdpSetCombineMode (payload : BitVec 56) : Statement (.rdpSetCombineMode payload) := ⟨rfl, iff_of_true rfl (by simp [commandLength])⟩
theorem rdpSetTextureImage (payload : BitVec 56) : Statement (.rdpSetTextureImage payload) := ⟨rfl, iff_of_true rfl (by simp [commandLength])⟩
theorem rdpSetZImage (payload : BitVec 56) : Statement (.rdpSetZImage payload) := ⟨rfl, iff_of_true rfl (by simp [commandLength])⟩
theorem rdpSetColorImage (payload : BitVec 56) : Statement (.rdpSetColorImage payload) := ⟨rfl, iff_of_true rfl (by simp [commandLength])⟩

end Sys2Proof.Laws.Encoding
end

