-- ==== Sys2Proof/Tests/Slice0.lean ====
section
/-! SUPPORT. Tests. Every expected value is taken from spec/95_test_vectors.md (the rows W1 to W4 and sections 2.1 to 2.12)
or, for the witnesses at the end, is a hypothesis of the obligation that the theorem's name ends with. One step each. -/

namespace Sys2Proof.Tests

set_option Elab.async false

open Sys2Proof Sys2Proof.Machine

/-! ## Small states -/

/-- The address of the instruction under test (spec/95_test_vectors.md, conventions). -/
def P : Dword := 0xFFFFFFFF80000400

/-- Reset, about to execute at P. -/
def start : State := { State.reset with cpu.pc := P, clock.phase := .cpu 1 }

/-- `s` with general registers set. -/
def regs (l : List (Reg × Dword)) (s : State) : State := l.foldl (fun t p => setGpr t p.1 p.2) s

/-- `s` with the low `8 n` bits of `v` in memory at `a`. -/
def poke (a n : Nat) (v : Dword) (s : State) : State := { s with mem := Memory.write s.mem a v n }

/-- The CPU step of `w` at P. -/
noncomputable def cpuOn (s : State) (w : Word) : Result := step (poke 0x400 4 (w.setWidth 64) s)

/-- `r` is a next state that satisfies `p`. -/
def after (r : Result) (p : State → Bool) : Bool :=
  match r with
  | .next t => p t
  | .fault _ => false
  | .refused _ => false

/-- `r` is the refusal `why`. -/
def refuses (r : Result) (why : Refusal) : Bool :=
  match r with
  | .next _ => false
  | .fault _ => false
  | .refused x => x == why

/-- An exception's entry at P: its Cause, its Status, the pc at the vector. -/
def entered (cause : Word) (t : State) : Bool :=
  t.cp0.epc == P && causeRead t == cause && t.cp0.status == 0x34000002 && t.cpu.pc == 0xFFFFFFFF80000180 && !t.cpu.ds

/-- Reset, the VectorUnit about to execute at rsp_pc 0. -/
def vuStart : State := { State.reset with sp.halt := false, clock.phase := .vu 1 }

/-- `s` with scalar registers set. -/
def scalars (l : List (Reg × Word)) (s : State) : State := l.foldl (fun t p => setSr t p.1 p.2) s

/-- The VectorUnit step of `w`. -/
noncomputable def vuOn (s : State) (w : Word) : Result := step (poke (0x04001000 + s.vu.pc.toNat) 4 (w.setWidth 64) s)

/-- The DisplayProcessor command `ws`, drawn. -/
noncomputable def rdpOn (s : State) (ws : List Dword) : Result := step { s with clock.phase := .draw [ws] }

/-- vr[1] and vr[2] of the rows marked A of section 2.8. -/
def rowA : State := setVr (setVr vuStart 1 #v[1, 2, 3, 4, 5, 6, 7, 8]) 2 #v[8, 7, 6, 5, 4, 3, 2, 1]

/-- Every lane of vr[1] is `a`, of vr[2] `b`. -/
def flat (a b : Half) : State := setVr (setVr vuStart 1 (Vector.replicate 8 a)) 2 (Vector.replicate 8 b)

/-! ## Well-formedness: an ill-formed term for each check -/

theorem test_wf_triangle : (Instr.rdpTriangle 0 []).wellFormed = false ∧
    (Instr.rdpTriangle 0 [0, 0, 0]).wellFormed = true := by decide
theorem test_wf_triangleZ : (Instr.rdpTriangleZ 0 [0, 0, 0, 0]).wellFormed = false := by decide
theorem test_wf_triangleTex : (Instr.rdpTriangleTex 0 (List.replicate 10 0)).wellFormed = false := by decide
theorem test_wf_triangleTexZ : (Instr.rdpTriangleTexZ 0 (List.replicate 14 0)).wellFormed = false := by decide
theorem test_wf_triangleShade : (Instr.rdpTriangleShade 0 (List.replicate 12 0)).wellFormed = false := by decide
theorem test_wf_triangleShadeZ : (Instr.rdpTriangleShadeZ 0 (List.replicate 12 0)).wellFormed = false := by decide
theorem test_wf_triangleShadeTex : (Instr.rdpTriangleShadeTex 0 (List.replicate 20 0)).wellFormed = false := by decide
theorem test_wf_triangleShadeTexZ : (Instr.rdpTriangleShadeTexZ 0 (List.replicate 20 0)).wellFormed = false := by decide
theorem test_wf_textureRectangle : (Instr.rdpTextureRectangle 0 []).wellFormed = false := by decide
theorem test_wf_textureRectangleFlip : (Instr.rdpTextureRectangleFlip 0 [0, 0]).wellFormed = false := by decide
theorem test_wf_cpu : (Instr.add 3 1 2).wellFormed = true := by decide

/-! ## Integer ALU (W1, section 2.1) -/

theorem test_add_overflow : after (cpuOn (regs [(1, 0x7FFFFFFF), (2, 1), (3, 0x1234)] start) 0x00221820)
    (fun t => gpr t 3 == 0x1234 && entered 0x30 t) = true := by decide +kernel
theorem test_addu_wraps : after (cpuOn (regs [(1, 0x7FFFFFFF), (2, 1)] start) 0x00221821)
    (fun t => gpr t 3 == 0xFFFFFFFF80000000 && t.cpu.pc == P + 4) = true := by decide +kernel
theorem test_dadd_overflow : after (cpuOn (regs [(1, 0x7FFFFFFFFFFFFFFF), (2, 1), (3, 7)] start) 0x0022182C)
    (fun t => gpr t 3 == 7 && entered 0x30 t) = true := by decide +kernel
theorem test_daddu_wraps : after (cpuOn (regs [(1, 0x7FFFFFFFFFFFFFFF), (2, 1)] start) 0x0022182D)
    (fun t => gpr t 3 == 0x8000000000000000) = true := by decide +kernel
theorem test_sub_overflow : after (cpuOn (regs [(1, 0xFFFFFFFF80000000), (2, 1), (3, 7)] start) 0x00221822)
    (fun t => gpr t 3 == 7 && entered 0x30 t) = true := by decide +kernel
theorem test_subu_wraps : after (cpuOn (regs [(1, 0xFFFFFFFF80000000), (2, 1)] start) 0x00221823)
    (fun t => gpr t 3 == 0x7FFFFFFF) = true := by decide +kernel
theorem test_addi_overflow : after (cpuOn (regs [(1, 0x7FFFFFFF), (2, 9)] start) 0x20220001)
    (fun t => gpr t 2 == 9 && entered 0x30 t) = true := by decide +kernel
theorem test_addiu_negative : after (cpuOn (regs [(1, 0)] start) 0x2422FFFF)
    (fun t => gpr t 2 == 0xFFFFFFFFFFFFFFFF) = true := by decide +kernel
theorem test_daddi_overflow : after (cpuOn (regs [(1, 0x7FFFFFFFFFFFFFFF), (2, 9)] start) 0x60220001)
    (fun t => gpr t 2 == 9 && entered 0x30 t) = true := by decide +kernel
theorem test_addu_low32 : after (cpuOn (regs [(1, 0x0000000100000001), (2, 0)] start) 0x00221821)
    (fun t => gpr t 3 == 1) = true := by decide +kernel
theorem test_addiu_x0 : after (cpuOn start 0x24000001)
    (fun t => gpr t 0 == 0 && t.cpu.pc == P + 4) = true := by decide +kernel
theorem test_slt_signed : after (cpuOn (regs [(1, 0xFFFFFFFFFFFFFFFF), (2, 1)] start) 0x0022182A)
    (fun t => gpr t 3 == 1) = true := by decide +kernel
theorem test_sltu_unsigned : after (cpuOn (regs [(1, 0xFFFFFFFFFFFFFFFF), (2, 1), (3, 5)] start) 0x0022182B)
    (fun t => gpr t 3 == 0) = true := by decide +kernel
theorem test_sltiu_sign_extends : after (cpuOn (regs [(1, 5)] start) 0x2C22FFFF)
    (fun t => gpr t 2 == 1) = true := by decide +kernel
theorem test_sll_31 : after (cpuOn (regs [(2, 1)] start) 0x00021FC0)
    (fun t => gpr t 3 == 0xFFFFFFFF80000000) = true := by decide +kernel
theorem test_srl_4 : after (cpuOn (regs [(2, 0xFFFFFFFF80000000)] start) 0x00021902)
    (fun t => gpr t 3 == 0x08000000) = true := by decide +kernel
theorem test_sra_4 : after (cpuOn (regs [(2, 0xFFFFFFFF80000000)] start) 0x00021903)
    (fun t => gpr t 3 == 0xFFFFFFFFF8000000) = true := by decide +kernel
theorem test_sllv_modulo : after (cpuOn (regs [(1, 33), (2, 1)] start) 0x00221804)
    (fun t => gpr t 3 == 2) = true := by decide +kernel
theorem test_dsll32 : after (cpuOn (regs [(2, 1)] start) 0x0002183C)
    (fun t => gpr t 3 == 0x100000000) = true := by decide +kernel
theorem test_dsra32_31 : after (cpuOn (regs [(2, 0x8000000000000000)] start) 0x00021FFF)
    (fun t => gpr t 3 == 0xFFFFFFFFFFFFFFFF) = true := by decide +kernel
theorem test_lui_sign_extends : after (cpuOn start 0x3C028000)
    (fun t => gpr t 2 == 0xFFFFFFFF80000000) = true := by decide +kernel
theorem test_andi_zero_extends : after (cpuOn (regs [(1, 0xFFFFFFFFFFFFFFFF)] start) 0x3022FFFF)
    (fun t => gpr t 2 == 0xFFFF) = true := by decide +kernel
theorem test_ori_zero_extends : after (cpuOn (regs [(1, 1)] start) 0x34228000)
    (fun t => gpr t 2 == 0x8001) = true := by decide +kernel
theorem test_xori : after (cpuOn (regs [(1, 0xFFFF), (2, 3)] start) 0x3822FFFF)
    (fun t => gpr t 2 == 0) = true := by decide +kernel
theorem test_nor : after (cpuOn start 0x00221827)
    (fun t => gpr t 3 == 0xFFFFFFFFFFFFFFFF) = true := by decide +kernel

/-! ## Multiply and divide (section 2.2) -/

theorem test_mult : after (cpuOn (regs [(1, 0xFFFFFFFFFFFFFFFE), (2, 3)] start) 0x00220018)
    (fun t => t.cpu.hi == 0xFFFFFFFFFFFFFFFF && t.cpu.lo == 0xFFFFFFFFFFFFFFFA) = true := by decide +kernel
theorem test_multu : after (cpuOn (regs [(1, 0xFFFFFFFFFFFFFFFF), (2, 0xFFFFFFFFFFFFFFFF)] start) 0x00220019)
    (fun t => t.cpu.hi == 0xFFFFFFFFFFFFFFFE && t.cpu.lo == 1) = true := by decide +kernel
theorem test_dmult : after (cpuOn (regs [(1, 0x8000000000000000), (2, 2)] start) 0x0022001C)
    (fun t => t.cpu.hi == 0xFFFFFFFFFFFFFFFF && t.cpu.lo == 0) = true := by decide +kernel
theorem test_dmultu : after (cpuOn (regs [(1, 0xFFFFFFFFFFFFFFFF), (2, 0xFFFFFFFFFFFFFFFF)] start) 0x0022001D)
    (fun t => t.cpu.hi == 0xFFFFFFFFFFFFFFFE && t.cpu.lo == 1) = true := by decide +kernel
theorem test_div_truncates : after (cpuOn (regs [(1, 0xFFFFFFFFFFFFFFF9), (2, 2)] start) 0x0022001A)
    (fun t => t.cpu.hi == 0xFFFFFFFFFFFFFFFF && t.cpu.lo == 0xFFFFFFFFFFFFFFFD) = true := by decide +kernel
theorem test_div_quotient_wraps : after (cpuOn (regs [(1, 0xFFFFFFFF80000000), (2, 0xFFFFFFFFFFFFFFFF)] start) 0x0022001A)
    (fun t => t.cpu.hi == 0 && t.cpu.lo == 0xFFFFFFFF80000000) = true := by decide +kernel
theorem test_divu : after (cpuOn (regs [(1, 7), (2, 2)] start) 0x0022001B)
    (fun t => t.cpu.hi == 1 && t.cpu.lo == 3) = true := by decide +kernel
theorem test_ddiv : after (cpuOn (regs [(1, 100), (2, 0xFFFFFFFFFFFFFFF9)] start) 0x0022001E)
    (fun t => t.cpu.hi == 2 && t.cpu.lo == 0xFFFFFFFFFFFFFFF2) = true := by decide +kernel
theorem test_ddiv_quotient_wraps : after (cpuOn (regs [(1, 0x8000000000000000), (2, 0xFFFFFFFFFFFFFFFF)] start) 0x0022001E)
    (fun t => t.cpu.hi == 0 && t.cpu.lo == 0x8000000000000000) = true := by decide +kernel
theorem test_ddivu : after (cpuOn (regs [(1, 0xFFFFFFFFFFFFFFFF), (2, 0x10)] start) 0x0022001F)
    (fun t => t.cpu.hi == 0xF && t.cpu.lo == 0x0FFFFFFFFFFFFFFF) = true := by decide +kernel
theorem test_div_by_zero : after (cpuOn (regs [(1, 5)] start) 0x0022001A)
    (fun t => t.cpu.hi == 5 && t.cpu.lo == 0xFFFFFFFFFFFFFFFF) = true := by decide +kernel
theorem test_div_negative_by_zero : after (cpuOn (regs [(1, 0xFFFFFFFFFFFFFFFB)] start) 0x0022001A)
    (fun t => t.cpu.hi == 0xFFFFFFFFFFFFFFFB && t.cpu.lo == 1) = true := by decide +kernel
theorem test_divu_by_zero : after (cpuOn (regs [(1, 5)] start) 0x0022001B)
    (fun t => t.cpu.hi == 5 && t.cpu.lo == 0xFFFFFFFFFFFFFFFF) = true := by decide +kernel
theorem test_div_by_zero_refuse : refuses (cpuOn (regs [(1, 5)] { start with cfg.div0 := .refuse }) 0x0022001A) .divisionByZero = true := by decide +kernel
theorem test_mfhi : after (cpuOn { start with cpu.hi := 1, cpu.lo := 3 } 0x00001810)
    (fun t => gpr t 3 == 1) = true := by decide +kernel
theorem test_mflo : after (cpuOn { start with cpu.hi := 1, cpu.lo := 3 } 0x00002012)
    (fun t => gpr t 4 == 3) = true := by decide +kernel
theorem test_mthi : after (cpuOn (regs [(1, 0x1234)] start) 0x00200011)
    (fun t => t.cpu.hi == 0x1234 && t.cpu.lo == 0) = true := by decide +kernel

/-! ## Branches and jumps (W2, section 2.3) -/

theorem test_beq_taken : after (cpuOn (regs [(1, 5), (2, 5)] start) 0x10220004)
    (fun t => t.cpu.pending == some (P + 0x14) && t.cpu.ds == true && t.cpu.pc == P + 4) = true := by decide +kernel
theorem test_beq_not_taken : after (cpuOn (regs [(1, 5), (2, 6)] start) 0x10220004)
    (fun t => t.cpu.pending == none && t.cpu.ds == true && t.cpu.pc == P + 4) = true := by decide +kernel
theorem test_beql_nullifies : after (cpuOn (regs [(1, 5), (2, 6)] start) 0x50220004)
    (fun t => t.cpu.pending == none && t.cpu.ds == false && t.cpu.pc == P + 8) = true := by decide +kernel
theorem test_beql_taken : after (cpuOn (regs [(1, 5), (2, 5)] start) 0x50220004)
    (fun t => t.cpu.pending == some (P + 0x14) && t.cpu.ds == true && t.cpu.pc == P + 4) = true := by decide +kernel
theorem test_slot_of_a_taken_branch : after (cpuOn (regs [(4, 0)] { start with cpu.ds := true, cpu.pending := some 0xFFFFFFFF80000800 }) 0x24840001)
    (fun t => gpr t 4 == 1 && t.cpu.pc == 0xFFFFFFFF80000800 && !t.cpu.ds && t.cpu.pending == none) = true := by decide +kernel
theorem test_bltzal_taken : after (cpuOn (regs [(1, 0xFFFFFFFFFFFFFFFF)] start) 0x04300004)
    (fun t => gpr t 31 == P + 8 && t.cpu.pending == some (P + 0x14) && t.cpu.ds == true && t.cpu.pc == P + 4) = true := by decide +kernel
theorem test_bltzal_links_anyway : after (cpuOn start 0x04300004)
    (fun t => gpr t 31 == P + 8 && t.cpu.pending == none && t.cpu.ds == true && t.cpu.pc == P + 4) = true := by decide +kernel
theorem test_bgezal_31 : refuses (cpuOn start 0x07F10004) .linkRegisterIsSource = true := by decide +kernel
theorem test_blez : after (cpuOn (regs [(1, 1)] start) 0x18200004)
    (fun t => t.cpu.pending == none && t.cpu.ds == true && t.cpu.pc == P + 4) = true := by decide +kernel
theorem test_bgtz_negative : after (cpuOn (regs [(1, 0x8000000000000000)] start) 0x1C200004)
    (fun t => t.cpu.pending == none && t.cpu.ds == true && t.cpu.pc == P + 4) = true := by decide +kernel
theorem test_bgez_zero : after (cpuOn start 0x04210004)
    (fun t => t.cpu.pending == some (P + 0x14) && t.cpu.ds == true && t.cpu.pc == P + 4) = true := by decide +kernel
theorem test_bltzl_nullifies : after (cpuOn start 0x04220004)
    (fun t => t.cpu.pending == none && t.cpu.ds == false && t.cpu.pc == P + 8) = true := by decide +kernel
theorem test_bne_backwards : after (cpuOn (regs [(1, 1), (2, 2)] start) 0x1422FFFF)
    (fun t => t.cpu.pending == some P && t.cpu.ds == true && t.cpu.pc == P + 4) = true := by decide +kernel
theorem test_j : after (cpuOn start 0x08000040)
    (fun t => t.cpu.pending == some 0xFFFFFFFF80000100 && t.cpu.ds == true && t.cpu.pc == P + 4) = true := by decide +kernel
theorem test_jal : after (cpuOn start 0x0C000040)
    (fun t => gpr t 31 == P + 8 && t.cpu.pending == some 0xFFFFFFFF80000100 && t.cpu.ds == true && t.cpu.pc == P + 4) = true := by decide +kernel
theorem test_jalr : after (cpuOn (regs [(2, 0xFFFFFFFF80000800)] start) 0x0040F809)
    (fun t => gpr t 31 == P + 8 && t.cpu.pending == some 0xFFFFFFFF80000800 && t.cpu.ds == true && t.cpu.pc == P + 4) = true := by decide +kernel
theorem test_jalr_same : refuses (cpuOn start 0x00401009) .linkRegisterIsSource = true := by decide +kernel
theorem test_jr : after (cpuOn (regs [(31, 0xFFFFFFFF80000402)] start) 0x03E00008)
    (fun t => t.cpu.pending == some 0xFFFFFFFF80000402 && t.cpu.ds == true && t.cpu.pc == P + 4) = true := by decide +kernel
theorem test_fetch_misaligned : after (step { start with cpu.pc := 0xFFFFFFFF80000402 })
    (fun t => t.cp0.epc == 0xFFFFFFFF80000402 && t.cp0.badVAddr == 0xFFFFFFFF80000402 && causeRead t == 0x10) = true := by decide +kernel
theorem test_jump_in_delay_slot : refuses (cpuOn { start with cpu.ds := true, cpu.pending := some P } 0x08000040) .controlTransferInDelaySlot = true := by decide +kernel

/-! ## Loads and stores (section 2.4) -/

/-- The start of section 2.4: x1 = 0xFFFFFFFF80000100, RDRAM[0x100..0x107] = 80 01 02 03 04 05 06 07. -/
def bytes : State := poke 0x100 8 0x8001020304050607 (regs [(1, 0xFFFFFFFF80000100)] start)

/-- The start of the merge rows: RDRAM[0x100..0x103] = 11 22 33 44, x2 = 0xAABBCCDD. -/
def merge : State := poke 0x100 4 0x11223344 (regs [(1, 0xFFFFFFFF80000100), (2, 0xFFFFFFFFAABBCCDD)] start)

theorem test_lb : after (cpuOn bytes 0x80220000)
    (fun t => gpr t 2 == 0xFFFFFFFFFFFFFF80) = true := by decide +kernel
theorem test_lbu : after (cpuOn bytes 0x90220000)
    (fun t => gpr t 2 == 0x80) = true := by decide +kernel
theorem test_lh : after (cpuOn bytes 0x84220000)
    (fun t => gpr t 2 == 0xFFFFFFFFFFFF8001) = true := by decide +kernel
theorem test_lhu : after (cpuOn bytes 0x94220000)
    (fun t => gpr t 2 == 0x8001) = true := by decide +kernel
theorem test_lw : after (cpuOn bytes 0x8C220000)
    (fun t => gpr t 2 == 0xFFFFFFFF80010203) = true := by decide +kernel
theorem test_lwu : after (cpuOn bytes 0x9C220000)
    (fun t => gpr t 2 == 0x80010203) = true := by decide +kernel
theorem test_ld : after (cpuOn bytes 0xDC220000)
    (fun t => gpr t 2 == 0x8001020304050607) = true := by decide +kernel
theorem test_lw_misaligned : after (cpuOn (regs [(2, 0x55)] bytes) 0x8C220002)
    (fun t => gpr t 2 == 0x55 && t.cp0.badVAddr == 0xFFFFFFFF80000102 && entered 0x10 t) = true := by decide +kernel
theorem test_sh_misaligned : after (cpuOn (regs [(2, 0x55)] bytes) 0xA4220001)
    (fun t => Memory.read t.mem 0x100 8 == 0x8001020304050607 && t.cp0.badVAddr == 0xFFFFFFFF80000101 && causeRead t == 0x14) = true := by decide +kernel
theorem test_sw : after (cpuOn (regs [(2, 0x11223344)] bytes) 0xAC220000)
    (fun t => Memory.read t.mem 0x100 8 == 0x1122334404050607) = true := by decide +kernel
theorem test_sb : after (cpuOn (regs [(2, 0x123456AB)] bytes) 0xA0220000)
    (fun t => Memory.read t.mem 0x100 8 == 0xAB01020304050607) = true := by decide +kernel
theorem test_sd : after (cpuOn (regs [(2, 0x0102030405060708)] bytes) 0xFC220000)
    (fun t => Memory.read t.mem 0x100 8 == 0x0102030405060708) = true := by decide +kernel
theorem test_lwl : after (cpuOn merge 0x88220001)
    (fun t => gpr t 2 == 0x223344DD) = true := by decide +kernel
theorem test_lwr : after (cpuOn merge 0x98220001)
    (fun t => gpr t 2 == 0xFFFFFFFFAABB1122) = true := by decide +kernel
theorem test_swl : after (cpuOn merge 0xA8220001)
    (fun t => Memory.read t.mem 0x100 4 == 0x11AABBCC) = true := by decide +kernel
theorem test_swr : after (cpuOn merge 0xB8220001)
    (fun t => Memory.read t.mem 0x100 4 == 0xCCDD3344) = true := by decide +kernel
theorem test_ll : after (cpuOn (poke 0x100 4 5 bytes) 0xC0220000)
    (fun t => gpr t 2 == 5 && t.cpu.llbit && t.cp0.llAddr == 0x10) = true := by decide +kernel
theorem test_sc_linked : after (cpuOn (regs [(2, 6)] { bytes with cpu.llbit := true }) 0xE0220000)
    (fun t => gpr t 2 == 1 && Memory.read t.mem 0x100 4 == 6) = true := by decide +kernel
theorem test_sc_not_linked : after (cpuOn (regs [(2, 6)] bytes) 0xE0220000)
    (fun t => gpr t 2 == 0 && Memory.read t.mem 0x100 4 == 0x80010203) = true := by decide +kernel
theorem test_kuseg : refuses (cpuOn start 0x8C020000) (.tlbMappedSegment .kuseg) = true := by decide +kernel
theorem test_store_to_rom : after (cpuOn (regs [(1, 0xFFFFFFFFB0000000), (2, 7)] start) 0xAC220000)
    (fun t => t.cpu.pc == P + 4 && t.mem == (poke 0x400 4 0xAC220000 start).mem) = true := by decide +kernel
theorem test_open_bus : after (cpuOn (regs [(1, 0xFFFFFFFFA5000000), (2, 7)] start) 0x8C220000)
    (fun t => gpr t 2 == 0) = true := by decide +kernel
theorem test_sub_word_register_write : refuses (cpuOn (regs [(1, 0xFFFFFFFFA4300000)] start) 0xA0220000) .subWordRegisterWrite = true := by decide +kernel
theorem test_not_canonical : after (cpuOn (regs [(1, 0x0000000180000000)] start) 0x8C220000)
    (fun t => t.cp0.badVAddr == 0x0000000180000000 && causeRead t == 0x10) = true := by decide +kernel

/-! ## System, CP0 and exceptions (section 2.5) -/

theorem test_syscall : after (cpuOn start 0x0000000C)
    (fun t => entered 0x20 t) = true := by decide +kernel
theorem test_break : after (cpuOn start 0x0000000D)
    (fun t => entered 0x24 t) = true := by decide +kernel
theorem test_teq : after (cpuOn start 0x00000034)
    (fun t => entered 0x34 t) = true := by decide +kernel
theorem test_tne : after (cpuOn start 0x00000036)
    (fun t => t.cpu.pc == P + 4 && t.cp0.cause == 0) = true := by decide +kernel
theorem test_tgei : after (cpuOn start 0x04280000)
    (fun t => entered 0x34 t) = true := by decide +kernel
theorem test_tltiu : after (cpuOn (regs [(1, 5)] start) 0x042BFFFF)
    (fun t => entered 0x34 t) = true := by decide +kernel
theorem test_reserved : after (cpuOn start 0x70000000)
    (fun t => entered 0x28 t) = true := by decide +kernel
theorem test_cop2_unusable : after (cpuOn start 0x48000000)
    (fun t => entered 0x2000002C t) = true := by decide +kernel
theorem test_cop1_unusable : after (cpuOn { start with cp0.status := 0x14000000 } 0x44820000)
    (fun t => causeRead t == 0x1000002C) = true := by decide +kernel
theorem test_nested_exception : after (cpuOn { start with cp0.status := 0x34000002, cp0.epc := 0xFFFFFFFF80000200 } 0x0000000C)
    (fun t => t.cp0.epc == 0xFFFFFFFF80000200 && causeRead t == 0x20 && t.cpu.pc == 0xFFFFFFFF80000180) = true := by decide +kernel
theorem test_bootstrap_vector : after (cpuOn { start with cp0.status := 0x34400000 } 0x0000000C)
    (fun t => t.cpu.pc == 0xFFFFFFFFBFC00380) = true := by decide +kernel
theorem test_exception_in_slot : after (cpuOn (regs [(1, 0x7FFFFFFF), (2, 1)] { start with cpu.ds := true, cpu.pending := some 0xFFFFFFFF80000800 }) 0x00221820)
    (fun t => t.cp0.epc == P - 4 && causeRead t == 0x80000030 && t.cpu.pending == none) = true := by decide +kernel
theorem test_mfc0_status : after (cpuOn start 0x40026000)
    (fun t => gpr t 2 == 0x34000000) = true := by decide +kernel
theorem test_dmfc0_epc : after (cpuOn { start with cp0.epc := 0xFFFFFFFF80000200 } 0x40227000)
    (fun t => gpr t 2 == 0xFFFFFFFF80000200) = true := by decide +kernel
theorem test_mtc0_status_masks : after (cpuOn (regs [(2, 0x34A80401)] start) 0x40826000)
    (fun t => t.cp0.status == 0x34000401) = true := by decide +kernel
theorem test_mtc0_status_user_mode : refuses (cpuOn (regs [(2, 0x34000010)] start) 0x40826000) .userOrSupervisorMode = true := by decide +kernel
theorem test_mtc0_status_ksu_exl : after (cpuOn (regs [(2, 0x34000012)] start) 0x40826000)
    (fun t => t.cp0.status == 0x34000012) = true := by decide +kernel
theorem test_eret : after (cpuOn { start with cp0.status := 0x34000003, cp0.epc := 0xFFFFFFFF80000204, cpu.llbit := true } 0x42000018)
    (fun t => t.cpu.pc == 0xFFFFFFFF80000204 && t.cp0.status == 0x34000001 && !t.cpu.llbit) = true := by decide +kernel
theorem test_eret_error : after (cpuOn { start with cp0.status := 0x34000006, cp0.errorEpc := 0xFFFFFFFF80000300 } 0x42000018)
    (fun t => t.cpu.pc == 0xFFFFFFFF80000300 && t.cp0.status == 0x34000002) = true := by decide +kernel
theorem test_tlbwi : refuses (cpuOn start 0x42000002) .tlbNotModelled = true := by decide +kernel
theorem test_sync : after (cpuOn start 0x0000000F)
    (fun t => t.cpu.pc == P + 4) = true := by decide +kernel
theorem test_cache : after (cpuOn start 0xBC200000)
    (fun t => t.cpu.pc == P + 4 && t.cp0.cause == 0) = true := by decide +kernel
theorem test_mfc0_prid : after (cpuOn start 0x40027800)
    (fun t => gpr t 2 == 0xB22) = true := by decide +kernel

/-! ## Floating point (section 2.6) -/

/-- `s` with f0 and f1 set. -/
def floats (a b : Dword) (s : State) : State := setFpr (setFpr s 0 a) 1 b

theorem test_mtc1 : after (cpuOn (regs [(2, 0x3F800000)] (floats 0xABCD000000000000 0 start)) 0x44820000)
    (fun t => fpr t 0 == 0xABCD00003F800000) = true := by decide +kernel
theorem test_add_s : after (cpuOn (floats 0x3F800000 0x40000000 start) 0x46010080)
    (fun t => fpr t 2 == 0x40400000 && t.fpu.fcr31 == 0) = true := by decide +kernel
theorem test_div_s_by_zero : after (cpuOn (floats 0x3F800000 0 start) 0x46010083)
    (fun t => fpr t 2 == 0x7F800000 && t.fpu.fcr31 == 0x8020) = true := by decide +kernel
theorem test_div_s_by_zero_enabled : after (cpuOn { floats 0x3F800000 0 start with fpu.fcr31 := 0x400 } 0x46010083)
    (fun t => fpr t 2 == 0 && t.fpu.fcr31 == 0x8400 && entered 0x3C t) = true := by decide +kernel
theorem test_sqrt_s : after (cpuOn (floats 0x40800000 0 start) 0x46000084)
    (fun t => fpr t 2 == 0x40000000) = true := by decide +kernel
theorem test_c_eq_s : after (cpuOn (floats 0x3F800000 0x3F800000 start) 0x46010032)
    (fun t => t.fpu.fcr31 == 0x800000) = true := by decide +kernel
theorem test_bc1t : after (cpuOn { start with fpu.fcr31 := 0x800000 } 0x45010004)
    (fun t => t.cpu.pending == some (P + 0x14) && t.cpu.ds == true && t.cpu.pc == P + 4) = true := by decide +kernel
theorem test_c_lt_s : after (cpuOn (floats 0x40000000 0x3F800000 start) 0x4601003C)
    (fun t => t.fpu.fcr31 == 0) = true := by decide +kernel
theorem test_bc1f : after (cpuOn start 0x45000004)
    (fun t => t.cpu.pending == some (P + 0x14) && t.cpu.ds == true && t.cpu.pc == P + 4) = true := by decide +kernel
theorem test_trunc_w_s : after (cpuOn (floats 0xC0200000 0 start) 0x4600008D)
    (fun t => fpr t 2 == 0xFFFFFFFE) = true := by decide +kernel
theorem test_cvt_w_s : after (cpuOn (floats 0x40600000 0 start) 0x460000A4)
    (fun t => fpr t 2 == 4) = true := by decide +kernel
theorem test_cvt_s_w : after (cpuOn (floats 5 0 start) 0x468000A0)
    (fun t => fpr t 2 == 0x40A00000) = true := by decide +kernel
theorem test_ctc1 : after (cpuOn (regs [(2, 0x01000003)] start) 0x44C2F800)
    (fun t => t.fpu.fcr31 == 0x01000003) = true := by decide +kernel
theorem test_cfc1 : after (cpuOn start 0x44430000)
    (fun t => gpr t 3 == 0xA00) = true := by decide +kernel
theorem test_mfc1 : after (cpuOn (setFpr start 2 0x80000000) 0x44031000)
    (fun t => gpr t 3 == 0xFFFFFFFF80000000) = true := by decide +kernel
theorem test_cvt_s_s_reserved : after (cpuOn start 0x46000020)
    (fun t => entered 0x28 t) = true := by decide +kernel

/-! ## The VectorUnit (W3, sections 2.7 and 2.8) -/

theorem test_vu_addi_wraps : after (vuOn (scalars [(1, 0x7FFFFFFF)] vuStart) 0x20210001)
    (fun t => sr t 1 == 0x80000000) = true := by decide +kernel
theorem test_vu_sll : after (vuOn (scalars [(2, 1)] vuStart) 0x00021FC0)
    (fun t => sr t 3 == 0x80000000) = true := by decide +kernel
theorem test_vu_lh_wraps : after (vuOn (poke 0x04000FFF 1 0x80 (poke 0x04000000 1 1 vuStart)) 0x84020FFF)
    (fun t => sr t 2 == 0xFFFF8001) = true := by decide +kernel
theorem test_vu_j : after (vuOn vuStart 0x08000040)
    (fun t => t.vu.pending == some 0x100 && t.vu.ds && t.vu.pc == 4) = true := by decide +kernel
theorem test_vu_jr : after (vuOn (scalars [(31, 0x00010123)] vuStart) 0x03E00008)
    (fun t => t.vu.pending == some 0x120) = true := by decide +kernel
theorem test_vu_beq : after (vuOn ({ vuStart with vu.pc := 0x10 }) 0x1000FFFF)
    (fun t => t.vu.pending == some 0x10) = true := by decide +kernel
theorem test_vu_mfc0_semaphore : after (vuOn vuStart 0x40013800)
    (fun t => sr t 1 == 0 && t.sp.semaphore) = true := by decide +kernel
theorem test_vu_mfc0_semaphore_held : after (vuOn ({ vuStart with sp.semaphore := true }) 0x40013800)
    (fun t => sr t 1 == 1 && t.sp.semaphore) = true := by decide +kernel
theorem test_vu_mtc0_halt : after (vuOn (scalars [(1, 2)] vuStart) 0x40812000)
    (fun t => t.sp.halt) = true := by decide +kernel
theorem test_vu_break : after (vuOn ({ vuStart with sp.intrOnBreak := true }) 0x0000000D)
    (fun t => t.vu.pc == 4 && t.sp.halt && t.sp.broke && t.mi.intr == 1) = true := by decide +kernel
theorem test_vu_break_quiet : after (vuOn vuStart 0x0000000D)
    (fun t => t.vu.pc == 4 && t.sp.halt && t.sp.broke && t.mi.intr == 0) = true := by decide +kernel
theorem test_vu_single_step : after (vuOn ({ vuStart with sp.sstep := true }) 0x00000000)
    (fun t => t.vu.pc == 4 && t.sp.halt) = true := by decide +kernel
theorem test_vu_mfc2 : after (vuOn (setVr vuStart 2 #v[0x8001, 0, 0, 0, 0, 0, 0, 0]) 0x48011000)
    (fun t => sr t 1 == 0xFFFF8001) = true := by decide +kernel
theorem test_vu_mtc2 : after (vuOn (scalars [(1, 0x1234)] vuStart) 0x48811100)
    (fun t => vr t 2 == #v[0, 0x1234, 0, 0, 0, 0, 0, 0]) = true := by decide +kernel
theorem test_vu_cfc2 : after (vuOn ({ vuStart with vu.vcc := 0x8B }) 0x48410800)
    (fun t => sr t 1 == 0x8B) = true := by decide +kernel
theorem test_vu_ctc2 : after (vuOn ({ vuStart with vu.vcc := 0x8B }) 0x48C00800)
    (fun t => t.vu.vcc == 0) = true := by decide +kernel
theorem test_vu_lbv : after (vuOn (poke 0x04000020 1 0xAB (scalars [(1, 0x20)] vuStart)) 0xC8210180)
    (fun t => vr t 1 == #v[0, 0x00AB, 0, 0, 0, 0, 0, 0]) = true := by decide +kernel
theorem test_vu_lsv_drops : after (vuOn (poke 0x04000020 2 0x1234 (scalars [(1, 0x20)] vuStart)) 0xC8210F80)
    (fun t => vr t 1 == #v[0, 0, 0, 0, 0, 0, 0, 0x0012]) = true := by decide +kernel
theorem test_vu_ssv_wraps : after (vuOn (setVr (scalars [(1, 0x20)] vuStart) 1 #v[0xEF00, 0, 0, 0, 0, 0, 0, 0x00CD]) 0xE8210F80)
    (fun t => Memory.read t.mem 0x04000020 2 == 0xCDEF) = true := by decide +kernel
theorem test_vu_lqv_stops : after (vuOn (poke 0x04000108 8 0x0102030405060708 (scalars [(1, 0x108)] vuStart)) 0xC8212000)
    (fun t => vr t 1 == #v[0x0102, 0x0304, 0x0506, 0x0708, 0, 0, 0, 0]) = true := by decide +kernel
theorem test_vu_lrv : refuses (vuOn vuStart 0xC8212800) (.vectorTransfer "LRV") = true := by decide +kernel
theorem test_vu_unlisted : refuses (vuOn vuStart 0x4C000000) .unmodelledVectorUnitInstruction = true := by decide +kernel
theorem test_vadd_saturates : after (vuOn (flat 32000 32000) 0x4A0208D0)
    (fun t => vr t 3 == Vector.replicate 8 0x7FFF && t.vu.vcc == 0xFF && t.vu.vco == 0 && t.vu.acc == Vector.replicate 8 64000) = true := by decide +kernel
theorem test_vadd : after (vuOn rowA 0x4A0208D0)
    (fun t => vr t 3 == Vector.replicate 8 9 && t.vu.vcc == 0 && t.vu.acc == Vector.replicate 8 9) = true := by decide +kernel
theorem test_vadd_broadcast : after (vuOn rowA 0x4B0208D0)
    (fun t => vr t 3 == #v[9, 10, 11, 12, 13, 14, 15, 16]) = true := by decide +kernel
theorem test_vadd_pairs : after (vuOn rowA 0x4A4208D0)
    (fun t => vr t 3 == #v[9, 10, 9, 10, 9, 10, 9, 10]) = true := by decide +kernel
theorem test_vsub_saturates : after (vuOn (flat 0x8000 1) 0x4A0208D1)
    (fun t => vr t 3 == Vector.replicate 8 0x8000 && t.vu.vcc == 0xFF && t.vu.acc == Vector.replicate 8 0xFFFFFFFF7FFF) = true := by decide +kernel
theorem test_vsub : after (vuOn (flat 5 7) 0x4A0208D1)
    (fun t => vr t 3 == Vector.replicate 8 0xFFFE && t.vu.vcc == 0 && t.vu.acc == Vector.replicate 8 0xFFFFFFFFFFFE) = true := by decide +kernel
theorem test_vabs : after (vuOn (flat 0xFFFF 0x8000) 0x4A0208D3)
    (fun t => vr t 3 == Vector.replicate 8 0x7FFF && t.vu.acc == Vector.replicate 8 0x8000) = true := by decide +kernel
theorem test_vlt : after (vuOn rowA 0x4A0208E0)
    (fun t => vr t 3 == #v[1, 2, 3, 4, 4, 3, 2, 1] && t.vu.vcc == 0x0F && t.vu.vco == 0) = true := by decide +kernel
theorem test_vge : after (vuOn rowA 0x4A0208E3)
    (fun t => vr t 3 == #v[8, 7, 6, 5, 5, 6, 7, 8] && t.vu.vcc == 0xF0) = true := by decide +kernel
theorem test_veq : after (vuOn rowA 0x4A0208E1)
    (fun t => vr t 3 == vr t 2 && t.vu.vcc == 0) = true := by decide +kernel
theorem test_vmrg : after (vuOn ({ rowA with vu.vcc := 0x0F }) 0x4A0208E7)
    (fun t => vr t 3 == #v[1, 2, 3, 4, 4, 3, 2, 1] && t.vu.vcc == 0x0F) = true := by decide +kernel
theorem test_vsar_high : after (vuOn ({ vuStart with vu.acc := Vector.replicate 8 0xFA00 }) 0x4B0108DD)
    (fun t => vr t 3 == Vector.replicate 8 0) = true := by decide +kernel
theorem test_vsar_low : after (vuOn ({ vuStart with vu.acc := Vector.replicate 8 0xFA00 }) 0x4B41091D)
    (fun t => vr t 4 == Vector.replicate 8 0xFA00) = true := by decide +kernel
theorem test_vxor : after (vuOn rowA 0x4A01086C)
    (fun t => vr t 1 == Vector.replicate 8 0 && t.vu.acc == Vector.replicate 8 0) = true := by decide +kernel
theorem test_vnop : after (vuOn rowA 0x4A000037)
    (fun t => t.vu.vr == rowA.vu.vr && t.vu.pc == 4) = true := by decide +kernel
theorem test_vmulf : refuses (vuOn vuStart 0x4A0208C0) (.vectorOp "VMULF") = true := by decide +kernel
theorem test_vector_reserved : refuses (vuOn vuStart 0x4A0208D2) .reservedVectorOp = true := by decide +kernel

/-! ## The DisplayProcessor (W4, section 2.9) -/

/-- Reset with the fill colour of section 2.9. -/
def red : State := { State.reset with rdp.fillColor := 0xFF0000FF }

theorem test_set_fill_color : after (rdpOn red [0x37000000CCCCCCCC])
    (fun t => t.rdp.fillColor == 0xCCCCCCCC && t.rdp.fb == []) = true := by decide +kernel
theorem test_fill_rectangle : after (rdpOn red [0x3605005000028028])
    (fun t => t.rdp.fb.length == 100 && pixel t 10 10 == 0xFF0000FF && pixel t 19 19 == 0xFF0000FF && pixel t 20 19 == 0 &&
      pixel t 19 20 == 0 && pixel t 9 10 == 0 && t.rdp.depth == []) = true := by decide +kernel
theorem test_fill_rectangle_clipped : after (rdpOn red [0x365283E8004D8398])
    (fun t => t.rdp.fb.length == 100 && pixel t 310 230 == 0xFF0000FF && pixel t 319 239 == 0xFF0000FF) = true := by decide +kernel
theorem test_fill_rectangle_fractions : after (rdpOn red [0x3605305000029028])
    (fun t => t.rdp.fb.length == 100 && pixel t 10 10 == 0xFF0000FF && pixel t 19 19 == 0xFF0000FF) = true := by decide +kernel
theorem test_fill_rectangle_empty : after (rdpOn red [0x3602805000028028])
    (fun t => t.rdp.fb == []) = true := by decide +kernel
theorem test_sync_full : after (rdpOn red [0x2900000000000000])
    (fun t => t.mi.intr == 32 && t.rdp == red.rdp) = true := by decide +kernel
theorem test_rdp_nop : after (rdpOn red [0x0000000000000000])
    (fun t => t.rdp == red.rdp) = true := by decide +kernel
theorem test_set_color_image : after (rdpOn ({ red with rdp.fb := [(0, 1)] }) [0x3F18027F00100000])
    (fun t => t.rdp.fbWidth == 640 && t.rdp.fb == [] && Store.get 0 t.rdp.dpState 0x3F == 0x3F18027F00100000) = true := by decide +kernel
theorem test_set_color_image_same : after (rdpOn ({ red with rdp.fb := [(0, 1)] }) [0x3F18013F00100000])
    (fun t => t.rdp.fbWidth == 320 && t.rdp.fb == [(0, 1)]) = true := by decide +kernel
theorem test_triangle : refuses (rdpOn red [0x0800000000000000, 0, 0, 0]) .triangleDecoding = true := by decide +kernel
theorem test_texture_rectangle : refuses (rdpOn red [0x2400000000000000, 0]) .textureRectangle = true := by decide +kernel
theorem test_unknown_command : refuses (rdpOn red [0x0100000000000000]) (.unknownCommand 1) = true := by decide +kernel
theorem test_flush_truncated : after (step { red with clock.phase := .flush, rdp.stream := [0x0800000000000000, 0, 0] })
    (fun t => t.clock.phase == .draw []) = true := by decide +kernel
theorem test_flush_clear_directive : after (step { red with clock.phase := .flush, rdp.stream := [0, 0x3E00000000000000], rdp.depth := [(5, 1)] })
    (fun t => t.rdp.depth == [] && t.clock.phase == .draw [[0], [0x3E00000000000000]]) = true := by decide +kernel
theorem test_flush_end : after (step { red with clock.phase := .draw [], rdp.stream := [0x0800000000000000, 0, 0] })
    (fun t => t.rdp.stream == []) = true := by decide +kernel
theorem test_submission :
    let s := { poke 0x3000 8 0x37000000CCCCCCCC (poke 0x3008 8 0x3605005000028028 (poke 0x3010 8 0x2900000000000000 red)) with
      rdp.dpcStart := 0x3000, rdp.dpcCurrent := 0x3000 }
    let t := regWrite s .dp 4 0x3018
    t.rdp.stream = [0x37000000CCCCCCCC, 0x3605005000028028, 0x2900000000000000] ∧ t.rdp.dpcCurrent = 0x3018 ∧
      (regWrite t .dp 4 0x3018).rdp.stream = t.rdp.stream := by decide +kernel

/-! ## The interrupt controller, the timer, the scheduler, reset (sections 2.10 to 2.12) -/

theorem test_mi_mask_set : (regWrite State.reset .mi 12 0xAAA).mi.mask = 0x3F := by decide +kernel
theorem test_mi_mask_clear : (regWrite { State.reset with mi.mask := 0x3F } .mi 12 0x555).mi.mask = 0 := by decide +kernel
theorem test_mi_mask_both : (regWrite State.reset .mi 12 3).mi.mask = 0 := by decide +kernel
theorem test_mi_version : regValue State.reset .mi 4 = 0x02020102 := by decide +kernel
theorem test_mi_intr_clear : (regWrite { State.reset with mi.intr := 8 } .mi 8 8).mi.intr = 0 := by decide +kernel
theorem test_vi_acknowledge : (regWrite { State.reset with mi.intr := 8 } .vi 0x10 5).mi.intr = 0 := by decide +kernel
theorem test_sp_status_interrupt : (regWrite State.reset .sp 0x10 0x10).mi.intr = 1 ∧
    (regWrite { State.reset with mi.intr := 1 } .sp 0x10 8).mi.intr = 0 := by decide +kernel
theorem test_pi_acknowledge : (regWrite { State.reset with mi.intr := 16 } .pi 0x10 2).mi.intr = 0 := by decide +kernel
theorem test_dp_acknowledge : (regWrite { State.reset with mi.intr := 32 } .mi 0 0x800).mi.intr = 0 := by decide +kernel
theorem test_eret_mi_clear : (eretClearMi { State.reset with mi.intr := 0x28, mi.mask := 8 }).mi.intr = 0x20 ∧
    (eretClearMi { State.reset with mi.intr := 0x28, mi.mask := 8, cfg.eretMiClear := .none }).mi.intr = 0x28 ∧
    (eretClearMi { State.reset with mi.intr := 0x28, mi.mask := 8, cfg.eretMiClear := .all }).mi.intr = 0 := by decide +kernel
theorem test_mfc0_cause_ip2 : after (cpuOn { start with mi.intr := 8, mi.mask := 8 } 0x40026800)
    (fun t => gpr t 2 == 0x400) = true := by decide +kernel
theorem test_mfc0_cause_masked : after (cpuOn { start with mi.intr := 8 } 0x40026800)
    (fun t => gpr t 2 == 0) = true := by decide +kernel
theorem test_I1_interrupt : after (cpuOn { start with mi.intr := 8, mi.mask := 8, cp0.status := 0x34000401 } 0x24000001)
    (fun t => t.cp0.epc == P + 4 && causeRead t == 0x400 && t.cp0.status == 0x34000403 && t.cpu.pc == 0xFFFFFFFF80000180) = true := by decide +kernel
theorem test_I2_exl : after (cpuOn { start with mi.intr := 8, mi.mask := 8, cp0.status := 0x34000403 } 0x24000001)
    (fun t => t.cpu.pc == P + 4 && t.cp0.status == 0x34000403) = true := by decide +kernel
theorem test_I3_ie : after (cpuOn { start with mi.intr := 8, mi.mask := 8, cp0.status := 0x34000400 } 0x24000001)
    (fun t => t.cpu.pc == P + 4) = true := by decide +kernel
theorem test_I4_no_poll_after_a_branch : after (cpuOn { start with mi.intr := 8, mi.mask := 8, cp0.status := 0x34000401 } 0x10000001)
    (fun t => t.cpu.pc == P + 4 && t.cpu.ds && t.cp0.status == 0x34000401) = true := by decide +kernel
theorem test_I6_mtc0_status : after (cpuOn (regs [(2, 0x34000401)] { start with mi.intr := 8, mi.mask := 8, cp0.status := 0x34000400 }) 0x40826000)
    (fun t => t.cp0.epc == P + 4 && t.cp0.status == 0x34000403) = true := by decide +kernel
theorem test_I7_syscall_first : after (cpuOn { start with mi.intr := 8, mi.mask := 8, cp0.status := 0x34000401 } 0x0000000C)
    (fun t => t.cp0.epc == P && causeRead t == 0x420) = true := by decide +kernel
theorem test_timer : after (cpuOn { start with cp0.compare := 3, cp0.count := 2, cpu.countPhase := 1 } 0x24000001)
    (fun t => t.cp0.count == 3 && causeRead t == 0x8000) = true := by decide +kernel
theorem test_timer_interrupt : after (cpuOn { start with cp0.compare := 3, cp0.count := 2, cpu.countPhase := 1, cp0.status := 0x34008001 } 0x24000001)
    (fun t => t.cp0.epc == P + 4 && causeRead t == 0x8000 && t.cp0.status == 0x34008003) = true := by decide +kernel
theorem test_mtc0_compare : after (cpuOn (regs [(2, 7)] { start with cp0.cause := 0x8000, cp0.count := 7 }) 0x40825800)
    (fun t => t.cp0.compare == 7 && t.cp0.cause == 0) = true := by decide +kernel
theorem test_frame_boundary : after (step { State.reset with clock.phase := .frame, clock.framePhase := 99, rdp.fbWidth := 2, rdp.fbHeight := 1, rdp.fb := [(1, 0x01020304)] })
    (fun t => t.clock.frames == 1 && t.clock.framePhase == 0 && t.mi.intr == 8 && t.out.frames == [[0, 0, 0, 0, 1, 2, 3, 4]] &&
      t.clock.tick == 1) = true := by decide +kernel
theorem test_stopped : after (step (stopClock State.reset))
    (fun t => t == stopClock State.reset) = true := by decide +kernel
theorem test_pi_request : let t := regWrite { State.reset with pi.cartAddr := 0x10001000, pi.dramAddr := 0x2000, clock.tick := 5 } .pi 0x0C 7
    t.busy.pi = true ∧ t.dma = [{
      owner := .pi, src := .cart 0x10001000, dst := .rdram 0x2000, len := 8, rows := 1, skip := 0, deadline := 6 }] := by decide +kernel
theorem test_pi_completion : after (step { State.reset with
      clock.phase := .dma, clock.tick := 6, busy.pi := true, cfg.romSize := 0x2000, cfg.rom := [(0x1000, 0xAB), (0x1001, 0xCD)],
      dma := [{ owner := .pi, src := .cart 0x10001000, dst := .rdram 0x2000, len := 2, rows := 1, skip := 0, deadline := 6 }] })
    (fun t => Memory.read t.mem 0x2000 2 == 0xABCD && !t.busy.pi && t.mi.intr == 16 && t.dma == []) = true := by decide +kernel
theorem test_short_rom : boot { State.reset.cfg with romSize := 0x20 } = .fault .invalidRomImage := rfl
theorem test_reset_config : regValue State.reset .sp 0x10 = 1 ∧ State.reset.cp0.config = 0x7006E463 := by decide +kernel

/-! ## Words of each decode space, from the formats of R241, R694, R720 and R1004 -/

/-- The word decodes to what it stands for: `subu $3, $1, $2` is 000000 00001 00010 00011 00000 100011. -/
theorem test_decode_special : decodeCpu false false false 0b00000000001000100001100000100011 = .ok (.subu 3 1 2) := rfl
/-- `tgei $1, 7` is 000001 00001 01000 0000000000000111. -/
theorem test_decode_regimm : decodeCpu false false false 0b00000100001010000000000000000111 = .ok (.tgei 1 7) := rfl
/-- `sdr $5, -1($6)` is 101101 00110 00101 1111111111111111. -/
theorem test_decode_store : decodeCpu false false false 0b10110100110001011111111111111111 = .ok (.sdr 5 0xFFFF 6) := rfl
/-- `dmfc0 $2, $14` is 010000 00001 00010 01110 00000000000. -/
theorem test_decode_cop0 : decodeCpu false false false 0b01000000001000100111000000000000 = .ok (.dmfc0 2 14) := rfl
/-- `bc1fl 4` is 010001 01000 00010 0000000000000100. -/
theorem test_decode_bc1 : decodeCpu true false false 0b01000101000000100000000000000100 = .ok (.bc1fl 4) := rfl
/-- `mul.d $f4, $f2, $f6` is 010001 10001 00110 00010 00100 000010. -/
theorem test_decode_cop1 : decodeCpu true false false 0b01000110001001100001000100000010 = .ok (.mulD 4 2 6) := rfl
/-- The VectorUnit's `lwu $2, 4($3)` is 100111 00011 00010 0000000000000100. -/
theorem test_decode_vu : decodeRsp 0b10011100011000100000000000000100 = .ok (.rspLwu 2 4 3) := rfl
/-- `mtc2 $1, $v2[2]` is 010010 00100 00001 00010 0010 0000000. -/
theorem test_decode_vu_move : decodeRsp 0b01001000100000010001000100000000 = .ok (.rspMtc2 1 2 2) := rfl
/-- `sdv $v3[8], -8($4)` is 111010 00100 00011 00011 1000 1111111. -/
theorem test_decode_vu_store : decodeRsp 0b11101000100000110001110001111111 = .ok (.rspSdv 3 8 0x7F 4) := rfl
/-- `vge $v3, $v1, $v2[9]` is 010010 1 1001 00010 00001 00011 100011. -/
theorem test_decode_vop : decodeRsp 0b01001011001000100000100011100011 = .ok (.rspVge 3 1 2 9) := rfl
/-- SET_SCISSOR: its top byte and the other 56 bits. -/
theorem test_decode_rdp : decodeRdp [0x2D00100200300400] = .ok (.rdpSetScissor 0x00100200300400) := rfl
/-- A table word that is placed is the next instruction run, in each decode space. -/
theorem test_fetch_word :
    after (step (State.reset.withFetchWord 32 0x24020007)) (fun t => gpr t 2 == 7) = true ∧
    after (step (State.reset.withFetchWord 32 0x4A000037)) (fun t => t.vu.pc == 4) = true ∧
    after (step (State.reset.withFetchWord 64 0x2900000000000000)) (fun t => t.mi.intr == 32) = true := by decide +kernel
/-! ## One word for every constructor: the table's fixed bits, every operand with a value of its own, the ignored
bits at random -/

theorem test_words_cpu_0 :
    decodeCpu true false false 0x03E55F20 = .ok (.add 11 31 5) ∧
    decodeCpu true false false 0x0043A821 = .ok (.addu 21 2 3) ∧
    decodeCpu true false false 0x008C9062 = .ok (.sub 18 4 12) ∧
    decodeCpu true false false 0x03D115E3 = .ok (.subu 2 30 17) ∧
    decodeCpu true false false 0x20626F04 = .ok (.addi 2 3 0x6f04) ∧
    decodeCpu true false false 0x25031739 = .ok (.addiu 3 8 0x1739) ∧
    decodeCpu true false false 0x005B72EC = .ok (.dadd 14 2 27) ∧
    decodeCpu true false false 0x03E8232D = .ok (.daddu 4 31 8) ∧
    decodeCpu true false false 0x027FA8EE = .ok (.dsub 21 19 31) ∧
    decodeCpu true false false 0x026D9AAF = .ok (.dsubu 19 19 13) ∧
    decodeCpu true false false 0x60488E82 = .ok (.daddi 8 2 0x8e82) ∧
    decodeCpu true false false 0x65456B4D = .ok (.daddiu 5 10 0x6b4d) :=
  ⟨rfl, rfl, rfl, rfl, rfl, rfl, rfl, rfl, rfl, rfl, rfl, rfl⟩
theorem test_words_cpu_1 :
    decodeCpu true false false 0x00939224 = .ok (.and 18 4 19) ∧
    decodeCpu true false false 0x037695A5 = .ok (.or 18 27 22) ∧
    decodeCpu true false false 0x02732566 = .ok (.xor 4 19 19) ∧
    decodeCpu true false false 0x01843B27 = .ok (.nor 7 12 4) ∧
    decodeCpu true false false 0x3077907B = .ok (.andi 23 3 0x907b) ∧
    decodeCpu true false false 0x34F47F16 = .ok (.ori 20 7 0x7f16) ∧
    decodeCpu true false false 0x39D2C6F9 = .ok (.xori 18 14 0xc6f9) ∧
    decodeCpu true false false 0x3C6F95E8 = .ok (.lui 15 0x95e8) ∧
    decodeCpu true false false 0x018A7A6A = .ok (.slt 15 12 10) ∧
    decodeCpu true false false 0x00D7D22B = .ok (.sltu 26 6 23) ∧
    decodeCpu true false false 0x2868930E = .ok (.slti 8 3 0x930e) ∧
    decodeCpu true false false 0x2E11E00A = .ok (.sltiu 17 16 0xe00a) :=
  ⟨rfl, rfl, rfl, rfl, rfl, rfl, rfl, rfl, rfl, rfl, rfl, rfl⟩
theorem test_words_cpu_2 :
    decodeCpu true false false 0x03EFC280 = .ok (.sll 24 15 10) ∧
    decodeCpu true false false 0x03041C42 = .ok (.srl 3 4 17) ∧
    decodeCpu true false false 0x02F932C3 = .ok (.sra 6 25 11) ∧
    decodeCpu true false false 0x01D0F484 = .ok (.sllv 30 16 14) ∧
    decodeCpu true false false 0x0076FA86 = .ok (.srlv 31 22 3) ∧
    decodeCpu true false false 0x03539047 = .ok (.srav 18 19 26) ∧
    decodeCpu true false false 0x01EBDAF8 = .ok (.dsll 27 11 11) ∧
    decodeCpu true false false 0x0074643A = .ok (.dsrl 12 20 16) ∧
    decodeCpu true false false 0x030FD0FB = .ok (.dsra 26 15 3) ∧
    decodeCpu true false false 0x015F1A7C = .ok (.dsll32 3 31 9) ∧
    decodeCpu true false false 0x0396B8FE = .ok (.dsrl32 23 22 3) ∧
    decodeCpu true false false 0x01B7C2BF = .ok (.dsra32 24 23 10) :=
  ⟨rfl, rfl, rfl, rfl, rfl, rfl, rfl, rfl, rfl, rfl, rfl, rfl⟩
theorem test_words_cpu_3 :
    decodeCpu true false false 0x03769B54 = .ok (.dsllv 19 22 27) ∧
    decodeCpu true false false 0x01B75296 = .ok (.dsrlv 10 23 13) ∧
    decodeCpu true false false 0x002CB017 = .ok (.dsrav 22 12 1) ∧
    decodeCpu true false false 0x01EC37D8 = .ok (.mult 15 12) ∧
    decodeCpu true false false 0x0284AA19 = .ok (.multu 20 4) ∧
    decodeCpu true false false 0x0047EADC = .ok (.dmult 2 7) ∧
    decodeCpu true false false 0x014561DD = .ok (.dmultu 10 5) ∧
    decodeCpu true false false 0x010D479A = .ok (.div 8 13) ∧
    decodeCpu true false false 0x03DC101B = .ok (.divu 30 28) ∧
    decodeCpu true false false 0x0066F21E = .ok (.ddiv 3 6) ∧
    decodeCpu true false false 0x01B2771F = .ok (.ddivu 13 18) ∧
    decodeCpu true false false 0x030DEF50 = .ok (.mfhi 29) :=
  ⟨rfl, rfl, rfl, rfl, rfl, rfl, rfl, rfl, rfl, rfl, rfl, rfl⟩
theorem test_words_cpu_4 :
    decodeCpu true false false 0x0236DA92 = .ok (.mflo 27) ∧
    decodeCpu true false false 0x039B3051 = .ok (.mthi 28) ∧
    decodeCpu true false false 0x01366A13 = .ok (.mtlo 9) ∧
    decodeCpu true false false 0x11CCAEC7 = .ok (.beq 14 12 0xaec7) ∧
    decodeCpu true false false 0x15BF3B13 = .ok (.bne 13 31 0x3b13) ∧
    decodeCpu true false false 0x187B2D1D = .ok (.blez 3 0x2d1d) ∧
    decodeCpu true false false 0x1D1BA895 = .ok (.bgtz 8 0xa895) ∧
    decodeCpu true false false 0x04207C27 = .ok (.bltz 1 0x7c27) ∧
    decodeCpu true false false 0x06612EAF = .ok (.bgez 19 0x2eaf) ∧
    decodeCpu true false false 0x0550010D = .ok (.bltzal 10 0x10d) ∧
    decodeCpu true false false 0x05D188DB = .ok (.bgezal 14 0x88db) ∧
    decodeCpu true false false 0x52935191 = .ok (.beql 20 19 0x5191) :=
  ⟨rfl, rfl, rfl, rfl, rfl, rfl, rfl, rfl, rfl, rfl, rfl, rfl⟩
theorem test_words_cpu_5 :
    decodeCpu true false false 0x54B7DBF5 = .ok (.bnel 5 23 0xdbf5) ∧
    decodeCpu true false false 0x5BEB9E1B = .ok (.blezl 31 0x9e1b) ∧
    decodeCpu true false false 0x5ED2BD63 = .ok (.bgtzl 22 0xbd63) ∧
    decodeCpu true false false 0x05E2E648 = .ok (.bltzl 15 0xe648) ∧
    decodeCpu true false false 0x0723F3AF = .ok (.bgezl 25 0xf3af) ∧
    decodeCpu true false false 0x06D2CC42 = .ok (.bltzall 22 0xcc42) ∧
    decodeCpu true false false 0x05B365E8 = .ok (.bgezall 13 0x65e8) ∧
    decodeCpu true false false 0x09939433 = .ok (.j 0x1939433) ∧
    decodeCpu true false false 0x0DED1452 = .ok (.jal 0x1ed1452) ∧
    decodeCpu true false false 0x01AF7908 = .ok (.jr 13) ∧
    decodeCpu true false false 0x00733D09 = .ok (.jalr 7 3) ∧
    decodeCpu true false false 0x80C770CD = .ok (.lb 7 0x70cd 6) :=
  ⟨rfl, rfl, rfl, rfl, rfl, rfl, rfl, rfl, rfl, rfl, rfl, rfl⟩
theorem test_words_cpu_6 :
    decodeCpu true false false 0x904B99CA = .ok (.lbu 11 0x99ca 2) ∧
    decodeCpu true false false 0x84A19119 = .ok (.lh 1 0x9119 5) ∧
    decodeCpu true false false 0x9584F2EF = .ok (.lhu 4 0xf2ef 12) ∧
    decodeCpu true false false 0x8F811201 = .ok (.lw 1 0x1201 28) ∧
    decodeCpu true false false 0x9CB46051 = .ok (.lwu 20 0x6051 5) ∧
    decodeCpu true false false 0xDD89F49A = .ok (.ld 9 0xf49a 12) ∧
    decodeCpu true false false 0xA08C7962 = .ok (.sb 12 0x7962 4) ∧
    decodeCpu true false false 0xA5FC7CF3 = .ok (.sh 28 0x7cf3 15) ∧
    decodeCpu true false false 0xAC704FD6 = .ok (.sw 16 0x4fd6 3) ∧
    decodeCpu true false false 0xFD64BFEB = .ok (.sd 4 0xbfeb 11) ∧
    decodeCpu true false false 0x8B697A87 = .ok (.lwl 9 0x7a87 27) ∧
    decodeCpu true false false 0x9826842F = .ok (.lwr 6 0x842f 1) :=
  ⟨rfl, rfl, rfl, rfl, rfl, rfl, rfl, rfl, rfl, rfl, rfl, rfl⟩
theorem test_words_cpu_7 :
    decodeCpu true false false 0x6A3FF3B8 = .ok (.ldl 31 0xf3b8 17) ∧
    decodeCpu true false false 0x6E45B0A9 = .ok (.ldr 5 0xb0a9 18) ∧
    decodeCpu true false false 0xAA21C216 = .ok (.swl 1 0xc216 17) ∧
    decodeCpu true false false 0xB875DD03 = .ok (.swr 21 0xdd03 3) ∧
    decodeCpu true false false 0xB23C42D9 = .ok (.sdl 28 0x42d9 17) ∧
    decodeCpu true false false 0xB59E2AC4 = .ok (.sdr 30 0x2ac4 12) ∧
    decodeCpu true false false 0xC2488858 = .ok (.ll 8 0x8858 18) ∧
    decodeCpu true false false 0xD2B15465 = .ok (.lld 17 0x5465 21) ∧
    decodeCpu true false false 0xE354CFC0 = .ok (.sc 20 0xcfc0 26) ∧
    decodeCpu true false false 0xF0F9DA46 = .ok (.scd 25 0xda46 7) ∧
    decodeCpu true false false 0x00F5224C = .ok (.syscall 0x3d489) ∧
    decodeCpu true false false 0x019A4D4D = .ok (.brk 0x66935) :=
  ⟨rfl, rfl, rfl, rfl, rfl, rfl, rfl, rfl, rfl, rfl, rfl, rfl⟩
theorem test_words_cpu_8 :
    decodeCpu true false false 0x03483370 = .ok (.tge 26 8 0xcd) ∧
    decodeCpu true false false 0x020CBB71 = .ok (.tgeu 16 12 0x2ed) ∧
    decodeCpu true false false 0x003A47F2 = .ok (.tlt 1 26 0x11f) ∧
    decodeCpu true false false 0x0127B1B3 = .ok (.tltu 9 7 0x2c6) ∧
    decodeCpu true false false 0x03EC72B4 = .ok (.teq 31 12 0x1ca) ∧
    decodeCpu true false false 0x03D8FD36 = .ok (.tne 30 24 0x3f4) ∧
    decodeCpu true false false 0x07E8F97A = .ok (.tgei 31 0xf97a) ∧
    decodeCpu true false false 0x04693871 = .ok (.tgeiu 3 0x3871) ∧
    decodeCpu true false false 0x050A7858 = .ok (.tlti 8 0x7858) ∧
    decodeCpu true false false 0x056B3452 = .ok (.tltiu 11 0x3452) ∧
    decodeCpu true false false 0x068CFC3A = .ok (.teqi 20 0xfc3a) ∧
    decodeCpu true false false 0x068ED727 = .ok (.tnei 20 0xd727) :=
  ⟨rfl, rfl, rfl, rfl, rfl, rfl, rfl, rfl, rfl, rfl, rfl, rfl⟩
theorem test_words_cpu_9 :
    decodeCpu true false false 0x4010F1B9 = .ok (.mfc0 16 30) ∧
    decodeCpu true false false 0x402CD6FF = .ok (.dmfc0 12 26) ∧
    decodeCpu true false false 0x4083DC39 = .ok (.mtc0 3 27) ∧
    decodeCpu true false false 0x40A4F407 = .ok (.dmtc0 4 30) ∧
    decodeCpu true false false 0x42450058 = .ok .eret ∧
    decodeCpu true false false 0x42246741 = .ok .tlbr ∧
    decodeCpu true false false 0x42093482 = .ok .tlbwi ∧
    decodeCpu true false false 0x43069886 = .ok .tlbwr ∧
    decodeCpu true false false 0x42605A88 = .ok .tlbp ∧
    decodeCpu true false false 0x0396398F = .ok .sync ∧
    decodeCpu true false false 0xBF466F16 = .ok (.cache 6 0x6f16 26) ∧
    decodeCpu true false false 0x444B1DE1 = .ok (.cfc1 11 3) :=
  ⟨rfl, rfl, rfl, rfl, rfl, rfl, rfl, rfl, rfl, rfl, rfl, rfl⟩
theorem test_words_cpu_10 :
    decodeCpu true false false 0x44DFC3FE = .ok (.ctc1 31 24) ∧
    decodeCpu true false false 0x440F6CE6 = .ok (.mfc1 15 13) ∧
    decodeCpu true false false 0x443F1FC2 = .ok (.dmfc1 31 3) ∧
    decodeCpu true false false 0x4486348F = .ok (.mtc1 6 6) ∧
    decodeCpu true false false 0x44A50FFC = .ok (.dmtc1 5 1) ∧
    decodeCpu true false false 0xC5F3E7A5 = .ok (.lwc1 19 0xe7a5 15) ∧
    decodeCpu true false false 0xD695256C = .ok (.ldc1 21 0x256c 20) ∧
    decodeCpu true false false 0xE614FAF6 = .ok (.swc1 20 0xfaf6 16) ∧
    decodeCpu true false false 0xF4BE59B5 = .ok (.sdc1 30 0x59b5 5) ∧
    decodeCpu true false false 0x45088C5D = .ok (.bc1f 0x8c5d) ∧
    decodeCpu true false false 0x4505057B = .ok (.bc1t 0x57b) ∧
    decodeCpu true false false 0x450ECCA3 = .ok (.bc1fl 0xcca3) :=
  ⟨rfl, rfl, rfl, rfl, rfl, rfl, rfl, rfl, rfl, rfl, rfl, rfl⟩
theorem test_words_cpu_11 :
    decodeCpu true false false 0x4513B9F4 = .ok (.bc1tl 0xb9f4) ∧
    decodeCpu true false false 0x46188900 = .ok (.addS 4 17 24) ∧
    decodeCpu true false false 0x463C7140 = .ok (.addD 5 14 28) ∧
    decodeCpu true false false 0x4607E6C1 = .ok (.subS 27 28 7) ∧
    decodeCpu true false false 0x462A3A41 = .ok (.subD 9 7 10) ∧
    decodeCpu true false false 0x4613CA02 = .ok (.mulS 8 25 19) ∧
    decodeCpu true false false 0x462E9242 = .ok (.mulD 9 18 14) ∧
    decodeCpu true false false 0x461E1143 = .ok (.divS 5 2 30) ∧
    decodeCpu true false false 0x462FEB03 = .ok (.divD 12 29 15) ∧
    decodeCpu true false false 0x461FDCC4 = .ok (.sqrtS 19 27) ∧
    decodeCpu true false false 0x463F7444 = .ok (.sqrtD 17 14) ∧
    decodeCpu true false false 0x460CEF85 = .ok (.absS 30 29) :=
  ⟨rfl, rfl, rfl, rfl, rfl, rfl, rfl, rfl, rfl, rfl, rfl, rfl⟩
theorem test_words_cpu_12 :
    decodeCpu true false false 0x463E9145 = .ok (.absD 5 18) ∧
    decodeCpu true false false 0x46098C46 = .ok (.movS 17 17) ∧
    decodeCpu true false false 0x46297F06 = .ok (.movD 28 15) ∧
    decodeCpu true false false 0x4601A187 = .ok (.negS 6 20) ∧
    decodeCpu true false false 0x4639D647 = .ok (.negD 25 26) ∧
    decodeCpu true false false 0x46162988 = .ok (.roundLS 6 5) ∧
    decodeCpu true false false 0x462EC508 = .ok (.roundLD 20 24) ∧
    decodeCpu true false false 0x46131489 = .ok (.truncLS 18 2) ∧
    decodeCpu true false false 0x463D8D89 = .ok (.truncLD 22 17) ∧
    decodeCpu true false false 0x4606848A = .ok (.ceilLS 18 16) ∧
    decodeCpu true false false 0x463B264A = .ok (.ceilLD 25 4) ∧
    decodeCpu true false false 0x461D148B = .ok (.floorLS 18 2) :=
  ⟨rfl, rfl, rfl, rfl, rfl, rfl, rfl, rfl, rfl, rfl, rfl, rfl⟩
theorem test_words_cpu_13 :
    decodeCpu true false false 0x462D49CB = .ok (.floorLD 7 9) ∧
    decodeCpu true false false 0x4619264C = .ok (.roundWS 25 4) ∧
    decodeCpu true false false 0x462293CC = .ok (.roundWD 15 18) ∧
    decodeCpu true false false 0x4618EE4D = .ok (.truncWS 25 29) ∧
    decodeCpu true false false 0x463B78CD = .ok (.truncWD 3 15) ∧
    decodeCpu true false false 0x460B8D0E = .ok (.ceilWS 20 17) ∧
    decodeCpu true false false 0x46363C4E = .ok (.ceilWD 17 7) ∧
    decodeCpu true false false 0x46167A4F = .ok (.floorWS 9 15) ∧
    decodeCpu true false false 0x4620D48F = .ok (.floorWD 18 26) ∧
    decodeCpu true false false 0x4626FC60 = .ok (.cvtSD 17 31) ∧
    decodeCpu true false false 0x46848DE0 = .ok (.cvtSW 23 17) ∧
    decodeCpu true false false 0x46A4FF60 = .ok (.cvtSL 29 31) :=
  ⟨rfl, rfl, rfl, rfl, rfl, rfl, rfl, rfl, rfl, rfl, rfl, rfl⟩
theorem test_words_cpu_14 :
    decodeCpu true false false 0x461CF261 = .ok (.cvtDS 9 30) ∧
    decodeCpu true false false 0x469CFF61 = .ok (.cvtDW 29 31) ∧
    decodeCpu true false false 0x46BB7EE1 = .ok (.cvtDL 27 15) ∧
    decodeCpu true false false 0x461123A4 = .ok (.cvtWS 14 4) ∧
    decodeCpu true false false 0x46325BE4 = .ok (.cvtWD 15 11) ∧
    decodeCpu true false false 0x460745A5 = .ok (.cvtLS 22 8) ∧
    decodeCpu true false false 0x462238E5 = .ok (.cvtLD 3 7) ∧
    decodeCpu true false false 0x461A5270 = .ok (.cFS 10 26) ∧
    decodeCpu true false false 0x4639E870 = .ok (.cFD 29 25) ∧
    decodeCpu true false false 0x4617F9F1 = .ok (.cUnS 31 23) ∧
    decodeCpu true false false 0x462CB5B1 = .ok (.cUnD 22 12) ∧
    decodeCpu true false false 0x461D4E32 = .ok (.cEqS 9 29) :=
  ⟨rfl, rfl, rfl, rfl, rfl, rfl, rfl, rfl, rfl, rfl, rfl, rfl⟩
theorem test_words_cpu_15 :
    decodeCpu true false false 0x462FF872 = .ok (.cEqD 31 15) ∧
    decodeCpu true false false 0x461FC2F3 = .ok (.cUeqS 24 31) ∧
    decodeCpu true false false 0x463D6F73 = .ok (.cUeqD 13 29) ∧
    decodeCpu true false false 0x46163034 = .ok (.cOltS 6 22) ∧
    decodeCpu true false false 0x462646F4 = .ok (.cOltD 8 6) ∧
    decodeCpu true false false 0x46117375 = .ok (.cUltS 14 17) ∧
    decodeCpu true false false 0x462E5AB5 = .ok (.cUltD 11 14) ∧
    decodeCpu true false false 0x460B6736 = .ok (.cOleS 12 11) ∧
    decodeCpu true false false 0x462CC576 = .ok (.cOleD 24 12) ∧
    decodeCpu true false false 0x46125AB7 = .ok (.cUleS 11 18) ∧
    decodeCpu true false false 0x46377D77 = .ok (.cUleD 15 23) ∧
    decodeCpu true false false 0x460B6BB8 = .ok (.cSfS 13 11) :=
  ⟨rfl, rfl, rfl, rfl, rfl, rfl, rfl, rfl, rfl, rfl, rfl, rfl⟩
theorem test_words_cpu_16 :
    decodeCpu true false false 0x462AA6F8 = .ok (.cSfD 20 10) ∧
    decodeCpu true false false 0x4603FC39 = .ok (.cNgleS 31 3) ∧
    decodeCpu true false false 0x463AF179 = .ok (.cNgleD 30 26) ∧
    decodeCpu true false false 0x4604EA3A = .ok (.cSeqS 29 4) ∧
    decodeCpu true false false 0x46294BBA = .ok (.cSeqD 9 9) ∧
    decodeCpu true false false 0x4619EEFB = .ok (.cNglS 29 25) ∧
    decodeCpu true false false 0x46394DBB = .ok (.cNglD 9 25) ∧
    decodeCpu true false false 0x460EDE7C = .ok (.cLtS 27 14) ∧
    decodeCpu true false false 0x4636F33C = .ok (.cLtD 30 22) ∧
    decodeCpu true false false 0x4609FA7D = .ok (.cNgeS 31 9) ∧
    decodeCpu true false false 0x46322AFD = .ok (.cNgeD 5 18) ∧
    decodeCpu true false false 0x46138D3E = .ok (.cLeS 17 19) :=
  ⟨rfl, rfl, rfl, rfl, rfl, rfl, rfl, rfl, rfl, rfl, rfl, rfl⟩
theorem test_words_cpu_17 :
    decodeCpu true false false 0x462BBEFE = .ok (.cLeD 23 11) ∧
    decodeCpu true false false 0x46024D3F = .ok (.cNgtS 9 2) ∧
    decodeCpu true false false 0x4626BBFF = .ok (.cNgtD 23 6) :=
  ⟨rfl, rfl, rfl⟩
theorem test_words_vu_0 :
    decodeRsp 0x0023EA40 = .ok (.rspSll 29 3 9) ∧
    decodeRsp 0x013508C2 = .ok (.rspSrl 1 21 3) ∧
    decodeRsp 0x03234D03 = .ok (.rspSra 9 3 20) ∧
    decodeRsp 0x01234204 = .ok (.rspSllv 8 3 9) ∧
    decodeRsp 0x002F2686 = .ok (.rspSrlv 4 15 1) ∧
    decodeRsp 0x03CE9787 = .ok (.rspSrav 18 14 30) ∧
    decodeRsp 0x02854F20 = .ok (.rspAdd 9 20 5) ∧
    decodeRsp 0x02E88D21 = .ok (.rspAddu 17 23 8) ∧
    decodeRsp 0x00C92762 = .ok (.rspSub 4 6 9) ∧
    decodeRsp 0x00FE33E3 = .ok (.rspSubu 6 7 30) ∧
    decodeRsp 0x0151AA64 = .ok (.rspAnd 21 10 17) ∧
    decodeRsp 0x014F3E65 = .ok (.rspOr 7 10 15) :=
  ⟨rfl, rfl, rfl, rfl, rfl, rfl, rfl, rfl, rfl, rfl, rfl, rfl⟩
theorem test_words_vu_1 :
    decodeRsp 0x00C9B726 = .ok (.rspXor 22 6 9) ∧
    decodeRsp 0x0029D367 = .ok (.rspNor 26 1 9) ∧
    decodeRsp 0x00380A2A = .ok (.rspSlt 1 1 24) ∧
    decodeRsp 0x00F191EB = .ok (.rspSltu 18 7 17) ∧
    decodeRsp 0x0104C0C8 = .ok (.rspJr 8) ∧
    decodeRsp 0x00877E09 = .ok (.rspJalr 15 4) ∧
    decodeRsp 0x0346934D = .ok (.rspBreak 0xd1a4d) ∧
    decodeRsp 0x22CE7EB9 = .ok (.rspAddi 14 22 0x7eb9) ∧
    decodeRsp 0x27BB64A2 = .ok (.rspAddiu 27 29 0x64a2) ∧
    decodeRsp 0x2951B010 = .ok (.rspSlti 17 10 0xb010) ∧
    decodeRsp 0x2D6832DA = .ok (.rspSltiu 8 11 0x32da) ∧
    decodeRsp 0x32FDBA96 = .ok (.rspAndi 29 23 0xba96) :=
  ⟨rfl, rfl, rfl, rfl, rfl, rfl, rfl, rfl, rfl, rfl, rfl, rfl⟩
theorem test_words_vu_2 :
    decodeRsp 0x35A5FD4C = .ok (.rspOri 5 13 0xfd4c) ∧
    decodeRsp 0x3B62213C = .ok (.rspXori 2 27 0x213c) ∧
    decodeRsp 0x3DA3A01E = .ok (.rspLui 3 0xa01e) ∧
    decodeRsp 0x13A96E46 = .ok (.rspBeq 29 9 0x6e46) ∧
    decodeRsp 0x1443AA4D = .ok (.rspBne 2 3 0xaa4d) ∧
    decodeRsp 0x19A5DEDC = .ok (.rspBlez 13 0xdedc) ∧
    decodeRsp 0x1ECCF88F = .ok (.rspBgtz 22 0xf88f) ∧
    decodeRsp 0x0A65262C = .ok (.rspJ 0x265262c) ∧
    decodeRsp 0x0EC54F5B = .ok (.rspJal 0x2c54f5b) ∧
    decodeRsp 0x0440759F = .ok (.rspBltz 2 0x759f) ∧
    decodeRsp 0x04C144E0 = .ok (.rspBgez 6 0x44e0) ∧
    decodeRsp 0x04304364 = .ok (.rspBltzal 1 0x4364) :=
  ⟨rfl, rfl, rfl, rfl, rfl, rfl, rfl, rfl, rfl, rfl, rfl, rfl⟩
theorem test_words_vu_3 :
    decodeRsp 0x07F15435 = .ok (.rspBgezal 31 0x5435) ∧
    decodeRsp 0x811252D4 = .ok (.rspLb 18 0x52d4 8) ∧
    decodeRsp 0x855FE1E5 = .ok (.rspLh 31 0xe1e5 10) ∧
    decodeRsp 0x8C2C2ED7 = .ok (.rspLw 12 0x2ed7 1) ∧
    decodeRsp 0x920D157A = .ok (.rspLbu 13 0x157a 16) ∧
    decodeRsp 0x94F1A7F1 = .ok (.rspLhu 17 0xa7f1 7) ∧
    decodeRsp 0x9C31C6B8 = .ok (.rspLwu 17 0xc6b8 1) ∧
    decodeRsp 0xA069D12A = .ok (.rspSb 9 0xd12a 3) ∧
    decodeRsp 0xA44D9639 = .ok (.rspSh 13 0x9639 2) ∧
    decodeRsp 0xAD414CB6 = .ok (.rspSw 1 0x4cb6 10) ∧
    decodeRsp 0x4008193E = .ok (.rspMfc0 8 3) ∧
    decodeRsp 0x409F8D8E = .ok (.rspMtc0 31 17) :=
  ⟨rfl, rfl, rfl, rfl, rfl, rfl, rfl, rfl, rfl, rfl, rfl, rfl⟩
theorem test_words_vu_4 :
    decodeRsp 0x48192D82 = .ok (.rspMfc2 25 5 11) ∧
    decodeRsp 0x4897D7E6 = .ok (.rspMtc2 23 26 15) ∧
    decodeRsp 0x484DC928 = .ok (.rspCfc2 13 25) ∧
    decodeRsp 0x48D88798 = .ok (.rspCtc2 24 16) ∧
    decodeRsp 0xCAAA0650 = .ok (.rspLbv 10 12 0x50 21) ∧
    decodeRsp 0xCAE20F6B = .ok (.rspLsv 2 14 0x6b 23) ∧
    decodeRsp 0xCB1115B7 = .ok (.rspLlv 17 11 0x37 24) ∧
    decodeRsp 0xCBDA1C92 = .ok (.rspLdv 26 9 18 30) ∧
    decodeRsp 0xCB7924C9 = .ok (.rspLqv 25 9 0x49 27) ∧
    decodeRsp 0xCADA28EA = .ok (.rspLrv 26 1 0x6a 22) ∧
    decodeRsp 0xCADA37DC = .ok (.rspLpv 26 15 0x5c 22) ∧
    decodeRsp 0xC8773D9E = .ok (.rspLuv 23 11 30 3) :=
  ⟨rfl, rfl, rfl, rfl, rfl, rfl, rfl, rfl, rfl, rfl, rfl, rfl⟩
theorem test_words_vu_5 :
    decodeRsp 0xC98241D2 = .ok (.rspLhv 2 3 0x52 12) ∧
    decodeRsp 0xC9E44BEB = .ok (.rspLfv 4 7 0x6b 15) ∧
    decodeRsp 0xCAA25583 = .ok (.rspLwv 2 11 3 21) ∧
    decodeRsp 0xC9365A3F = .ok (.rspLtv 22 4 0x3f 9) ∧
    decodeRsp 0xEB0F0689 = .ok (.rspSbv 15 13 9 24) ∧
    decodeRsp 0xE8710FC5 = .ok (.rspSsv 17 15 0x45 3) ∧
    decodeRsp 0xEB111160 = .ok (.rspSlv 17 2 0x60 24) ∧
    decodeRsp 0xEB891E8A = .ok (.rspSdv 9 13 10 28) ∧
    decodeRsp 0xE8E82661 = .ok (.rspSqv 8 12 0x61 7) ∧
    decodeRsp 0xE9F82DFD = .ok (.rspSrv 24 11 0x7d 15) ∧
    decodeRsp 0xEA1C338A = .ok (.rspSpv 28 7 10 16) ∧
    decodeRsp 0xE8563AE3 = .ok (.rspSuv 22 5 0x63 2) :=
  ⟨rfl, rfl, rfl, rfl, rfl, rfl, rfl, rfl, rfl, rfl, rfl, rfl⟩
theorem test_words_vu_6 :
    decodeRsp 0xE875459A = .ok (.rspShv 21 11 26 3) ∧
    decodeRsp 0xEAA54B21 = .ok (.rspSfv 5 6 0x21 21) ∧
    decodeRsp 0xEA7752D0 = .ok (.rspSwv 23 5 0x50 19) ∧
    decodeRsp 0xEA015C08 = .ok (.rspStv 1 8 8 16) ∧
    decodeRsp 0x4A972590 = .ok (.rspVadd 22 4 23 4) ∧
    decodeRsp 0x4B375411 = .ok (.rspVsub 16 10 23 9) ∧
    decodeRsp 0x4BAF7BD3 = .ok (.rspVabs 15 15 15 13) ∧
    decodeRsp 0x4AA79768 = .ok (.rspVand 29 18 7 5) ∧
    decodeRsp 0x4A30F0E9 = .ok (.rspVnand 3 30 16 1) ∧
    decodeRsp 0x4B3B1BEA = .ok (.rspVor 15 3 27 9) ∧
    decodeRsp 0x4A8D4BEB = .ok (.rspVnor 15 9 13 4) ∧
    decodeRsp 0x4A47F7EC = .ok (.rspVxor 31 30 7 2) :=
  ⟨rfl, rfl, rfl, rfl, rfl, rfl, rfl, rfl, rfl, rfl, rfl, rfl⟩
theorem test_words_vu_7 :
    decodeRsp 0x4B3828ED = .ok (.rspVnxor 3 5 24 9) ∧
    decodeRsp 0x4B4567E0 = .ok (.rspVlt 31 12 5 10) ∧
    decodeRsp 0x4BE98D61 = .ok (.rspVeq 21 17 9 15) ∧
    decodeRsp 0x4B0865E2 = .ok (.rspVne 23 12 8 8) ∧
    decodeRsp 0x4A2D8763 = .ok (.rspVge 29 16 13 1) ∧
    decodeRsp 0x4B70F867 = .ok (.rspVmrg 1 31 16 11) ∧
    decodeRsp 0x4AA8A35D = .ok (.rspVsar 13 5) ∧
    decodeRsp 0x4A056377 = .ok .rspVnop ∧
    decodeRsp 0x4ACD6380 = .ok (.rspVmulf 14 12 13 6) ∧
    decodeRsp 0x4AC15EC1 = .ok (.rspVmulu 27 11 1 6) ∧
    decodeRsp 0x4A4DDAC2 = .ok (.rspVrndp 11 27 13 2) ∧
    decodeRsp 0x4A373F83 = .ok (.rspVmulq 30 7 23 1) :=
  ⟨rfl, rfl, rfl, rfl, rfl, rfl, rfl, rfl, rfl, rfl, rfl, rfl⟩
theorem test_words_vu_8 :
    decodeRsp 0x4AC95604 = .ok (.rspVmudl 24 10 9 6) ∧
    decodeRsp 0x4B5C6B45 = .ok (.rspVmudm 13 13 28 10) ∧
    decodeRsp 0x4BAEF306 = .ok (.rspVmudn 12 30 14 13) ∧
    decodeRsp 0x4A491707 = .ok (.rspVmudh 28 2 9 2) ∧
    decodeRsp 0x4B6AB6C8 = .ok (.rspVmacf 27 22 10 11) ∧
    decodeRsp 0x4AE94149 = .ok (.rspVmacu 5 8 9 7) ∧
    decodeRsp 0x4AD93ACA = .ok (.rspVrndn 11 7 25 6) ∧
    decodeRsp 0x4A3D77CB = .ok (.rspVmacq 31 14 29 1) ∧
    decodeRsp 0x4BEDAE4C = .ok (.rspVmadl 25 21 13 15) ∧
    decodeRsp 0x4A9297CD = .ok (.rspVmadm 31 18 18 4) ∧
    decodeRsp 0x4B9E10CE = .ok (.rspVmadn 3 2 30 12) ∧
    decodeRsp 0x4A79A3CF = .ok (.rspVmadh 15 20 25 3) :=
  ⟨rfl, rfl, rfl, rfl, rfl, rfl, rfl, rfl, rfl, rfl, rfl, rfl⟩
theorem test_words_vu_9 :
    decodeRsp 0x4A305714 = .ok (.rspVaddc 28 10 16 1) ∧
    decodeRsp 0x4A659795 = .ok (.rspVsubc 30 18 5 3) ∧
    decodeRsp 0x4AAA5BA4 = .ok (.rspVcl 14 11 10 5) ∧
    decodeRsp 0x4AB5C625 = .ok (.rspVch 24 24 21 5) ∧
    decodeRsp 0x4B0A4566 = .ok (.rspVcr 21 8 10 8) ∧
    decodeRsp 0x4A646DB0 = .ok (.rspVrcp 22 13 4 3) ∧
    decodeRsp 0x4B2719B1 = .ok (.rspVrcpl 6 3 7 9) ∧
    decodeRsp 0x4A9286B2 = .ok (.rspVrcph 26 16 18 4) ∧
    decodeRsp 0x4B195FB3 = .ok (.rspVmov 30 11 25 8) ∧
    decodeRsp 0x4A879174 = .ok (.rspVrsq 5 18 7 4) ∧
    decodeRsp 0x4A5259B5 = .ok (.rspVrsql 6 11 18 2) ∧
    decodeRsp 0x4BA96236 = .ok (.rspVrsqh 8 12 9 13) :=
  ⟨rfl, rfl, rfl, rfl, rfl, rfl, rfl, rfl, rfl, rfl, rfl, rfl⟩
theorem test_words_rdp_0 :
    decodeRdp [0x0022E96D33BF9157] = .ok .rdpNop ∧
    decodeRdp (0x08BFE98F05241380 :: List.replicate 3 7) = .ok (.rdpTriangle 0xbfe98f05241380 (List.replicate 3 7)) ∧
    decodeRdp (0x0969F4466201A9D4 :: List.replicate 5 7) = .ok (.rdpTriangleZ 0x69f4466201a9d4 (List.replicate 5 7)) ∧
    decodeRdp (0x0A607A4735C2E22A :: List.replicate 11 7) = .ok (.rdpTriangleTex 0x607a4735c2e22a (List.replicate 11 7)) ∧
    decodeRdp (0x0B0FE321C08A58D8 :: List.replicate 13 7) = .ok (.rdpTriangleTexZ 0xfe321c08a58d8 (List.replicate 13 7)) ∧
    decodeRdp (0x0CF7BA389304106F :: List.replicate 11 7) = .ok (.rdpTriangleShade 0xf7ba389304106f (List.replicate 11 7)) ∧
    decodeRdp (0x0D80DE8BAFCF0E78 :: List.replicate 13 7) = .ok (.rdpTriangleShadeZ 0x80de8bafcf0e78 (List.replicate 13 7)) ∧
    decodeRdp (0x0EDCE47BCA51E153 :: List.replicate 19 7) = .ok (.rdpTriangleShadeTex 0xdce47bca51e153 (List.replicate 19 7)) ∧
    decodeRdp (0x0F45619F17B4834D :: List.replicate 21 7) = .ok (.rdpTriangleShadeTexZ 0x45619f17b4834d (List.replicate 21 7)) ∧
    decodeRdp (0x2466567B627292F9 :: List.replicate 1 7) = .ok (.rdpTextureRectangle 0x66567b627292f9 (List.replicate 1 7)) ∧
    decodeRdp (0x25F435A56E8CD94F :: List.replicate 1 7) = .ok (.rdpTextureRectangleFlip 0xf435a56e8cd94f (List.replicate 1 7)) ∧
    decodeRdp [0x2675C883D07884B7] = .ok .rdpSyncLoad :=
  ⟨rfl, rfl, rfl, rfl, rfl, rfl, rfl, rfl, rfl, rfl, rfl, rfl⟩
theorem test_words_rdp_1 :
    decodeRdp [0x27955FB9F7D17EBD] = .ok .rdpSyncPipe ∧
    decodeRdp [0x28411C07209342CA] = .ok .rdpSyncTile ∧
    decodeRdp [0x29A290616CD9E62A] = .ok .rdpSyncFull ∧
    decodeRdp [0x2AE54C5DC3813CE7] = .ok (.rdpSetKeyGb 0xe54c5dc3813ce7) ∧
    decodeRdp [0x2B965132F7E147FE] = .ok (.rdpSetKeyR 0x965132f7e147fe) ∧
    decodeRdp [0x2C643AB912B92A02] = .ok (.rdpSetConvert 0x643ab912b92a02) ∧
    decodeRdp [0x2DD359D0ED9BF0B7] = .ok (.rdpSetScissor 0xd359d0ed9bf0b7) ∧
    decodeRdp [0x2EF8E4CB77D8C56A] = .ok (.rdpSetPrimDepth 0xf8e4cb77d8c56a) ∧
    decodeRdp [0x2F1BEA70C879B664] = .ok (.rdpSetOtherModes 0x1bea70c879b664) ∧
    decodeRdp [0x3085B9C026EDF1BE] = .ok (.rdpLoadTlut 0x85b9c026edf1be) ∧
    decodeRdp [0x32F105861BE03DF1] = .ok (.rdpSetTileSize 0xf105861be03df1) ∧
    decodeRdp [0x33A5B89BB374FAB7] = .ok (.rdpLoadBlock 0xa5b89bb374fab7) :=
  ⟨rfl, rfl, rfl, rfl, rfl, rfl, rfl, rfl, rfl, rfl, rfl, rfl⟩
theorem test_words_rdp_2 :
    decodeRdp [0x34751341E5174EBE] = .ok (.rdpLoadTile 0x751341e5174ebe) ∧
    decodeRdp [0x350A1FB4C6E0673B] = .ok (.rdpSetTile 0xa1fb4c6e0673b) ∧
    decodeRdp [0x362033B90991DEB8] = .ok (.rdpFillRectangle 0x203 0x3b9 0x91d 0xeb8) ∧
    decodeRdp [0x3762222EB70BA859] = .ok (.rdpSetFillColor 0xb70ba859) ∧
    decodeRdp [0x38A0608420C26F72] = .ok (.rdpSetFogColor 0xa0608420c26f72) ∧
    decodeRdp [0x396FFB72A2E3F93B] = .ok (.rdpSetBlendColor 0x6ffb72a2e3f93b) ∧
    decodeRdp [0x3A1975361CB4BA56] = .ok (.rdpSetPrimColor 0x1975361cb4ba56) ∧
    decodeRdp [0x3BF18BDE86417B61] = .ok (.rdpSetEnvColor 0xf18bde86417b61) ∧
    decodeRdp [0x3C42C927635956BF] = .ok (.rdpSetCombineMode 0x42c927635956bf) ∧
    decodeRdp [0x3D004B7F99DF209C] = .ok (.rdpSetTextureImage 0x4b7f99df209c) ∧
    decodeRdp [0x3EFF125E4D307FE5] = .ok (.rdpSetZImage 0xff125e4d307fe5) ∧
    decodeRdp [0x3F50FCC6F57D170A] = .ok (.rdpSetColorImage 0x50fcc6f57d170a) :=
  ⟨rfl, rfl, rfl, rfl, rfl, rfl, rfl, rfl, rfl, rfl, rfl, rfl⟩

/-! ## Witnesses: states and operands that meet the hypotheses of each obligation, each clause at a boundary -/

/-- `start` with the KSU, ERL and EXL bits of `v`. -/
def withStatus (v : Word) : State := { start with cp0.status := v }

/-- `start` with x1 = a and x2 = b. -/
def two (a b : Dword) : State := regs [(1, a), (2, b)] start

/-- `start` about to access virtual address `a` through x1. -/
def access (a : Dword) : State := regs [(1, a)] start

theorem test_witness_CpuDecodeAndEncodeAgree : encode (.addS 1 1 2) = .cpu 0x46020840 ∧
    (isCp1 (.addS 1 1 2) = true → true = true) := ⟨rfl, fun _ => rfl⟩
/-- R243's own examples: sa of ADD, rs of SLL, rt and rd of JR, bits 10:0 of MFC0, bits 24:6 of ERET. -/
theorem test_witness_CpuDecodeAndEncodeAgree_ignored :
    ignoredCpuBits 0x00221820 = 0x000007C0 ∧ ignoredCpuBits 0x00031080 = 0x03E00000 ∧
    ignoredCpuBits 0x03E00008 = 0x001FFFC0 ∧ ignoredCpuBits 0x40026000 = 0x000007FF ∧
    ignoredCpuBits 0x42000018 = 0x01FFFFC0 ∧
    ((0x00221820 : Word) ^^^ 0x00221FE0) &&& ~~~ignoredCpuBits 0x00221820 = 0 := by decide +kernel
theorem test_witness_CpuDecodeAndEncodeAgree_decode : decodeCpu false false false 0x00221FE0 = .ok (.add 3 1 2) ∧
    decodeCpu false false false 0x43FFFFD8 = .ok .eret ∧ decodeCpu true false false 0x46020FF0 = .ok (.cFS 1 2) :=
  ⟨rfl, rfl, rfl⟩
theorem test_witness_VectorUnitDecodeAndEncodeAgree : encode (.rspVmulf 3 1 2 0) = .vectorUnit 0x4A0208C0 := rfl
theorem test_witness_VectorUnitDecodeAndEncodeAgree_ignored :
    ((0x00221820 : Word) ^^^ 0x00221FE0) &&& ~~~ignoredVuBits 0x00221820 = 0 ∧
    ((0x4A000037 : Word) ^^^ 0x4BFFFFF7) &&& ~~~ignoredVuBits 0x4A000037 = 0 := by decide +kernel
theorem test_witness_VectorUnitDecodeAndEncodeAgree_decode : decodeRsp 0x00221FE0 = .ok (.rspAdd 3 1 2) ∧
    decodeRsp 0x4BFFFFF7 = .ok .rspVnop ∧ decodeRsp 0x4B1FF8DD = .ok (.rspVsar 3 8) := ⟨rfl, rfl, rfl⟩
theorem test_witness_DisplayProcessorDecodeAndEncodeAgree : (Instr.rdpTriangle 0 [0, 0, 0]).wellFormed = true ∧
    encode (.rdpTriangle 0 [0, 0, 0]) = .displayProcessor [0x0800000000000000, 0, 0, 0] := ⟨rfl, rfl⟩
theorem test_witness_DisplayProcessorDecodeAndEncodeAgree_ignored :
    ((0x3700000000000001 : Dword) ^^^ 0x37ABCDEF00000001) &&& ~~~ignoredCommandBits 0x3700000000000001 = 0 := by decide
theorem test_witness_DisplayProcessorDecodeAndEncodeAgree_decode :
    decodeRdp [0x37ABCDEF00000001] = .ok (.rdpSetFillColor 1) := rfl
/-- A word for each way of being reserved, at the ends of the tables' gaps (R246 to R251, R606, R607). -/
theorem test_witness_UnusableAndReservedCpuWords_reserved :
    decodeCpu true true true 0x70000000 = .error .reserved ∧ decodeCpu true true true 0x7C000000 = .error .reserved ∧
    decodeCpu true true true 0xCC000000 = .error .reserved ∧ decodeCpu true true true 0xEC000000 = .error .reserved ∧
    decodeCpu true true true 0x0000003D = .error .reserved ∧ decodeCpu true true true 0x041F0000 = .error .reserved ∧
    decodeCpu true true true 0x41E00000 = .error .reserved ∧ decodeCpu true true true 0x4200003F = .error .reserved ∧
    decodeCpu true true true 0x46400000 = .error .reserved ∧ decodeCpu true true true 0x46000020 = .error .reserved ∧
    decodeCpu true true true 0x46200021 = .error .reserved ∧ decodeCpu true true true 0x4680003F = .error .reserved :=
  ⟨rfl, rfl, rfl, rfl, rfl, rfl, rfl, rfl, rfl, rfl, rfl, rfl⟩
theorem test_witness_UnusableAndReservedCpuWords :
    (0x44000000 : Word).extractLsb' 26 6 = 17 ∧ (0xC4000000 : Word).extractLsb' 26 6 = 49 ∧
    (0xF4000000 : Word).extractLsb' 26 6 = 61 ∧ (0x48000000 : Word).extractLsb' 26 6 = 18 ∧
    (0xF8000000 : Word).extractLsb' 26 6 = 62 ∧ (0x4C000000 : Word).extractLsb' 26 6 = 19 ∧
    (0xFC000000 : Word).extractLsb' 26 6 = 63 := by decide
theorem test_witness_StepRunsDecodedCpuInstruction :
    let s := poke 0x400 4 0x00221821 start
    s.refused = none ∧ s.clock.phase = .cpu (0 + 1) ∧ s.cpu.pc.toNat % 4 = 0 ∧
      translateVa s .fetch s.cpu.pc = .physical 0x400 ∧ lo32 (memRead s 0x400 4).1 = 0x00221821 := by decide +kernel
theorem test_witness_StepRunsDecodedCpuInstruction_decode :
    decodeCpu (statusCu1 start) (statusCu2 start) (statusCu3 start) 0x00221821 = .ok (.addu 3 1 2) := rfl
theorem test_witness_StepRunsDecodedVectorUnitInstruction :
    let s := poke 0x04001FFC 4 0x4A000037 { vuStart with vu.pc := 0xFFC }
    s.refused = none ∧ s.clock.phase = .vu (0 + 1) ∧ s.sp.halt = false ∧ s.vu.pc.toNat % 4 = 0 ∧
      lo32 (Memory.read s.mem (0x04001000 + s.vu.pc.toNat) 4) = 0x4A000037 := by decide +kernel
theorem test_witness_StepRunsDecodedVectorUnitInstruction_decode : decodeRsp 0x4A000037 = .ok .rspVnop := rfl
/-- A reserved transfer, a reserved vector operation, an unlisted opcode, and an unlisted word of each subtable. -/
theorem test_witness_StepRunsDecodedVectorUnitInstruction_rejected :
    ((0xC8006000 : Word).extractLsb' 26 6 = 50 ∧ 12 ≤ ((0xC8006000 : Word).extractLsb' 11 5).toNat) ∧
    ((0x4A00003F : Word).extractLsb' 26 6 = 18 ∧ (0x4A00003F : Word).getLsbD 25 = true ∧
      0x38 ≤ ((0x4A00003F : Word).extractLsb' 0 6).toNat) ∧
    16 < ((0xFC000000 : Word).extractLsb' 26 6).toNat ∧
    ((0xFC000000 : Word).extractLsb' 26 6).toNat ∉ [18, 32, 33, 35, 36, 37, 39, 40, 41, 43, 50, 58] ∧
    ((0x00000001 : Word).extractLsb' 26 6 = 0 ∧ ((0x00000001 : Word).extractLsb' 0 6).toNat ∉ [0, 2, 3, 4]) ∧
    ((0x04020000 : Word).extractLsb' 16 5).toNat ∉ [0, 1, 16, 17] ∧ ((0x40200000 : Word).extractLsb' 21 5).toNat ∉ [0, 4] ∧
    ((0x48200000 : Word).getLsbD 25 = false ∧ ((0x48200000 : Word).extractLsb' 21 5).toNat ∉ [0, 2, 4, 6]) := by
  decide +kernel
theorem test_witness_StepRunsDecodedVectorUnitInstruction_error :
    decodeRsp 0xC8006000 = .error .vectorTransferReserved ∧ decodeRsp 0x4A00003F = .error .vectorOpReserved ∧
    decodeRsp 0xFC000000 = .error .vectorUnitUnlisted := ⟨rfl, rfl, rfl⟩
/-- R640: an unlisted word at rsp_pc stops the machine. -/
theorem test_unlisted_vector_word : refuses (vuOn vuStart 0xFC000000) .unmodelledVectorUnitInstruction = true := by
  decide +kernel
theorem test_witness_StepRunsDecodedCommand :
    decodeRdp [0x2900000000000000] = .ok .rdpSyncFull ∧ decodeRdp [0x0100000000000000] = .error (.commandUnknown 1) ∧
    { State.reset with clock.phase := .draw [[0x2900000000000000]] }.refused = none := ⟨rfl, rfl, rfl⟩
/-- R1005: a command whose top byte is at an end of a gap of R1004 stops the machine. -/
theorem test_unknown_commands :
    refuses (rdpOn State.reset [0x0100000000000000]) (.unknownCommand 0x01) = true ∧
    refuses (rdpOn State.reset [0x0700000000000000]) (.unknownCommand 0x07) = true ∧
    refuses (rdpOn State.reset [0x1000000000000000]) (.unknownCommand 0x10) = true ∧
    refuses (rdpOn State.reset [0x2300000000000000]) (.unknownCommand 0x23) = true ∧
    refuses (rdpOn State.reset [0x3100000000000000]) (.unknownCommand 0x31) = true ∧
    refuses (rdpOn State.reset [0x4000000000000000]) (.unknownCommand 0x40) = true ∧
    refuses (rdpOn State.reset [0xFF00000000000000]) (.unknownCommand 0xFF) = true := by decide +kernel
theorem test_witness_FetchAndDecodeExceptions :
    start.refused = none ∧ start.clock.phase = .cpu (0 + 1) ∧ (0xFFFFFFFF80000402 : Dword).toNat % 4 ≠ 0 ∧
    (0x0000000180000400 : Dword) ≠ sext32 (lo32 0x0000000180000400) ∧
    translateVa start .fetch P = .physical 0x400 ∧
    translateVa start .fetch 0x400 = .refusal (.tlbMappedSegment .kuseg) := by decide +kernel
theorem test_witness_FetchAndDecodeExceptions_decode :
    decodeCpu true false false 0x70000000 = .error .reserved ∧
    decodeCpu true false false 0x48000000 = .error (.coprocessorUnusable 2) := ⟨rfl, rfl⟩
theorem test_witness_TickOrder :
    { start with refused := some .divisionByZero }.refused = some .divisionByZero ∧
    State.reset.clock.phase = .boundary ∧ State.reset.clock.state ≠ .stopped ∧
    (stopClock State.reset).clock.phase = .boundary ∧ (stopClock State.reset).clock.state = .stopped ∧
    { State.reset with clock.phase := .cpu 0 }.refused = none ∧
    (∀ q ∈ State.reset.dma, State.reset.clock.tick < q.deadline) ∧
    State.reset.clock.framePhase + 1 ≠ State.reset.cfg.ticksPerFrame ∧ 99 + 1 = State.reset.cfg.ticksPerFrame ∧
    { vuStart with sp.halt := true }.clock.phase = .vu (0 + 1) := by decide +kernel
/-- A tick that a refusal ends is counted (R850). -/
theorem test_witness_TickOrder_refused :
    let s := poke 0x400 4 0x42000002 start
    refuses (step s) .tlbNotModelled = true ∧ s.advance.refused = some .tlbNotModelled ∧ s.advance.clock.tick = 1 ∧
      s.advance.advance = s.advance := by decide +kernel
theorem test_witness_TickOrder_frame :
    let s := { State.reset with clock.phase := .frame, clock.framePhase := 99 }
    s.clock.framePhase + 1 = s.cfg.ticksPerFrame ∧ 319 < s.rdp.fbWidth ∧ 239 < s.rdp.fbHeight := by decide +kernel
theorem test_witness_ExceptionEntryWrites : statusExl start = false ∧ statusExl (withStatus 0x34000002) = true ∧
    statusBev start = false ∧ statusBev (withStatus 0x34400000) = true := by decide +kernel
/-- R800's codes, here those whose neighbours are never written. -/
theorem test_exception_codes : (enter (.addressErrorStore 1) false start).cp0.cause = 0x14 ∧
    (enter (.coprocessorUnusable 1) false start).cp0.cause = 0x1000002C ∧
    (enter .floatingPoint true start).cp0.cause = 0x8000003C := by decide +kernel
theorem test_witness_SyscallBreakAndTraps_slot : statusExl start = false ∧ { start with cpu.ds := true }.cpu.ds = true := by
  decide +kernel
theorem test_witness_SyscallBreakAndTraps :
    (gpr (two 0 0) 2).toInt ≤ (gpr (two 0 0) 1).toInt ∧ ¬(gpr (two 0 1) 2).toInt ≤ (gpr (two 0 1) 1).toInt ∧
    (gpr (two 0 1) 2).toNat > (gpr (two 0 1) 1).toNat ∧ (gpr (two 0 1) 1).toInt < (gpr (two 0 1) 2).toInt ∧
    gpr (two 0 0) 1 = gpr (two 0 0) 2 ∧ gpr (two 0 1) 1 ≠ gpr (two 0 1) 2 ∧
    ((1 : BitVec 16).signExtend 64).toNat > (gpr (two 0 1) 1).toNat := by decide +kernel
theorem test_witness_Eret : start.cpu.ds = false ∧ statusKsu start = 0 ∧
    (statusErl (withStatus 0x34000016) = true ∧ statusExl (withStatus 0x34000016) = true) ∧
    ¬(statusKsu (withStatus 0x34000014) = 0 ∨
      (statusErl (withStatus 0x34000014) = true ∧ statusExl (withStatus 0x34000014) = true)) := by decide +kernel
theorem test_witness_ControlTransferRefusals :
    isControlTransfer (.bc1t 0) = true ∧ isControlTransfer .eret = true ∧
    { start with cpu.ds := true }.cpu.ds = true ∧ statusCu1 { start with cpu.ds := true } = true ∧
    isVuBranch (.rspJ 0) = true ∧ { vuStart with vu.ds := true }.vu.ds = true ∧ start.cpu.ds = false ∧
    vuStart.vu.ds = false ∧ isControlTransfer (.j 0) = true ∧ isCp1 (.j 0) = false ∧ isCp1 (.bc1t 0) = true := by
  decide +kernel
/-- R413 needs no CU1: a jump in a delay slot is refused with CU1 clear. -/
theorem test_delay_slot_without_cu1 :
    exec (.j 0) { withStatus 0x14000000 with cpu.ds := true } = .refused .controlTransferInDelaySlot ∧
    statusCu1 (withStatus 0x14000000) = false := ⟨rfl, by decide +kernel⟩
/-- Where R413 and R418 both refuse, the delay slot is the reason recorded (notes/assumptions/21.md). -/
theorem test_witness_ControlTransferRefusals_both :
    isControlTransfer (.bltzal 31 0) = true ∧ isControlTransfer (.bgezall 31 0) = true ∧
    isControlTransfer (.jalr 2 2) = true ∧
    exec (.bgezal 31 0) { start with cpu.ds := true } = .refused .controlTransferInDelaySlot ∧
    exec (.jalr 2 2) { start with cpu.ds := true } = .refused .controlTransferInDelaySlot ∧
    exec (.jalr 2 2) start = .refused .linkRegisterIsSource := ⟨rfl, rfl, rfl, rfl, rfl, rfl⟩
theorem test_witness_ConditionalBranches : start.cpu.ds = false ∧ statusCu1 start = true ∧
    (true = true ↔ gpr (two 7 7) 1 = gpr (two 7 7) 2) ∧ (false = true ↔ gpr (two 7 8) 1 = gpr (two 7 8) 2) ∧
    (true = true ↔ (gpr (two 0 0) 1).toInt ≤ 0) ∧ (false = true ↔ (gpr (two 1 0) 1).toInt ≤ 0) ∧
    (true = true ↔ (gpr (two 0xFFFFFFFFFFFFFFFF 0) 1).toInt < 0) ∧ (false = true ↔ (gpr (two 0 0) 1).toInt < 0) ∧
    true = { start with fpu.fcr31 := 0x800000 }.fpu.fcr31.getLsbD 23 := by decide +kernel
theorem test_witness_JumpsAndLinks : start.cpu.ds = false ∧ (2 : Reg) ≠ 1 ∧ (1 : Reg) ≠ 31 ∧
    (true = true ↔ (gpr (two 0xFFFFFFFFFFFFFFFF 0) 1).toInt < 0) := by decide +kernel
theorem test_witness_AddsAndSubtracts : operands32 start [gpr (two 0x7FFFFFFF 1) 1, gpr (two 0x7FFFFFFF 1) 2] ∧
    (-(2 ^ 31) ≤ (lo32 0x7FFFFFFF).toInt + 0 ∧ (lo32 0x7FFFFFFF).toInt + 0 < 2 ^ 31) ∧
    ¬((lo32 0x7FFFFFFF).toInt + 1 < 2 ^ 31) ∧ ¬(-(2 ^ 31) ≤ (lo32 0x80000000).toInt - 1) :=
  ⟨.inl rfl, by decide, by decide, by decide⟩
theorem test_witness_AddsAndSubtracts_doublewords :
    (-(2 ^ 63) ≤ (0x7FFFFFFFFFFFFFFF : Dword).toInt + 0 ∧ (0x7FFFFFFFFFFFFFFF : Dword).toInt + 0 < 2 ^ 63) ∧
    ¬((0x7FFFFFFFFFFFFFFF : Dword).toInt + 1 < 2 ^ 63) ∧
    ¬(-(2 ^ 63) ≤ (0x8000000000000000 : Dword).toInt - 1) := by decide
theorem test_witness_ShiftsAndMultiply :
    (0xFFFFFFFF80000000 : Dword) = sext32 (lo32 0xFFFFFFFF80000000) ∧ (31 : Dword) = sext32 (lo32 31) ∧ start.cfg.nonSext32 = .low32 := by
  decide +kernel
theorem test_witness_NonSignExtended : { start with cfg.nonSext32 := .refuse }.cfg.nonSext32 = .refuse ∧
    gpr (two 0x80000000 0x100000000) 1 ≠ sext32 (lo32 (gpr (two 0x80000000 0x100000000) 1)) ∧
    gpr (two 0x80000000 0x100000000) 2 ≠ sext32 (lo32 (gpr (two 0x80000000 0x100000000) 2)) := by decide +kernel
theorem test_witness_Divide : lo32 1 ≠ 0 ∧ (1 : Dword) ≠ 0 ∧ lo32 0x100000000 = 0 ∧ start.cfg.div0 = .vr4300 ∧
    { start with cfg.div0 := .supplied }.cfg.div0 = .supplied ∧ { start with cfg.div0 := .refuse }.cfg.div0 = .refuse := by
  decide +kernel
theorem test_witness_TranslationOfSegments : statusKx (withStatus 0x34000080) = true ∧ statusKx start = false ∧
    (0x0000000080000000 : Dword) ≠ sext32 (lo32 0x0000000080000000) ∧ sext32 0x7FFFFFFF = 0x7FFFFFFF ∧
    (0x7FFFFFFF : Word).toNat < 0x80000000 ∧ 0x80000000 ≤ (0x80000000 : Word).toNat ∧
    (0xBFFFFFFF : Word).toNat < 0xC0000000 ∧ 0xC0000000 ≤ (0xC0000000 : Word).toNat := by decide +kernel
theorem test_translation_boundaries :
    translateVa start .load 0xFFFFFFFF80000000 = .physical 0 ∧
    translateVa start .load 0xFFFFFFFF9FFFFFFF = .physical 0x1FFFFFFF ∧
    translateVa start .load 0xFFFFFFFFA0000000 = .physical 0 ∧
    translateVa start .load 0xFFFFFFFFC0000000 = .refusal (.tlbMappedSegment .ksseg) ∧
    translateVa start .load 0xFFFFFFFFDFFFFFFF = .refusal (.tlbMappedSegment .ksseg) ∧
    translateVa start .load 0xFFFFFFFFE0000000 = .refusal (.tlbMappedSegment .kseg3) ∧
    translateVa start .load 0x7FFFFFFF = .refusal (.tlbMappedSegment .kuseg) ∧
    translateVa (withStatus 0x34000004) .load 0x7FFFFFFF = .physical 0x7FFFFFFF := by decide +kernel
theorem test_witness_BusReadsAndWrites :
    region .mib4 0 = .memory ∧ region .mib4 0x3FFFFF = .memory ∧ region .mib4 0x400000 = .unmapped ∧
    region .mib8 0x400000 = .memory ∧ region .mib4 0x04001FFF = .memory ∧ region .mib4 0x04002000 = .unmapped ∧
    region .mib4 0x10000000 = .rom ∧ region .mib4 0x1FC00000 = .zeroRom ∧ region .mib4 0x1FC007C0 = .memory ∧
    region .mib4 0x0430000C = .registers .mi 0x0C ∧ (0x0430000C : Word).toNat % 4 = 0 ∧
    region .mib4 0x0404001F = .registers .sp 0x1F ∧ (0x0404001E : Word).toNat % 2 = 0 ∧
    region .mib4 0x1FBFFFFF = .rom ∧ (0x10000FFF - 0x10000000 : Nat) < start.cfg.romSize ∧
    ¬((0x10001000 - 0x10000000 : Nat) < start.cfg.romSize) ∧ RegGroup.spPc ≠ .sp := by decide +kernel
theorem test_witness_Loads : translateVa (access 0xFFFFFFFF80000108) .load (gpr (access 0xFFFFFFFF80000108) 1 + 0) =
      .physical 0x108 ∧ (0xFFFFFFFF80000108 : Dword).toNat % 8 = 0 ∧ (0xFFFFFFFF8000010A : Dword).toNat % 2 = 0 ∧
    (0xFFFFFFFF8000010C : Dword).toNat % 4 = 0 := by decide +kernel
theorem test_witness_Stores : translateVa (access 0xFFFFFFFFA430000C) .store (gpr (access 0xFFFFFFFFA430000C) 1 + 0) =
      .physical 0x0430000C ∧ region start.cfg.rdramSize 0x0430000C = .registers .mi 0x0C ∧
    translateVa start .store 0xFFFFFFFFB0000000 = .physical 0x10000000 ∧
    region start.cfg.rdramSize 0x10000000 = .rom ∧ (0xFFFFFFFF80000108 : Dword).toNat % 8 = 0 := by decide +kernel
theorem test_witness_AddressErrors : dataAccess (.lwc1 2 4 1) = some (4, .load, 1, 4) ∧ isCp1 (.lwc1 2 4 1) = true ∧
    statusCu1 start = true ∧ dataAccess (.sdc1 1 4 1) = some (8, .store, 1, 4) ∧ (0xFFFFFFFF80000101 : Dword).toNat % 4 ≠ 0 ∧
    statusKx start = false ∧ (0x0000000180000000 : Dword) ≠ sext32 (lo32 0x0000000180000000) ∧
    translateVa start .load 0 = .refusal (.tlbMappedSegment .kuseg) := by decide +kernel
theorem test_witness_AddressErrors_usable : fprUsable start .d 1 := .inr (.inr (.inl rfl))
theorem test_witness_UnalignedAccesses :
    translateVa (access 0xFFFFFFFF80000103) .load 0xFFFFFFFF80000103 = .physical 0x103 ∧ 0x103 % 4 = 3 ∧ 0x107 % 8 = 7 ∧
    translateVa (access 0xFFFFFFFF80000103) .store 0xFFFFFFFFA4300007 = .physical 0x04300007 ∧
    region start.cfg.rdramSize (0x04300007 / 4 * 4) = .registers .mi 4 := by decide +kernel
theorem test_witness_LoadLinked : start.cpu.llbit = false ∧ { start with cpu.llbit := true }.cpu.llbit = true ∧
    translateVa start .store 0xFFFFFFFF80000108 = .physical 0x108 ∧ region start.cfg.rdramSize 0x108 = .memory := by
  decide +kernel
theorem test_witness_LoadLinked_write : (memWrite start 0x108 8 5).toOption.isSome = true := rfl
theorem test_witness_Cp0Moves : ((7 : Reg).toNat ≤ 7 ∧ 20 ≤ (20 : Reg).toNat ∧ (29 : Reg).toNat ≤ 29) ∧
    ((12 : Reg) ≠ 2 ∧ (12 : Reg) ≠ 3 ∧ (12 : Reg) ≠ 4 ∧ (12 : Reg) ≠ 8 ∧ (12 : Reg) ≠ 10 ∧ (12 : Reg) ≠ 14 ∧
      (12 : Reg) ≠ 20 ∧ (12 : Reg) ≠ 30) ∧
    (0x34000000 : Word).extractLsb' 3 2 = 0 ∧ ¬((0x34000010 : Word).extractLsb' 3 2 = 0) ∧
    (0x34000012 : Word).getLsbD 1 = true ∧ (4 : Word).extractLsb' 0 2 = 0 ∧ (1 : Word).extractLsb' 0 2 ≠ 0 := by decide
theorem test_witness_FpuMovesLoadsAndStores : statusCu1 start = true ∧
    ¬((0x0183007F &&& 0x0183FFFF : Word).getLsbD 17 = true ∧ True) = (¬True) ∧ (0x00020000 : Word).getLsbD 17 = true ∧
    ((0x00008400 : Word).extractLsb' 12 5 &&& (0x00008400 : Word).extractLsb' 7 5) ≠ 0 ∧
    ¬((0x00008000 : Word).getLsbD 17 = true ∨
      ((0x00008000 : Word).extractLsb' 12 5 &&& (0x00008000 : Word).extractLsb' 7 5) ≠ 0) ∧
    (1 : Reg) ≠ 0 ∧ (30 : Reg) ≠ 31 := by decide +kernel
theorem test_witness_FprUsable : fprUsable start .d 1 ∧ fprUsable (withStatus 0x30000000) .d 2 ∧
    ¬fprUsable (withStatus 0x30000000) .d 1 ∧ statusCu1 (withStatus 0x30000000) = true :=
  ⟨.inr (.inr (.inl rfl)), .inr (.inr (.inr rfl)), by unfold fprUsable; decide +kernel, rfl⟩
theorem test_witness_FpuMovesLoadsAndStores_access : translateVa start .load 0xFFFFFFFF80000108 = .physical 0x108 ∧
    translateVa start .store 0xFFFFFFFF80000108 = .physical 0x108 ∧ (0xFFFFFFFF80000108 : Dword).toNat % 8 = 0 := by
  decide +kernel
/-- The three ways R574 ends: a result, an enabled exception, an unimplemented operation (a denormal operand). -/
theorem test_witness_FpuArithmetic : start.cfg.fpop = .ieee ∧
    (fpop start .add .s .s 0 0x3F800000 0x40000000).isSome = true ∧
    fpuUnimpl start .add .s .s 0 0x3F800000 0x40000000 = false ∧ fpuUnimpl start .add .s .s 0 1 0 = true ∧
    (8 : BitVec 5) &&& fcrEnable 0x400 ≠ 0 ∧ (8 : BitVec 5) &&& fcrEnable 0 = 0 := by decide +kernel
/-- R575 at its boundaries: 2^31 and -2^31 to W, the largest denormal result, FS. -/
theorem test_witness_FpuArithmetic_unimplemented : start.cfg.fpuUnimpl = .vr4300 ∧
    fpuUnimpl start .cvt .s .w 0 0x4F000000 0 = true ∧ fpuUnimpl start .cvt .s .w 0 0xCF000000 0 = false ∧
    fpuUnimpl start .cvt .s .l 0 0x7FC00000 0 = true ∧ fpuUnimpl start .mul .s .s 0 0x00800000 0x3F7FFFFE = true ∧
    fpuUnimpl start .abs .s .s 0 0x007FFFFF 0 = true ∧
    (let s := { start with fpu.fcr31 := 0x01000000 }
     s.fpu.fcr31.getLsbD 24 = true ∧ fpuUnimpl s .mul .s .s 0 0x00800000 0x3F7FFFFE = false) := by decide +kernel
/-- A product that rounds to 0 is neither declined nor flushed (notes/assumptions/39.md): 0 with U and I. -/
theorem test_rounds_to_zero : fpuUnimpl start .mul .s .s 0 0x00800000 0x00800000 = false ∧
    fpopIeee .mul .s .s 0 false 0x00800000 0x00800000 = (0, 3) ∧
    fpopIeee .mul .s .s 0 true 0x00800000 0x00800000 = (0, 3) := by decide +kernel
theorem test_witness_FpopRoundsCorrectly :
    expField .s 0x3F800000 < expTop .s ∧ expField .d 0x7FEFFFFFFFFFFFFF < expTop .d ∧ ¬(expField .s 0x7F800000 < expTop .s) ∧
    (let r := fpopIeee .mul .s .s 0 false 0x00800000 0x3F000000
     expField .s r.1 = 0 ∧ fracField .s r.1 ≠ 0) := by decide +kernel
theorem test_witness_FpopRoundsCorrectly_number : fpNumber .s 0x3F800000 = 1 ∧ fpNumber .s 0xBF800000 = -1 ∧
    (2 : ℝ) ^ (0 : ℤ) ≤ |(1 : ℝ)| ∧ |(1 : ℝ)| < (2 : ℝ) ^ ((0 : ℤ) + 1) := by
  have e : expField .s 0x3F800000 = 127 := by decide +kernel
  have e' : expField .s 0xBF800000 = 127 := by decide +kernel
  have m : fracField .s 0x3F800000 = 0 := by decide +kernel
  have m' : fracField .s 0xBF800000 = 0 := by decide +kernel
  have n : signField .s 0x3F800000 = false := by decide +kernel
  have n' : signField .s 0xBF800000 = true := by decide +kernel
  refine ⟨?_, ?_, ?_, ?_⟩ <;> norm_num [fpNumber, fpMagnitude, e, e', m, m', n, n', expBias, fracBits]
/-- R63's modes on 2.5, of either sign. -/
theorem test_witness_FpopRoundsCorrectly_multiple : roundsToMultiple 0 false (5 / 2) 1 2 ∧
    roundsToMultiple 1 true (5 / 2) 1 2 ∧ roundsToMultiple 2 false (5 / 2) 1 3 ∧ roundsToMultiple 2 true (5 / 2) 1 2 ∧
    roundsToMultiple 3 true (5 / 2) 1 3 ∧ ¬roundsToMultiple 0 false (5 / 2) 1 3 := by
  refine ⟨?_, ?_, ?_, ?_, ?_, ?_⟩ <;> norm_num [roundsToMultiple, abs_of_neg, abs_of_pos] <;> decide
theorem test_witness_FpopIsIeee :
    (expField .s 0x7F800001 = expTop .s ∧ fracField .s 0x7F800001 ≠ 0) ∧
    (expField .d 0x7FF8000000000000 = expTop .d ∧ 2 ^ (fracBits .d - 1) ≤ fracField .d 0x7FF8000000000000) ∧
    (expField .s 0xFF800000 = expTop .s ∧ fracField .s 0xFF800000 = 0) ∧
    (expField .s 0x80000000 = 0 ∧ fracField .s 0x80000000 = 0) ∧
    (expField .s 0x80000001 < expTop .s ∧ ¬(expField .s 0x80000001 = 0 ∧ fracField .s 0x80000001 = 0) ∧
      (0x80000001 : Dword).getLsbD (signPos .s) = true) ∧
    (expField .s 0x3F800000 < expTop .s ∧ expField .d 0 < expTop .d) ∧ (-1 : Int) < 0 := by
  decide +kernel
/-- The order of IEEE 754 at its ends: -infinity below the least number, the two zeros equal, infinity above all numbers. -/
theorem test_compare_order : fpCompareIeee .s 0 0xFF800000 0xFF7FFFFF = (true, false, false, 0) ∧
    fpCompareIeee .s 0 0x80000000 0 = (false, true, false, 0) ∧
    fpCompareIeee .d 0 0x7FF0000000000000 0x7FEFFFFFFFFFFFFF = (false, false, false, 0) ∧
    fpCompareIeee .d 0 0xFFF0000000000000 0x7FF0000000000000 = (true, false, false, 0) ∧
    fpCompareIeee .d 0 0x7FF0000000000000 0x7FF0000000000000 = (false, true, false, 0) := by decide +kernel
theorem test_witness_Coprocessor1NeedsCu1 : isCp1 (.sdc1 0 0 0) = true ∧ isCp1 (.bc1t 0) = true ∧
    statusCu1 (withStatus 0x14000000) = false := by decide +kernel
theorem test_witness_VectorUnitBranches : vuStart.vu.ds = false ∧ (2 : Reg) ≠ 1 ∧ (1 : Reg) ≠ 31 ∧
    (true = true ↔ sr (scalars [(1, 7), (2, 7)] vuStart) 1 = sr (scalars [(1, 7), (2, 7)] vuStart) 2) ∧
    (true = true ↔ (sr (scalars [(1, 0)] vuStart) 1).toInt ≤ 0) ∧
    (true = true ↔ (sr (scalars [(1, 0xFFFFFFFF)] vuStart) 1).toInt < 0) := by decide +kernel
theorem test_witness_VectorUnitMoves : (15 : Reg).toNat < 16 ∧ 16 ≤ (16 : Reg).toNat ∧ 3 ≤ (3 : Reg).toNat ∧
    ((0 : Reg) = 0 ∧ { vuStart with vu.vco := (sr vuStart 1).setWidth 8 } =
      { vuStart with vu.vco := (sr vuStart 1).setWidth 8 }) := by decide +kernel
theorem test_witness_VectorUnitLeavesCpuAlone : Instr.rspVnop.agent = .vectorUnit ∧
    exec .rspVnop vuStart = .next (vuRetireSeq vuStart) := ⟨rfl, rfl⟩
theorem test_witness_SetCommands : ((319#56 <<< 32).extractLsb' 32 10).toNat + 1 = State.reset.rdp.fbWidth ∧
    ((639#56 <<< 32).extractLsb' 32 10).toNat + 1 ≠ State.reset.rdp.fbWidth := by decide +kernel
theorem test_witness_FillRectangle : 319 < State.reset.rdp.fbWidth ∧ 239 < State.reset.rdp.fbHeight ∧
    State.reset.rdp.fbWidth * State.reset.rdp.fbHeight ≤ 76800 := by decide +kernel
theorem test_witness_Triangles : State.reset.cfg.triDecode = .refuse ∧
    { State.reset with cfg.triDecode := .supplied }.cfg.triDecode = .supplied ∧ (0x08 : BitVec 8).getLsbD 0 = false ∧
    State.reset.rdp.fbWidth * State.reset.rdp.fbHeight ≤ 76800 := by decide +kernel
/-- A vertex at (x, y) of depth z and every colour 255/2. -/
def vertexAt (x y z : Rat) : Vertex :=
  { x := x, y := y, z := z, r := 255 / 2, g := 255 / 2, b := 255 / 2, a := 255 / 2, s := 0, t := 0, w := 1 }

/-- Three vertices, two of one y, and the order R1012 draws them in. -/
theorem test_witness_Triangles_order :
    sortsByY (fun k => if k = 0 then vertexAt 0 4 0 else if k = 1 then vertexAt 0 0 0 else vertexAt 4 0 0)
      (fun k => if k = 0 then 1 else if k = 1 then 2 else 0) := by unfold sortsByY; decide +kernel

/-- Its top left corner is covered, its right and its bottom edge are not (R1012). -/
theorem test_witness_Triangles_cover :
    let p := coveringPoint (vertexAt 0 0 8) (vertexAt 4 0 8) (vertexAt 0 4 8)
    (p 0 0).isSome = true ∧ (p 1 2).isSome = true ∧ p 4 0 = none ∧ p 0 4 = none ∧
      (p 1 2).map Vertex.z = some 8 ∧ max 0 (min 0xFFFFFFFF (Rat.floor 8)) < ((0xFFFFFFFF : Word).toNat : Int) ∧
      ¬(max 0 (min 0xFFFFFFFF (Rat.floor 8)) < ((8 : Word).toNat : Int)) := by decide +kernel
theorem test_witness_FlushCutsTheStream :
    { State.reset with clock.phase := .flush }.clock.phase = .flush ∧ State.reset.refused = none := ⟨rfl, rfl⟩
theorem test_witness_TimerPollAndInterruptController : start.cpu.countPhase + 1 ≠ start.cfg.countDiv ∧
    { start with cpu.countPhase := 1 }.cpu.countPhase + 1 = start.cfg.countDiv ∧
    (let s := { start with cp0.status := 0x34008001, cp0.cause := 0x8000 }
     statusIe s = true ∧ statusExl s = false ∧ statusErl s = false ∧ s.cp0.cause.getLsbD 15 = true ∧
      statusBit s (8 + 7) = true) ∧
    (let s := { start with cp0.status := 0x34000401, mi.intr := 8, mi.mask := 8 }
     statusIe s = true ∧ (s.mi.intr &&& s.mi.mask) ≠ 0 ∧ statusBit s (8 + 2) = true) ∧
    ¬(statusIe start = true) := by decide +kernel
theorem test_witness_DeviceRegisters : (∀ q ∈ State.reset.dma, q.owner ≠ .ai) ∧
    (let q : DmaRequest := { owner := .ai, src := .rdram 0, dst := .audio, len := 8, rows := 1, skip := 0, deadline := 1 }
     { State.reset with dma := [q] }.dma = [] ++ q :: [] ∧ q.owner = .ai) := ⟨nofun, rfl, rfl⟩
/-- DPC_END submits the words between DPC_CURRENT and it (R177), here from DMEM. -/
theorem test_dpc_end_submits :
    (spWrite (dpWrite (poke 0x04000008 8 0x2900000000000000 { start with rdp.xbus := true, rdp.dpcCurrent := 8 }) 4 16)
      0x1C 0).rdp.stream = [0x2900000000000000] := by decide +kernel
theorem test_witness_DmaCopies :
    let q : DmaRequest := {
      owner := .sp, src := .spMem true 0xFF8, dst := .rdram 0x3FFFF8, len := 8, rows := 2, skip := 8, deadline := 0 }
    (0x3FFFF8 : Word).toNat + q.rows * (q.len + q.skip) ≤ 0x04000000 ∧ q.dst = .rdram 0x3FFFF8 ∧
    0x3FFFF8 + 0 < rdramBytes .mib4 ∧ ¬(0x3FFFF8 + 16 < rdramBytes .mib4) ∧
    { q with src := .rdram 0x3FFFF8, dst := .spMem false 0xFF8 }.src = .rdram 0x3FFFF8 ∧
    { q with src := .rdram 0x3FFFF8, dst := .pif, rows := 1 }.rows = 1 := by decide +kernel
theorem test_witness_DmaCopies_rom :
    let q : DmaRequest := {
      owner := .pi, src := .cart 0x1FBFFFF8, dst := .rdram 0, len := 8, rows := 1, skip := 0, deadline := 0 }
    q.rows * q.len = 8 ∧ region .mib4 (0x1FBFFFF8 + BitVec.ofNat 32 (7 / q.len * (q.len + q.skip) + 7 % q.len)).toNat =
      .rom := by decide +kernel
theorem test_witness_DmaRequests :
    busy State.reset .pi = false ∧ busy { State.reset with busy.sp := true } .sp = true ∧ (1 : Word) ≠ 0 ∧
    (8 : Word) &&& 0x3FFF8 ≠ 0 ∧ (7 : Word) &&& 0x3FFF8 = 0 := by decide +kernel
theorem test_witness_DmaRequests_completion :
    let q : DmaRequest := { owner := .pi, src := .cart 0x10000000, dst := .rdram 0, len := 1, rows := 1, skip := 0, deadline := 1 }
    let late : DmaRequest := { q with owner := .si, deadline := 2 }
    let s := { State.reset with clock.phase := .dma, clock.tick := 1, dma := [late, q], busy.pi := true, busy.si := true }
    s.refused = none ∧ s.clock.phase = .dma ∧ s.dma = [late] ++ q :: [] ∧ (∀ r ∈ [late], s.clock.tick < r.deadline) ∧
      q.deadline ≤ s.clock.tick ∧ (dmaCopy q s).toOption.isSome = true :=
  ⟨rfl, rfl, rfl, by decide, by decide, rfl⟩
/-- No request that a register write makes has a copy that is refused; one to a register group would be. -/
theorem test_witness_DmaRequests_refusal :
    let q : DmaRequest := { owner := .pi, src := .pif, dst := .rdram 0x04300000, len := 1, rows := 1, skip := 0, deadline := 1 }
    (match dmaCopy q State.reset with
      | .ok _ => false
      | .error why => why == .subWordRegisterWrite) = true := by decide +kernel
theorem test_witness_SaveStatesResumeTheRun : start.cfg = State.reset.cfg ∧
    step State.reset = .next (tickBegin State.reset) ∧
    refuses (step (poke 0x400 4 0x42000002 start)) .tlbNotModelled = true := ⟨rfl, rfl, by decide +kernel⟩
theorem test_witness_StepKeepsStoresCanonical : Canonical State.reset ∧
    step State.reset = .next (tickBegin State.reset) := ⟨⟨rfl, rfl, rfl, rfl⟩, rfl⟩
theorem test_witness_StepKeepsMachineSane : Sane State.reset where
  status := by decide +kernel
  mode := by decide +kernel
  cause := by decide +kernel
  config := by decide +kernel
  watchLo := by decide +kernel
  watchHi := by decide +kernel
  fcr31 := by decide +kernel
  pending := fun h => absurd rfl h
  vuPending := fun h => absurd rfl h
  vuPc := by decide +kernel
  vuTarget := fun _ h => nomatch h
  countPhase := by decide +kernel
  framePhase := by decide +kernel
theorem test_witness_StepKeepsBusyBitsTrue : BusyMatches State.reset := by
  intro o
  cases o <;> rfl
/-- R903 and R906 at their bounds, and a byte of the boot copy. -/
theorem test_witness_ResetAndBoot :
    romValid { defaultConfig with romSize := 0xFFF } = false ∧
    romValid { defaultConfig with bootCopyLen := 1, romSize := 0x3F } = false ∧
    romValid { defaultConfig with bootCopyLen := 1, romSize := 0x40 } = true ∧
    Memory.byte (bootMemory { defaultConfig with rom := [(0x40, 0xAB), (0x41, 0xCD)], bootCopyLen := 0x41 }) 0x04000040
      = 0xAB ∧
    Memory.byte (bootMemory { defaultConfig with rom := [(0x40, 0xAB), (0x41, 0xCD)], bootCopyLen := 0x41 }) 0x04000041
      = 0 ∧
    kernelMode State.reset = true := by decide +kernel

end Sys2Proof.Tests
end

section
/-! PROOFS. ERET, SYNC and CACHE (spec/44_system_cp0.md R540, R541, R550, R551; spec/60_exceptions.md R824). -/

namespace Sys2Proof.Machine

/-! ## One bit of a register written -/

/-- Every bit of a vector after bit `k` was written. -/
theorem getLsbD_setBit {w : Nat} (v : BitVec w) (k : Nat) (b : Bool) (j : Nat) :
    (setBit v k b).getLsbD j = if j = k then decide (k < w) && b else v.getLsbD j := by
  have hset : setBit v k b = if b then v ||| BitVec.twoPow w k else v &&& ~~~BitVec.twoPow w k := rfl
  have hlt : v.getLsbD j = true → j < w := v.lt_of_getLsbD
  rw [hset]
  rcases eq_or_ne j k with rfl | hne
  · cases b
    · simp
    · simpa using hlt
  · cases b
    · simpa [hne, hne.symm] using hlt
    · simp [hne, hne.symm]

/-- Every bit of a vector after bit `k` was cleared. -/
theorem getLsbD_setBit_false {w : Nat} (v : BitVec w) (k j : Nat) :
    (setBit v k false).getLsbD j = (v.getLsbD j && j != k) := by
  rw [getLsbD_setBit]
  by_cases h : j = k <;> simp [h]

/-- A field that does not hold bit `k` reads the same after a write of that bit. -/
theorem extractLsb'_setBit {w : Nat} (v : BitVec w) {k start len : Nat} (b : Bool) (h : k < start ∨ start + len ≤ k) :
    (setBit v k b).extractLsb' start len = v.extractLsb' start len := by
  apply BitVec.eq_of_getLsbD_eq
  intro i hi
  have hne : start + i ≠ k := by omega
  simp [BitVec.getLsbD_extractLsb', getLsbD_setBit, hne]

/-! ## Instructions without an effect (R550, R551) -/

/-- An instruction whose meaning is to retire has no effect. -/
theorem hasNoEffect_of_exec_eq_seq {i : Instr} {s : State} (h : exec i s = seq s) : hasNoEffect i s :=
  ⟨retireSeq s, h, ⟨rfl, fun _ => rfl⟩, rfl, rfl, rfl⟩

/-- A word of format SC with SYNC's funct is SYNC, whatever its code (R247, R550). -/
theorem decodeCpu_sync (cu1 cu2 cu3 : Bool) (bits : BitVec 20) :
    decodeCpu cu1 cu2 cu3 (wordSc bits 0x0F) = .ok .sync := by
  simp [decodeCpu, cpuTable, cpuSpecial]

/-- A word of format I with CACHE's opcode is CACHE, its operation in rt and its base in rs (R246, R551). -/
theorem decodeCpu_cache (cu1 cu2 cu3 : Bool) (op : BitVec 5) (offset : BitVec 16) (base : Reg) :
    decodeCpu cu1 cu2 cu3 (wordI 47 base op offset) = .ok (.cache op offset base) := by
  simp [decodeCpu, cpuTable]

/-! ## ERET (R540) -/

/-- ERET's writes clear ERL if it was set and EXL otherwise, and no other bit of Status. -/
theorem statusBit_eretEffects (s : State) (k : Nat) :
    statusBit (eretEffects s) k = (statusBit s k && if statusErl s then k != 2 else k != 1) := by
  cases herl : statusErl s <;> simp [statusBit, eretEffects, herl, getLsbD_setBit_false]

/-- They leave KSU alone. -/
@[simp] theorem statusKsu_eretEffects (s : State) : statusKsu (eretEffects s) = statusKsu s := by
  simp only [statusKsu, eretEffects, eretClearMi_cp0]
  split <;> exact extractLsb'_setBit _ _ (by decide)

/-- The mode ERET leaves is kernel mode exactly with KSU = 0 or with EXL still set below ERL (R870). -/
theorem kernelMode_eretEffects (s : State) :
    kernelMode (eretEffects s) = true ↔ statusKsu s = 0 ∨ (statusErl s = true ∧ statusExl s = true) := by
  have hexl : statusExl (eretEffects s) = (statusErl s && statusExl s) := by
    simp only [statusExl, statusBit_eretEffects]
    cases statusErl s <;> simp
  have herl : statusErl (eretEffects s) = false := by
    rw [statusErl, statusBit_eretEffects, ← statusErl]
    cases statusErl s <;> simp
  simp [kernelMode, hexl, herl]

/-- Outside a delay slot and with kernel mode left, ERET retires its writes at the saved address. -/
theorem exec_eret_of_kernelMode {s : State} (hds : s.cpu.ds = false) (h : kernelMode (eretEffects s) = true) :
    exec .eret s = .next (retireEret (eretTarget s) (eretEffects s)) := by
  have hexec : exec .eret s = controlTransfer s (exceptionReturn s) := rfl
  simp [hexec, controlTransfer, hds, exceptionReturn, modeCheck, h]

/-- Outside a delay slot and with another mode left, ERET is refused (R870). -/
theorem exec_eret_of_not_kernelMode {s : State} (hds : s.cpu.ds = false) (h : ¬kernelMode (eretEffects s) = true) :
    exec .eret s = .refused .userOrSupervisorMode := by
  have hexec : exec .eret s = controlTransfer s (exceptionReturn s) := rfl
  simp [hexec, controlTransfer, hds, exceptionReturn, modeCheck, h]

/-- ERET changes the pipeline, Status, LLbit and the MI pending bits alone (R541). -/
theorem retireEret_eretEffects_frame (s : State) (pc : Dword) :
    backPipeline s { retireEret pc (eretEffects s) with
      cp0.status := s.cp0.status, cpu.llbit := s.cpu.llbit, mi.intr := s.mi.intr } = s := rfl

/-! ## The statements -/

/-- Settles O12: the mode check passes exactly in the first case, and then ERET retires `eretEffects`. -/
theorem eretReturnsToSavedAddress : Obligations.EretReturnsToSavedAddress := by
  intro s hds
  rw [← kernelMode_eretEffects]
  refine ⟨fun hk => ⟨_, exec_eret_of_kernelMode hds hk, rfl, rfl, rfl, fun k => ?_, rfl, rfl,
    retireEret_eretEffects_frame s _, fun _ => rfl⟩, exec_eret_of_not_kernelMode hds⟩
  rw [statusBit_retireEret, statusBit_eretEffects]

/-- Settles O32: both words by their formats' fields, both meanings because they only retire. -/
theorem syncAndCacheHaveNoEffect : Obligations.SyncAndCacheHaveNoEffect :=
  fun bits op offset base cu1 cu2 cu3 _ =>
    ⟨decodeCpu_sync cu1 cu2 cu3 bits, decodeCpu_cache cu1 cu2 cu3 op offset base,
      hasNoEffect_of_exec_eq_seq rfl, hasNoEffect_of_exec_eq_seq rfl⟩

end Sys2Proof.Machine
end

section
/-! PROOFS. The VectorUnit leaves the CPU alone (spec/46_vector_unit.md R641). -/

namespace Sys2Proof.Machine

/-! ## Writing one bit -/

/-- The last write of a bit wins. -/
theorem setBit_setBit_same {w : Nat} (v : BitVec w) (k : Nat) (b c : Bool) :
    setBit (setBit v k b) k c = setBit v k c := by
  apply BitVec.eq_of_getLsbD_eq
  intro j _
  simp only [getLsbD_setBit]
  split <;> rfl

/-- Writing a bit as it stands changes nothing. -/
theorem setBit_getLsbD {w : Nat} (v : BitVec w) (k : Nat) : setBit v k (v.getLsbD k) = v := by
  apply BitVec.eq_of_getLsbD_eq
  intro j hj
  rw [getLsbD_setBit]
  split
  · next h => simp [h ▸ hj, h]
  · rfl

/-! ## The part of the state outside the VectorUnit's reach (R641) -/

/-- `m` with everything but SP's pending bit taken from `o`. -/
def Mi.keepSp (o m : Mi) : Mi := { o with intr := setBit o.intr 0 (m.intr.getLsbD 0) }

/-- `s` with all that no VectorUnit instruction changes or depends on taken from `o`: the CPU, CP0, the FPU, the interrupt
controller but for SP's pending bit, and the DisplayProcessor's buffers and drawing registers. -/
def withOutside (o s : State) : State :=
  { s with
    cpu := o.cpu, cp0 := o.cp0, fpu := o.fpu, mi := Mi.keepSp o.mi s.mi
    rdp.fb := o.rdp.fb, rdp.depth := o.rdp.depth, rdp.dpState := o.rdp.dpState, rdp.fillColor := o.rdp.fillColor }

/-- A result whose next state, if it is one, is replaced by `f` of it. -/
def mapNext (f : State → State) : Result → Result
  | .next s => .next (f s)
  | .fault e => .fault e
  | .refused r => .refused r

/-- A meaning that `withOutside` commutes with. With `o` any state, `m` does not depend on the outside; with `o` the state
itself, it does not change it. -/
def IgnoresOutside (m : State → Result) : Prop :=
  ∀ o s, m (withOutside o s) = mapNext (withOutside o) (m s)

theorem Mi.keepSp_self (m : Mi) : Mi.keepSp m m = m := by
  rw [Mi.keepSp, setBit_getLsbD]

/-- Every other pending bit is `o`'s. -/
theorem Mi.getLsbD_intr_keepSp (o m : Mi) {k : Nat} (h : k ≠ 0) :
    (Mi.keepSp o m).intr.getLsbD k = o.intr.getLsbD k := by
  rw [Mi.keepSp, getLsbD_setBit, if_neg h]

/-- SP's pending bit is written on either side of `keepSp` alike. -/
theorem Mi.keepSp_setBit (o m : Mi) (b : Bool) :
    { Mi.keepSp o m with intr := setBit (Mi.keepSp o m).intr 0 b } =
      Mi.keepSp o { m with intr := setBit m.intr 0 b } := by
  have hget : (setBit m.intr 0 b).getLsbD 0 = b := getLsbD_setBit m.intr 0 b 0
  simp only [Mi.keepSp, setBit_setBit_same, hget]

/-- SP's pending bit reads as it stands. -/
theorem Mi.getLsbD_zero_intr_keepSp (o m : Mi) : (Mi.keepSp o m).intr.getLsbD 0 = m.intr.getLsbD 0 :=
  getLsbD_setBit o.intr 0 _ 0

theorem Mi.keepSp_keepSp (o p m : Mi) : Mi.keepSp o (Mi.keepSp p m) = Mi.keepSp o m := by
  rw [Mi.keepSp, Mi.getLsbD_zero_intr_keepSp]
  rfl

theorem withOutside_self (s : State) : withOutside s s = s := by
  rw [withOutside, Mi.keepSp_self]

/-! ## Control transfers and BREAK -/

/-- Whether a branch is in a delay slot is the VectorUnit's own state (R634). -/
theorem vuControlTransfer_ignoresOutside {m : State → Result} (hm : IgnoresOutside m) :
    IgnoresOutside fun s => vuControlTransfer s (m s) := by
  intro o s
  have hds : (withOutside o s).vu.ds = s.vu.ds := rfl
  simp only [vuControlTransfer, hds, hm o s]
  split <;> rfl

theorem vuLinkNotSource_ignoresOutside {m : State → Result} (clash : Bool) (hm : IgnoresOutside m) :
    IgnoresOutside fun s => vuLinkNotSource clash (m s) := by
  intro o s
  cases clash
  · exact hm o s
  · rfl

/-- BREAK can raise SP's interrupt, and no other (R637). -/
theorem vuBreak_withOutside (o s : State) : vuBreak (withOutside o s) = withOutside o (vuBreak s) := by
  have hraise := Mi.keepSp_setBit o.mi s.mi true
  unfold vuBreak
  by_cases h : s.sp.intrOnBreak
  · simp [withOutside, h, miRaise, miBit, hraise]
  · simp [withOutside, h]

/-! ## Vector transfers -/

theorem loadImage_withOutside (o s : State) (a : Word) (e : Nat) (v : Vector Half 8) (n : Nat) :
    loadImage (withOutside o s) a e v n = loadImage s a e v n := by
  induction n with
  | zero => rfl
  | succ n ih => rw [loadImage, loadImage, ih]; rfl

theorem storeImage_withOutside (o s : State) (a : Word) (e : Nat) (v : Vector Half 8) (n : Nat) :
    storeImage (withOutside o s) a e v n = withOutside o (storeImage s a e v n) := by
  induction n with
  | zero => rfl
  | succ n ih => rw [storeImage, storeImage, ih]; rfl

theorem vectorLoad_ignoresOutside (n : Nat) (a : Word) (vt : Reg) (e : BitVec 4) :
    IgnoresOutside (vectorLoad n a vt e) := by
  intro o s
  rw [vectorLoad, loadImage_withOutside]
  rfl

theorem vectorStore_ignoresOutside (n : Nat) (a : Word) (vt : Reg) (e : BitVec 4) :
    IgnoresOutside (vectorStore n a vt e) := by
  intro o s
  rw [vectorStore, storeImage_withOutside]
  rfl

/-! ## The registers behind MFC0 and MTC0 (R687, R688) -/

/-- A coprocessor-0 register of the VectorUnit is a word of SP's or of the DisplayProcessor's. -/
theorem vuCop0Address_range {rd : Reg} {pa : Word} (h : vuCop0Address rd = some pa) :
    (0x04040000 ≤ pa.toNat ∧ pa.toNat < 0x04040020) ∨ (0x04100000 ≤ pa.toNat ∧ pa.toNat < 0x04100020) := by
  have hall : ∀ r : Reg, (vuCop0Address r).all (fun p =>
      (0x04040000 ≤ p.toNat ∧ p.toNat < 0x04040020) ∨ (0x04100000 ≤ p.toNat ∧ p.toNat < 0x04100020)) = true := by
    decide
  simpa [h] using hall rd

/-- The bus finds SP's or the DisplayProcessor's registers there (R687). -/
theorem region_vuCop0Address {rd : Reg} {pa : Word} (size : RdramSize) (h : vuCop0Address rd = some pa) :
    (∃ off, region size pa.toNat = .registers .sp off) ∨ ∃ off, region size pa.toNat = .registers .dp off := by
  have hram : rdramBytes size ≤ 0x800000 := by cases size <;> decide
  rcases vuCop0Address_range h with hsp | hdp
  · exact .inl ⟨_, by rw [region, if_neg (by omega), if_neg (by omega), if_pos hsp]⟩
  · exact .inr ⟨_, by
      rw [region, if_neg (by omega), if_neg (by omega), if_neg (by omega), if_neg (by omega), if_pos hdp]⟩

/-- A word read of one of those registers sees nothing of the outside. -/
theorem memRead_vuCop0Address (o s : State) {rd : Reg} {pa : Word} (h : vuCop0Address rd = some pa) :
    memRead (withOutside o s) pa 4 = ((memRead s pa 4).1, withOutside o (memRead s pa 4).2) := by
  have hcfg : (withOutside o s).cfg = s.cfg := rfl
  have heffect (g : RegGroup) (off : Nat) :
      regReadEffect (withOutside o s) g off = withOutside o (regReadEffect s g off) := by
    unfold regReadEffect
    split <;> rfl
  rcases region_vuCop0Address s.cfg.rdramSize h with ⟨off, hr⟩ | ⟨off, hr⟩ <;>
    simp only [memRead, memReadSmall, hcfg, hr, heffect] <;> rfl

theorem startDma_withOutside (o s : State) (w : DmaOwner) (src dst : DmaPlace) (len rows skip : Nat) :
    startDma (withOutside o s) w src dst len rows skip = withOutside o (startDma s w src dst len rows skip) := by
  have hbusy : busy (withOutside o s) w = busy s w := by cases w <;> rfl
  cases h : busy s w
  · rw [startDma_free _ _ _ _ _ h, startDma_free _ _ _ _ _ (hbusy.trans h)]
    cases w <;> rfl
  · rw [startDma_busy _ _ _ _ _ h, startDma_busy _ _ _ _ _ (hbusy.trans h)]

theorem spStatusWrite_withOutside (o s : State) (v : Word) :
    spStatusWrite (withOutside o s) v = withOutside o (spStatusWrite s v) := by
  have hmi := Mi.keepSp_setBit o.mi s.mi (clearSet (s.mi.intr.getLsbD 0) (v.getLsbD 3) (v.getLsbD 4))
  rw [← Mi.getLsbD_zero_intr_keepSp o.mi s.mi] at hmi
  unfold spStatusWrite withOutside
  rw [hmi, Mi.getLsbD_zero_intr_keepSp]

theorem spWrite_withOutside (o s : State) (off : Nat) (v : Word) :
    spWrite (withOutside o s) off v = withOutside o (spWrite s off v) := by
  unfold spWrite
  split
  case h_3 | h_4 =>
    dsimp only
    split
    · rfl
    · rw [← startDma_withOutside]
      rfl
  case h_5 => exact spStatusWrite_withOutside o s v
  all_goals rfl

/-- No register group lies below 16 MiB. -/
theorem region_of_lt {size : RdramSize} {a : Nat} (h : a < 0x1000000) :
    region size a = .memory ∨ region size a = .unmapped := by
  by_cases hram : a < rdramBytes size
  · exact .inl (if_pos hram)
  · refine .inr ?_
    rw [region, if_neg hram]
    repeat rw [if_neg (by omega)]

/-- A command word below 16 MiB is read from memory, not from a register. -/
theorem commandWord_withOutside (o s : State) {a : Nat} (h : a < 0x1000000) :
    commandWord (withOutside o s) a = commandWord s a := by
  have hpa : (BitVec.ofNat 32 a).toNat = a := by
    rw [BitVec.toNat_ofNat, Nat.mod_eq_of_lt (by omega)]
  have hcfg : (withOutside o s).cfg = s.cfg := rfl
  have hmem : (withOutside o s).mem = s.mem := rfl
  have hread : (memRead (withOutside o s) (BitVec.ofNat 32 a) 8).1 = (memRead s (BitVec.ofNat 32 a) 8).1 := by
    rcases region_of_lt (size := s.cfg.rdramSize) h with hr | hr <;>
      simp only [memRead, hpa, hr, hcfg, hmem]
  rw [commandWord, commandWord, hread]
  rfl

theorem dpcEndWrite_withOutside (o s : State) (e : BitVec 24) :
    dpcEndWrite (withOutside o s) e = withOutside o (dpcEndWrite s e) := by
  have hwords : commandWords (withOutside o s) s.rdp.dpcCurrent.toNat e.toNat =
      commandWords s s.rdp.dpcCurrent.toNat e.toNat := by
    refine List.map_congr_left fun k hk => commandWord_withOutside o s ?_
    have he := e.isLt
    have hk := List.mem_range.mp hk
    omega
  have hcur : (withOutside o s).rdp.dpcCurrent = s.rdp.dpcCurrent := rfl
  rw [dpcEndWrite, hcur, hwords]
  rfl

theorem dpWrite_withOutside (o s : State) (off : Nat) (v : Word) :
    dpWrite (withOutside o s) off v = withOutside o (dpWrite s off v) := by
  unfold dpWrite
  split
  case h_2 => exact dpcEndWrite_withOutside o s _
  all_goals rfl

/-- A word write of one of those registers: accepted, and it neither changes nor depends on the outside. -/
theorem memWrite_vuCop0Address {rd : Reg} {pa : Word} (h : vuCop0Address rd = some pa) (s : State) (v : Dword) :
    ∃ t, memWrite s pa 4 v = .ok t ∧ ∀ o, memWrite (withOutside o s) pa 4 v = .ok (withOutside o t) := by
  have hcfg (o : State) : (withOutside o s).cfg = s.cfg := rfl
  rcases region_vuCop0Address s.cfg.rdramSize h with ⟨off, hr⟩ | ⟨off, hr⟩
  · refine ⟨spWrite s off (lo32 v), by simp only [memWrite, hr]; rfl, fun o => ?_⟩
    rw [← spWrite_withOutside]
    simp only [memWrite, hcfg, hr]
    rfl
  · refine ⟨dpWrite s off (lo32 v), by simp only [memWrite, hr]; rfl, fun o => ?_⟩
    rw [← dpWrite_withOutside]
    simp only [memWrite, hcfg, hr]
    rfl

theorem execRspMfc0_ignoresOutside (rt rd : Reg) : IgnoresOutside (execRspMfc0 rt rd) := by
  intro o s
  unfold execRspMfc0
  split
  · rfl
  · next pa hpa =>
    rw [memRead_vuCop0Address o s hpa]
    rfl

theorem execRspMtc0_ignoresOutside (rt rd : Reg) : IgnoresOutside (execRspMtc0 rt rd) := by
  intro o s
  have hsr : sr (withOutside o s) rt = sr s rt := rfl
  unfold execRspMtc0
  split
  · rfl
  · next pa hpa =>
    obtain ⟨t, ht, hto⟩ := memWrite_vuCop0Address hpa s (zext32 (sr s rt))
    rw [hsr, hto, ht]
    rfl

/-! ## The moves of the control registers (R692, R693) -/

theorem execRspCfc2_ignoresOutside (rt rd : Reg) : IgnoresOutside (execRspCfc2 rt rd) := by
  intro o s
  unfold execRspCfc2
  repeat (split; · rfl)
  rfl

theorem execRspCtc2_ignoresOutside (rt rd : Reg) : IgnoresOutside (execRspCtc2 rt rd) := by
  intro o s
  unfold execRspCtc2
  repeat (split; · rfl)
  rfl

/-! ## Every instruction -/

theorem exec_ignoresOutside {i : Instr} (h : i.agent = .vectorUnit) : IgnoresOutside (exec i) := by
  cases i with
  -- A write of a scalar register, a scalar load or store, a move or a lane-wise operation.
  | rspSll | rspSrl | rspSra | rspSllv | rspSrlv | rspSrav | rspAdd | rspAddu | rspSub | rspSubu | rspAnd | rspOr
  | rspXor | rspNor | rspSlt | rspSltu | rspAddi | rspAddiu | rspSlti | rspSltiu | rspAndi | rspOri | rspXori | rspLui
  | rspLb | rspLh | rspLw | rspLbu | rspLhu | rspLwu | rspSb | rspSh | rspSw | rspMfc2 | rspMtc2
  | rspVadd | rspVsub | rspVabs | rspVand | rspVnand | rspVor | rspVnor | rspVxor | rspVnxor | rspVlt | rspVeq | rspVne
  | rspVge | rspVmrg | rspVsar | rspVnop => exact fun _ _ => rfl
  | rspJr | rspJ | rspJal | rspBeq | rspBne | rspBlez | rspBgtz | rspBltz | rspBgez =>
    exact vuControlTransfer_ignoresOutside fun _ _ => rfl
  | rspJalr | rspBltzal | rspBgezal =>
    exact vuControlTransfer_ignoresOutside (vuLinkNotSource_ignoresOutside _ fun _ _ => rfl)
  | rspBreak => exact fun o s => congrArg Host.Outcome.next (vuBreak_withOutside o (vuRetireSeq s))
  | rspMfc0 => exact execRspMfc0_ignoresOutside _ _
  | rspMtc0 => exact execRspMtc0_ignoresOutside _ _
  | rspCfc2 => exact execRspCfc2_ignoresOutside _ _
  | rspCtc2 => exact execRspCtc2_ignoresOutside _ _
  | rspLbv | rspLsv | rspLlv | rspLdv | rspLqv => exact fun o s => vectorLoad_ignoresOutside _ _ _ _ o s
  | rspSbv | rspSsv | rspSlv | rspSdv | rspSqv => exact fun o s => vectorStore_ignoresOutside _ _ _ _ o s
  -- Refused by name.
  | rspLrv | rspLpv | rspLuv | rspLhv | rspLfv | rspLwv | rspLtv | rspSrv | rspSpv | rspSuv | rspShv | rspSfv | rspSwv
  | rspStv | rspVmulf | rspVmulu | rspVrndp | rspVmulq | rspVmudl | rspVmudm | rspVmudn | rspVmudh | rspVmacf | rspVmacu
  | rspVrndn | rspVmacq | rspVmadl | rspVmadm | rspVmadn | rspVmadh | rspVaddc | rspVsubc | rspVcl | rspVch | rspVcr
  | rspVrcp | rspVrcpl | rspVrcph | rspVmov | rspVrsq | rspVrsql | rspVrsqh => exact fun _ _ => rfl
  | _ => cases h

/-- A next state has the outside of the state it came from. -/
theorem exec_next_outside {i : Instr} {s t : State} (hi : i.agent = .vectorUnit) (h : exec i s = .next t) :
    ∃ u, t = withOutside s u := by
  have hself := exec_ignoresOutside hi s s
  rw [withOutside_self, h] at hself
  exact ⟨t, Host.Outcome.next.inj hself⟩

/-- Settles O45: a VectorUnit instruction commutes with `withOutside`. Taken from the state itself, the outside is what is
unchanged; taken from the state with another CPU, it is what does not matter. -/
theorem vectorUnitLeavesCpuAlone : Obligations.VectorUnitLeavesCpuAlone := by
  intro i s t hi h
  obtain ⟨u, rfl⟩ := exec_next_outside hi h
  refine ⟨rfl, rfl, rfl, rfl, fun k hk => Mi.getLsbD_intr_keepSp _ _ hk, rfl, rfl, rfl, rfl, fun cpu cp0 fpu => ?_⟩
  let o : State := { s with cpu := cpu, cp0 := cp0, fpu := fpu }
  have ho : withOutside o s = o := congrArg (fun m => { o with mi := m }) (Mi.keepSp_self s.mi)
  have hexec := exec_ignoresOutside hi o s
  rw [ho, h] at hexec
  exact ⟨_, hexec, rfl, rfl, rfl, Mi.keepSp_keepSp _ _ _⟩

end Sys2Proof.Machine
end

section
/-! PROOFS. The DisplayProcessor's set-commands, NOP and syncs (spec/48_rasterizer.md R1004, R1010, R1025 to R1049). -/

namespace Sys2Proof.Machine

/-! ## Commands of one word (R1002) -/

/-- A word alone whose top byte asks for one word is decoded by the table. -/
theorem decodeRdp_wordCmd_alone {op : BitVec 8} (payload : BitVec 56) (h : commandLength op = 1) :
    decodeRdp [wordCmd op payload] = rdpTable (wordCmd op payload) [] := by
  simp [decodeRdp, h]

/-- The table's entries of NOP and the syncs hold nothing of the payload (R1010, R1025 to R1028). -/
theorem rdpTable_nopAndSyncs (payload : BitVec 56) (rest : List Dword) :
    rdpTable (wordCmd 0x00 payload) rest = .ok .rdpNop ∧ rdpTable (wordCmd 0x26 payload) rest = .ok .rdpSyncLoad ∧
    rdpTable (wordCmd 0x27 payload) rest = .ok .rdpSyncPipe ∧ rdpTable (wordCmd 0x28 payload) rest = .ok .rdpSyncTile ∧
    rdpTable (wordCmd 0x29 payload) rest = .ok .rdpSyncFull := by
  simp [rdpTable]

/-! ## Completion -/

/-- A command whose meaning is to leave the state as it is completes there. -/
theorem completes_self_of_exec_eq {i : Instr} {s : State} (h : exec i s = .next s) : completes i s (· = s) :=
  ⟨s, h, rfl⟩

/-- Raising DP sets bit 5 of the pending interrupts (R75, R821). -/
theorem miRaise_dp (s : State) : miRaise s .dp = { s with mi.intr := s.mi.intr ||| 32 } := rfl

/-- SYNC_FULL raises DP (R1028). -/
theorem exec_rdpSyncFull (s : State) : exec .rdpSyncFull s = .next (miRaise s .dp) := rfl

/-- A command whose meaning is `setCommand` stores its word in dp_state and changes nothing else. -/
theorem setsDpState_of_exec_eq_setCommand {i : Instr} {op : BitVec 8} {payload : BitVec 56} {s : State}
    (h : exec i s = setCommand op payload s) : setsDpState i op (op ++ payload) s :=
  ⟨setDpState op payload s, h, Store.get_set_same .., fun _ hk => Store.get_set_ne _ _ _ hk, rfl, fun _ => rfl⟩

/-! ## SET_COLOR_IMAGE (R1049) -/

/-- With the buffer's own width it is a set-command like the others. -/
theorem exec_rdpSetColorImage_of_width_eq {payload : BitVec 56} {s : State} (h : imageWidth payload = s.rdp.fbWidth) :
    exec (.rdpSetColorImage payload) s = setCommand 0x3F payload s :=
  if_pos h

/-- With another width it also replaces both buffers. -/
theorem exec_rdpSetColorImage_of_width_ne {payload : BitVec 56} {s : State} (h : imageWidth payload ≠ s.rdp.fbWidth) :
    exec (.rdpSetColorImage payload) s = .next (newBuffers (setDpState 0x3F payload s) (imageWidth payload)) :=
  if_neg h

/-- Every pixel of a fresh buffer is 0 (R1008). -/
@[simp] theorem pixel_newBuffers (s : State) (w x y : Nat) : pixel (newBuffers s w) x y = 0 := rfl

/-- Every depth of a fresh buffer is FAR (R1008). -/
@[simp] theorem depthAt_newBuffers (s : State) (w x y : Nat) : depthAt (newBuffers s w) x y = depthFar := rfl

/-! ## The statements -/

/-- Settles O49: each word alone is decoded by the table; of the five meanings only SYNC_FULL's changes the state. -/
theorem nopAndSyncs : Obligations.NopAndSyncs := by
  intro payload s
  obtain ⟨hnop, hload, hpipe, htile, hfull⟩ := rdpTable_nopAndSyncs payload []
  have hdecode {op : BitVec 8} {i : Instr} (hlen : commandLength op = 1)
      (htable : rdpTable (wordCmd op payload) [] = .ok i) : decodeRdp [op ++ payload] = .ok i :=
    (decodeRdp_wordCmd_alone payload hlen).trans htable
  exact ⟨hdecode rfl hnop, hdecode rfl hload, hdecode rfl hpipe, hdecode rfl htile, hdecode rfl hfull,
    completes_self_of_exec_eq rfl, completes_self_of_exec_eq rfl, completes_self_of_exec_eq rfl,
    completes_self_of_exec_eq rfl, ⟨_, exec_rdpSyncFull s, miRaise_dp s⟩⟩

/-- Settles O47: all but SET_FILL_COLOR and SET_COLOR_IMAGE are `setCommand` of their op, and SET_COLOR_IMAGE is so too
unless its width is new. -/
theorem setCommands : Obligations.SetCommands := by
  intro payload color s sets width
  have hset {i : BitVec 56 → Instr} {op : BitVec 8} (h : exec (i payload) s = setCommand op payload s) : sets i op :=
    setsDpState_of_exec_eq_setCommand h
  have hfill : completes (.rdpSetFillColor color) s (fun t => t = { s with rdp.fillColor := color }) := ⟨_, rfl, rfl⟩
  refine ⟨hset rfl, hset rfl, hset rfl, hset rfl, hset rfl, hset rfl, hset rfl, hset rfl, hset rfl, hset rfl, hset rfl,
    hset rfl, hset rfl, hset rfl, hset rfl, hset rfl, hset rfl, hset rfl, hfill, fun hw => ?sameWidth, fun hw => ?newWidth⟩
  case sameWidth => exact hset (exec_rdpSetColorImage_of_width_eq hw)
  case newWidth =>
    exact ⟨_, exec_rdpSetColorImage_of_width_ne hw, rfl, rfl, fun x y => ⟨pixel_newBuffers .., depthAt_newBuffers ..⟩,
      Store.get_set_same .., fun _ hk => Store.get_set_ne _ _ _ hk, rfl, fun _ => rfl⟩

end Sys2Proof.Machine
end

section
/-! PROOFS. Exception entry, the timer, the interrupt poll and the interrupt controller (spec/60_exceptions.md R800 to R833,
R861, R862). -/

namespace Sys2Proof.Machine

/-! ## A field of a word replaced -/

/-- Every bit of a word whose bits `p` to `p + n - 1`, the zeros of the mask, were replaced by `f`. -/
theorem getLsbD_maskOrShift {n : Nat} (v : Word) {mask : Word} (f : BitVec n) {p : Nat} (hfit : p + n ≤ 32)
    (hmask : ∀ k < 32, mask.getLsbD k = !(decide (p ≤ k) && decide (k < p + n))) (k : Nat) :
    ((v &&& mask) ||| (f.setWidth 32 <<< p)).getLsbD k =
      if p ≤ k ∧ k < p + n then f.getLsbD (k - p) else v.getLsbD k := by
  rcases Nat.lt_or_ge k 32 with hk | hk
  · rw [BitVec.getLsbD_or, BitVec.getLsbD_and, hmask k hk, BitVec.getLsbD_shiftLeft, BitVec.getLsbD_setWidth]
    by_cases hp : p ≤ k <;> by_cases hn : k < p + n
    · simp [hp, hn, hk, Nat.not_lt.mpr hp, show k - p < 32 by omega]
    · simp [hn, f.getLsbD_of_ge (k - p) (by omega)]
    · simp [hp, Nat.lt_of_not_le hp]
    · omega
  · rw [if_neg (by omega), BitVec.getLsbD_of_ge _ _ hk, BitVec.getLsbD_of_ge _ _ hk]

/-- Every bit of Cause after its ExcCode, bits 6 to 2, was replaced (R51). -/
theorem getLsbD_causeWithCode (cause : Word) (code : BitVec 5) (k : Nat) :
    (causeWithCode cause code).getLsbD k = if 2 ≤ k ∧ k < 7 then code.getLsbD (k - 2) else cause.getLsbD k :=
  getLsbD_maskOrShift cause code (by decide) (by decide) k

/-- Every bit of Cause after its CE, bits 29 and 28, was replaced (R51). -/
theorem getLsbD_causeWithCe (cause : Word) (z : BitVec 2) (k : Nat) :
    (causeWithCe cause z).getLsbD k = if 28 ≤ k ∧ k < 30 then z.getLsbD (k - 28) else cause.getLsbD k :=
  getLsbD_maskOrShift cause z (by decide) (by decide) k

/-! ## Exception entry (R810 to R816) -/

/-- Cause after entry is Cause with BD as R811 has it and then ExcCode, and then CE for CoprocessorUnusable alone. -/
theorem causeAfterEntry_cases (e : Exception) (slot : Bool) (s : State) :
    let c := causeWithCode (if statusExl s then s.cp0.cause else setBit s.cp0.cause 31 slot) (excCode e)
    (∃ z, e = .coprocessorUnusable z ∧ causeAfterEntry e slot s = causeWithCe c z) ∨
      ((∀ z, e ≠ .coprocessorUnusable z) ∧ causeAfterEntry e slot s = c) := by
  intro c
  by_cases h : ∃ z, e = .coprocessorUnusable z
  · obtain ⟨z, rfl⟩ := h
    exact .inl ⟨z, rfl, rfl⟩
  · have hne (z : BitVec 2) : e ≠ .coprocessorUnusable z := fun he => h ⟨z, he⟩
    refine .inr ⟨hne, ?_⟩
    cases e
    case coprocessorUnusable z => exact absurd rfl (hne z)
    all_goals rfl

/-- Outside ExcCode and CE, entry writes BD alone, and that only with EXL clear (R811). -/
theorem getLsbD_causeAfterEntry (e : Exception) (slot : Bool) (s : State) {k : Nat} (hcode : k < 2 ∨ 7 ≤ k)
    (hce : k ≠ 28 ∧ k ≠ 29) :
    (causeAfterEntry e slot s).getLsbD k =
      if k = 31 ∧ statusExl s = false then slot else s.cp0.cause.getLsbD k := by
  have hcode' : ¬(2 ≤ k ∧ k < 7) := by omega
  have hce' : ¬(28 ≤ k ∧ k < 30) := by omega
  have hbd : (if statusExl s then s.cp0.cause else setBit s.cp0.cause 31 slot).getLsbD k =
      if k = 31 ∧ statusExl s = false then slot else s.cp0.cause.getLsbD k := by
    cases statusExl s <;> simp [getLsbD_setBit]
  obtain ⟨z, -, heq⟩ | ⟨-, heq⟩ := causeAfterEntry_cases e slot s
  · rw [heq, getLsbD_causeWithCe, if_neg hce', getLsbD_causeWithCode, if_neg hcode', hbd]
  · rw [heq, getLsbD_causeWithCode, if_neg hcode', hbd]

/-- BD is written with EXL clear alone (R811). -/
theorem bd_causeAfterEntry (e : Exception) (slot : Bool) (s : State) :
    (causeAfterEntry e slot s).getLsbD 31 = if statusExl s = false then slot else s.cp0.cause.getLsbD 31 := by
  rw [getLsbD_causeAfterEntry e slot s (by decide) (by decide)]
  simp only [true_and]

/-- Entry writes the exception's code into ExcCode (R800). -/
theorem excCode_causeAfterEntry (e : Exception) (slot : Bool) (s : State) :
    (causeAfterEntry e slot s).extractLsb' 2 5 = excCode e := by
  apply BitVec.eq_of_getLsbD_eq
  intro i hi
  have hcode : 2 ≤ 2 + i ∧ 2 + i < 7 := by omega
  have hce : ¬(28 ≤ 2 + i ∧ 2 + i < 30) := by omega
  obtain ⟨z, -, heq⟩ | ⟨-, heq⟩ := causeAfterEntry_cases e slot s <;>
    simp [heq, getLsbD_causeWithCe, getLsbD_causeWithCode, hi, hcode, hce]

/-- CoprocessorUnusable writes the coprocessor's number into CE (R813). -/
theorem ce_causeAfterEntry_coprocessorUnusable (z : BitVec 2) (slot : Bool) (s : State) :
    (causeAfterEntry (.coprocessorUnusable z) slot s).extractLsb' 28 2 = z := by
  apply BitVec.eq_of_getLsbD_eq
  intro i hi
  have hce : 28 ≤ 28 + i ∧ 28 + i < 30 := by omega
  simp [causeAfterEntry, getLsbD_causeWithCe, hi, hce]

/-- Every other exception leaves CE as it is (R813). -/
theorem ce_causeAfterEntry_of_ne {e : Exception} (h : ∀ z, e ≠ .coprocessorUnusable z) (slot : Bool) (s : State) :
    (causeAfterEntry e slot s).extractLsb' 28 2 = s.cp0.cause.extractLsb' 28 2 := by
  obtain ⟨z, he, -⟩ | ⟨-, heq⟩ := causeAfterEntry_cases e slot s
  · exact absurd he (h z)
  · have hbd : (if statusExl s then s.cp0.cause else setBit s.cp0.cause 31 slot).extractLsb' 28 2 =
        s.cp0.cause.extractLsb' 28 2 := by
      split
      · rfl
      · exact extractLsb'_setBit _ _ (by decide)
    rw [heq, ← hbd]
    apply BitVec.eq_of_getLsbD_eq
    intro i hi
    have hcode : ¬(2 ≤ 28 + i ∧ 28 + i < 7) := by omega
    simp only [BitVec.getLsbD_extractLsb', getLsbD_causeWithCode, if_neg hcode]

/-- An address error writes its address into BadVAddr (R812). -/
theorem badVAddrAfterEntry_addressError {e : Exception} {va : Dword}
    (h : e = .addressErrorLoad va ∨ e = .addressErrorStore va) (s : State) : badVAddrAfterEntry e s = va := by
  rcases h with rfl | rfl <;> rfl

/-- Every other exception leaves BadVAddr as it is (R812). -/
theorem badVAddrAfterEntry_of_ne {e : Exception} (h : ∀ va, e ≠ .addressErrorLoad va ∧ e ≠ .addressErrorStore va)
    (s : State) : badVAddrAfterEntry e s = s.cp0.badVAddr := by
  unfold badVAddrAfterEntry
  split
  · next va => exact absurd rfl (h va).1
  · next va => exact absurd rfl (h va).2
  · rfl

/-- Entry sets EXL and no other bit of Status (R814). -/
theorem statusBit_enter (e : Exception) (slot : Bool) (s : State) (k : Nat) :
    statusBit (enter e slot s) k = (k == 1 || statusBit s k) := by
  have hset : (enter e slot s).cp0.status = setBit s.cp0.status 1 true := rfl
  rw [statusBit, hset, getLsbD_setBit, statusBit]
  by_cases h : k = 1 <;> simp [h]

/-- Entry writes EPC, Cause, BadVAddr, Status and the pipeline alone. -/
theorem enter_frame (e : Exception) (slot : Bool) (s : State) :
    backPipeline s { enter e slot s with
      cp0.epc := s.cp0.epc, cp0.cause := s.cp0.cause, cp0.badVAddr := s.cp0.badVAddr, cp0.status := s.cp0.status } = s :=
  rfl

/-! ## Bits of a register written or tested -/

/-- Two vectors share a bit exactly when their conjunction is not zero. -/
theorem and_ne_zero_iff {w : Nat} (a b : BitVec w) :
    a &&& b ≠ 0 ↔ ∃ k < w, a.getLsbD k = true ∧ b.getLsbD k = true := by
  rw [← not_iff_not, not_not, BitVec.eq_of_getLsbD_eq_iff]
  simp

/-- A clear/set pair acts only when its bits differ, and then its set bit is the new value (R174). -/
theorem clearSet_eq_ite (old clear set : Bool) : clearSet old clear set = if clear = set then old else set := by
  cases clear <;> cases set <;> rfl

/-- Every bit after a write of `n` clear/set pairs: pair j acts on bit j as it was before. -/
theorem getLsbD_clearSetBits {w : Nat} (old : BitVec w) (v : Word) (base n : Nat) {j : Nat} (hj : j < w) :
    (clearSetBits old v base n).getLsbD j =
      if j < n then clearSet (old.getLsbD j) (v.getLsbD (base + 2 * j)) (v.getLsbD (base + 2 * j + 1))
      else old.getLsbD j := by
  induction n with
  | zero => simp [clearSetBits]
  | succ n ih =>
    rw [clearSetBits, getLsbD_setBit, ih]
    rcases lt_trichotomy j n with hlt | rfl | hgt
    · rw [if_neg hlt.ne, if_pos hlt, if_pos (by omega)]
    · simp [hj]
    · rw [if_neg hgt.ne', if_neg (by omega), if_neg (by omega)]

/-! ## The timer (R861, R862) -/

/-- Between two increments of Count only count_phase moves. -/
theorem countTick_of_ne {s : State} (h : s.cpu.countPhase + 1 ≠ s.cfg.countDiv) :
    countTick s = { s with cpu.countPhase := s.cpu.countPhase + 1 } :=
  if_neg h

/-- The last of COUNT_DIV calls moves Count, and sets IP7 if it reaches Compare. -/
theorem countTick_of_eq {s : State} (h : s.cpu.countPhase + 1 = s.cfg.countDiv) : countTick s =
    { s with
      cpu.countPhase := 0
      cp0.count := s.cp0.count + 1
      cp0.cause := if s.cp0.count + 1 = s.cp0.compare then s.cp0.cause ||| 0x8000 else s.cp0.cause } :=
  if_pos h

/-! ## The interrupt controller (R820 to R825) -/

/-- Every source has a bit of its own among the six. -/
theorem miBit_lt (q : MiSource) : miBit q < 6 := by
  cases q <;> decide

/-- Raising sets its source's bit and keeps the others (R821). -/
theorem getLsbD_intr_miRaise (s : State) (q : MiSource) (k : Nat) :
    (miRaise s q).mi.intr.getLsbD k = (k == miBit q || s.mi.intr.getLsbD k) := by
  rw [miRaise_mi_intr, getLsbD_setBit]
  by_cases h : k = miBit q <;> simp [h, miBit_lt]

/-- Acknowledging clears its source's bit and keeps the others (R822). -/
theorem getLsbD_intr_miAck (s : State) (q : MiSource) (k : Nat) :
    (miAck s q).mi.intr.getLsbD k = (k != miBit q && s.mi.intr.getLsbD k) := by
  rw [miAck_mi_intr, getLsbD_setBit_false, Bool.and_comm]

/-- A source is pending and enabled when a bit is set in both registers (R823). -/
theorem miPendingAndEnabled_iff (s : State) :
    miPendingAndEnabled s = true ↔ ∃ k < 6, s.mi.intr.getLsbD k = true ∧ s.mi.mask.getLsbD k = true := by
  rw [miPendingAndEnabled, bne_iff_ne, and_ne_zero_iff]

/-- A write of MI_INTR acknowledges the sources whose bits are 1 (R825). -/
theorem getLsbD_intr_regWrite_miIntr (s : State) (v : Word) {k : Nat} (hk : k < 6) :
    (regWrite s .mi 8 v).mi.intr.getLsbD k = (s.mi.intr.getLsbD k && !v.getLsbD k) := by
  have hwrite : (regWrite s .mi 8 v).mi.intr = s.mi.intr &&& ~~~(v.setWidth 6) := rfl
  simp [hwrite, hk]

/-- A write of MI_INTR_MASK is six clear/set pairs (R825). -/
theorem getLsbD_mask_regWrite_miIntrMask (s : State) (v : Word) {k : Nat} (hk : k < 6) :
    (regWrite s .mi 12 v).mi.mask.getLsbD k =
      if v.getLsbD (2 * k) = v.getLsbD (2 * k + 1) then s.mi.mask.getLsbD k else v.getLsbD (2 * k + 1) := by
  have hwrite : (regWrite s .mi 12 v).mi.mask = clearSetBits s.mi.mask v 0 6 := rfl
  rw [hwrite, getLsbD_clearSetBits _ _ _ _ hk, if_pos hk, clearSet_eq_ite, Nat.zero_add]

/-- A write of MI_MODE acknowledges DP when its bit 11 is 1, and no other source (R825). -/
theorem getLsbD_intr_regWrite_miMode (s : State) (v : Word) (k : Nat) :
    (regWrite s .mi 0 v).mi.intr.getLsbD k = (s.mi.intr.getLsbD k && !(k == 5 && v.getLsbD 11)) := by
  have hwrite : (regWrite s .mi 0 v).mi.intr = if v.getLsbD 11 then setBit s.mi.intr 5 false else s.mi.intr := rfl
  rw [hwrite]
  cases v.getLsbD 11
  · simp
  · simp [getLsbD_setBit_false, bne]

/-! ## The interrupt poll (R830 to R833) -/

/-- The lines that can be pending: the timer's 7, the controller's 2, which is live, and the software's 1 and 0 (R830,
R831). -/
theorem getLsbD_interruptLines (s : State) (k : Nat) :
    (interruptLines s).getLsbD k = true ↔
      (k = 7 ∧ s.cp0.cause.getLsbD 15 = true) ∨ (k = 2 ∧ miPendingAndEnabled s = true) ∨
        (k = 1 ∧ s.cp0.cause.getLsbD 9 = true) ∨ (k = 0 ∧ s.cp0.cause.getLsbD 8 = true) := by
  rcases Nat.lt_or_ge k 8 with hk | hk
  · rw [interruptLines, BitVec.getLsbD_and, BitVec.getLsbD_extractLsb', causeRead, getLsbD_setBit]
    interval_cases k <;> simp
  · rw [BitVec.getLsbD_of_ge _ _ hk]
    simp only [Bool.false_eq_true, false_iff]
    omega

/-- IM's bits are bits 15 to 8 of Status (R50). -/
theorem getLsbD_statusIm (s : State) {k : Nat} (hk : k < 8) : (statusIm s).getLsbD k = statusBit s (8 + k) := by
  simp [statusIm, statusBit, hk]

/-- A line is pending and its bit of IM set, for each of the four lines that can be pending (R831, R832). -/
def EnabledLinePending (s : State) : Prop :=
  (s.cp0.cause.getLsbD 15 = true ∧ statusBit s (8 + 7) = true) ∨
    ((s.mi.intr &&& s.mi.mask) ≠ 0 ∧ statusBit s (8 + 2) = true) ∨
    (s.cp0.cause.getLsbD 9 = true ∧ statusBit s (8 + 1) = true) ∨
    (s.cp0.cause.getLsbD 8 = true ∧ statusBit s (8 + 0) = true)

/-- R832's condition: IE set, EXL and ERL clear, and an enabled line pending. -/
def InterruptCondition (s : State) : Prop :=
  statusIe s = true ∧ statusExl s = false ∧ statusErl s = false ∧ EnabledLinePending s

theorem interruptLines_and_statusIm_ne_zero_iff (s : State) :
    interruptLines s &&& statusIm s ≠ 0 ↔ EnabledLinePending s := by
  have hmi : miPendingAndEnabled s = true ↔ s.mi.intr &&& s.mi.mask ≠ 0 := bne_iff_ne
  rw [and_ne_zero_iff, EnabledLinePending, ← hmi]
  constructor
  · rintro ⟨k, hk, hline, him⟩
    rw [getLsbD_statusIm s hk] at him
    obtain ⟨rfl, h⟩ | ⟨rfl, h⟩ | ⟨rfl, h⟩ | ⟨rfl, h⟩ := (getLsbD_interruptLines s k).mp hline
    · exact .inl ⟨h, him⟩
    · exact .inr (.inl ⟨h, him⟩)
    · exact .inr (.inr (.inl ⟨h, him⟩))
    · exact .inr (.inr (.inr ⟨h, him⟩))
  · have hpending {k : Nat} (hk : k < 8) (him : statusBit s (8 + k) = true)
        (hline : (interruptLines s).getLsbD k = true) :
        ∃ k < 8, (interruptLines s).getLsbD k = true ∧ (statusIm s).getLsbD k = true :=
      ⟨k, hk, hline, (getLsbD_statusIm s hk).trans him⟩
    rintro (⟨h, him⟩ | ⟨h, him⟩ | ⟨h, him⟩ | ⟨h, him⟩) <;>
      exact hpending (by decide) him ((getLsbD_interruptLines s _).mpr (by simp [h]))

theorem interruptTaken_iff (s : State) : interruptTaken s = true ↔ InterruptCondition s := by
  rw [InterruptCondition, ← interruptLines_and_statusIm_ne_zero_iff]
  simp [interruptTaken, and_assoc]

/-- The poll enters Interrupt when R832's condition holds (R833). -/
theorem pollInterrupt_of_condition {s : State} (h : InterruptCondition s) :
    pollInterrupt s = enter .interrupt false s :=
  if_pos ((interruptTaken_iff s).mpr h)

/-- Otherwise it changes nothing. -/
theorem pollInterrupt_of_not_condition {s : State} (h : ¬InterruptCondition s) : pollInterrupt s = s :=
  if_neg (mt (interruptTaken_iff s).mp h)

/-! ## The statements -/

/-- Settles O10: Cause by its bits, BD, ExcCode and CE each apart, and the rest by `enter`'s fields. -/
theorem exceptionEntryWrites : Obligations.ExceptionEntryWrites := by
  intro e slot s t
  have hbd : t.cp0.cause.getLsbD 31 = if statusExl s = false then slot else s.cp0.cause.getLsbD 31 :=
    bd_causeAfterEntry e slot s
  refine ⟨fun hexl => ⟨?epcWritten, hbd.trans (if_pos hexl)⟩,
    fun hexl => ⟨if_pos hexl, hbd.trans (if_neg (by simp [hexl]))⟩, (excCode_causeAfterEntry e slot s).trans ?code, ?ce, fun hne => ce_causeAfterEntry_of_ne hne slot s, ?otherBits,
    fun va h => badVAddrAfterEntry_addressError h s, fun hne => badVAddrAfterEntry_of_ne hne s,
    statusBit_enter e slot s, rfl, rfl, rfl, enter_frame e slot s⟩
  case epcWritten => simp [t, epcAfterEntry, hexl]
  case code => cases e <;> rfl
  case ce =>
    rintro z rfl
    exact ce_causeAfterEntry_coprocessorUnusable z slot s
  case otherBits =>
    intro k _ h31 h29 h28 hcode
    exact (getLsbD_causeAfterEntry e slot s hcode ⟨h28, h29⟩).trans (if_neg fun h => h31 h.1)

/-- Settles O52: the timer by whether count_phase wraps, the poll by R832's condition, and the controller bit by bit. -/
theorem timerPollAndInterruptController : Obligations.TimerPollAndInterruptController := by
  intro s q v
  refine ⟨countTick_of_ne, countTick_of_eq, fun htaken => ?taken, pollInterrupt_of_not_condition,
    fun k _ => getLsbD_intr_miRaise s q k, fun k _ => getLsbD_intr_miAck s q k, rfl, rfl, miPendingAndEnabled_iff s,
    rfl, rfl, rfl, fun k hk => getLsbD_intr_regWrite_miIntr s v hk,
    fun k hk => getLsbD_mask_regWrite_miIntrMask s v hk, fun k _ => getLsbD_intr_regWrite_miMode s v k⟩
  case taken =>
    have hpoll : pollInterrupt s = enter .interrupt false s := pollInterrupt_of_condition htaken
    obtain ⟨-, hexl, -⟩ := htaken
    obtain ⟨hwritten, -⟩ := exceptionEntryWrites .interrupt false s
    obtain ⟨hepc, hbd⟩ := hwritten hexl
    exact ⟨hpoll, hpoll ▸ hepc, hpoll ▸ hbd, hpoll ▸ excCode_causeAfterEntry .interrupt false s⟩

end Sys2Proof.Machine
end

section
/-! PROOFS. What a step is made of: single updates of the state, of which every meaning and every step is a chain. An
invariant that each update keeps is kept by every step (spec/10_state.md, spec/60_exceptions.md R850). -/

namespace Sys2Proof.Machine

/-! ## Single updates -/

/-- `s` with everything at its reset value but the state that the invariants speak of. -/
def tracked (s : State) : State :=
  { State.reset with
    cpu.pending := s.cpu.pending, cpu.ds := s.cpu.ds, cpu.countPhase := s.cpu.countPhase
    cp0.status := s.cp0.status, cp0.cause := s.cp0.cause, cp0.config := s.cp0.config, cp0.watchLo := s.cp0.watchLo,
    cp0.watchHi := s.cp0.watchHi, fpu.fcr31 := s.fpu.fcr31, vu.pc := s.vu.pc, vu.pending := s.vu.pending,
    vu.ds := s.vu.ds, rdp.fb := s.rdp.fb, rdp.depth := s.rdp.depth, rdp.dpState := s.rdp.dpState, busy := s.busy,
    dma := s.dma, clock.framePhase := s.clock.framePhase, cfg := s.cfg, mem := s.mem }

/-- The updates of the state that meanings and steps are put together from. -/
inductive Update : State → State → Prop
  /-- One that leaves alone all that the invariants speak of. -/
  | quiet {s t : State} (h : tracked t = tracked s) : Update s t
  /-- Another memory, in canonical form where the old one was. -/
  | store (s : State) (m : List Host.Cell) (h : Memory.wf s.mem = true → Memory.wf m = true) :
      Update s { s with mem := m }
  | register (s : State) (g : RegGroup) (off : Nat) (v : Word) : Update s (regWrite s g off v)
  /-- FCR31, its hard-wired bits 0 where they were (R63). -/
  | fcr31 (s : State) (v : Word) (h : s.fpu.fcr31 &&& 0xFE7C0000 = 0 → v &&& 0xFE7C0000 = 0) : Update s (setFcr31 s v)
  | cp0 {s t : State} (n : Reg) (v : Dword) (h : cp0Write s n v = .ok t) : Update s t
  | exceptionReturn {s t : State} (h : modeCheck (eretEffects s) = .ok t) : Update s t
  | retireSeq (s : State) : Update s (retireSeq s)
  | retireBranch (taken : Bool) (target : Dword) (likely : Bool) (s : State) :
      Update s (retireBranch taken target likely s)
  | retireEret (pc : Dword) (s : State) : Update s (retireEret pc s)
  | enter (e : Exception) (slot : Bool) (s : State) : Update s (enter e slot s)
  | countTick (s : State) : Update s (countTick s)
  | vuRetireSeq (s : State) : Update s (vuRetireSeq s)
  | vuRetireBranch (taken : Bool) (target : BitVec 12) (s : State)
      (h : s.vu.pc.toNat % 4 = 0 → target.toNat % 4 = 0) : Update s (vuRetireBranch taken target s)
  /-- The DisplayProcessor, its buffers and registers in canonical form where they were. -/
  | draw (s : State) (r : Rdp) (hfb : Store.wf 0 s.rdp.fb = true → Store.wf 0 r.fb = true)
      (hdepth : Store.wf depthFar s.rdp.depth = true → Store.wf depthFar r.depth = true)
      (hdp : Store.wf 0 s.rdp.dpState = true → Store.wf 0 r.dpState = true) : Update s { s with rdp := r }
  | frame (s : State) : Update s (frameAdvance s)
  /-- The completion of the first due request (R204). -/
  | complete (s : State) (q : DmaRequest) (h : s.dma.find? (dmaDue s) = some q) :
      Update s (dmaEnd q (s.dma.eraseP (dmaDue s)) s)

/-- A chain of updates. -/
def Updates : State → State → Prop := Relation.ReflTransGen Update

/-- A result that is a refusal, or a next state to which a chain of updates leads from `s`; no fault. -/
def Leads (s : State) : Result → Prop
  | .next t => Updates s t
  | .fault _ => False
  | .refused _ => True

namespace Updates

theorem refl (s : State) : Updates s s := Relation.ReflTransGen.refl

theorem single {s t : State} (h : Update s t) : Updates s t := Relation.ReflTransGen.single h

theorem trans {s t u : State} (h : Updates s t) (h' : Updates t u) : Updates s u := Relation.ReflTransGen.trans h h'

theorem quiet {s t : State} (h : tracked t = tracked s) : Updates s t := single (.quiet h)

/-- An invariant that each update keeps is kept by a chain of them. -/
theorem keeps {P : State → Prop} (hP : ∀ {s t}, Update s t → P s → P t) {s t : State} (h : Updates s t) (hs : P s) :
    P t := by
  induction h with
  | refl => exact hs
  | tail _ h ih => exact hP h ih

/-- A loop of chains is a chain. -/
theorem foldl {α : Type} {f : State → α → State} (hf : ∀ s a, Updates s (f s a)) (l : List α) (s : State) :
    Updates s (l.foldl f s) := by
  induction l generalizing s with
  | nil => exact refl s
  | cons a l ih => exact (hf s a).trans (ih _)

theorem memRead (s : State) (pa : Word) (n : Nat) : Updates s (memRead s pa n).2 := by
  rcases memRead_cases s pa n with h | h <;> rw [h]
  · exact refl s
  · exact quiet rfl

theorem memWriteWord (s : State) (pa : Word) (v : Dword) : Updates s (memWriteWord s pa v) := by
  rcases memWriteWord_cases s pa v with h | h | ⟨g, off, -, h⟩ <;> rw [h]
  · exact refl s
  · exact single (.store s _ (Memory.wf_write _ _ _))
  · exact single (.register s g off _)

theorem memWrite {s t : State} {pa : Word} {n : Nat} {v : Dword} (h : memWrite s pa n v = .ok t) : Updates s t := by
  rcases memWrite_ok h with rfl | rfl | ⟨g, off, -, -, rfl⟩ | ⟨-, rfl⟩
  · exact refl _
  · exact single (.store s _ (Memory.wf_write _ _ _))
  · exact single (.register s g off _)
  · exact (memWriteWord s _ _).trans (memWriteWord _ _ _)

theorem memWriteMasked {s t : State} {pa : Word} {n : Nat} {v : Dword} {m : Byte}
    (h : memWriteMasked s pa n v m = .ok t) : Updates s t := by
  rcases memWriteMasked_ok h with rfl | rfl | h
  · exact refl _
  · exact single (.store s _ (Memory.wf_writeMasked _ _ _ _))
  · exact memWrite h

theorem dmemWrite (s : State) (a v : Word) (n : Nat) : Updates s (dmemWrite s a v n) := by
  obtain ⟨m, hm, hwf⟩ := dmemWrite_eq s a v n
  rw [hm]
  exact single (.store s m hwf)

theorem storeImage (s : State) (a : Word) (e : Nat) (v : Vector Half 8) (n : Nat) :
    Updates s (storeImage s a e v n) := by
  obtain ⟨m, hm, hwf⟩ := storeImage_eq s a e v n
  rw [hm]
  exact single (.store s m hwf)

end Updates

/-! ## The phases of a meaning -/

namespace Leads

variable {s u : State}

theorem next (h : Updates s u) : Leads s (.next u) := h

theorem refused (why : Refusal) : Leads s (.refused why) := trivial

theorem updates {r : Result} {t : State} (h : Leads s r) (ht : r = .next t) : Updates s t := by
  subst ht
  exact h

theorem ite {c : Prop} [Decidable c] {r r' : Result} (h : Leads s r) (h' : Leads s r') :
    Leads s (if c then r else r') := by
  split
  · exact h
  · exact h'

theorem seq (h : Updates s u) : Leads s (seq u) := next (h.trans (.single (.retireSeq u)))

theorem vuSeq (h : Updates s u) : Leads s (vuSeq u) := next (h.trans (.single (.vuRetireSeq u)))

theorem raise (e : Exception) (h : Updates s u) : Leads s (raise e u) := next (h.trans (.single (.enter e _ u)))

/-- A meaning that writes registers and retires. -/
theorem seqQuiet (h : tracked u = tracked s) : Leads s (Machine.seq u) := seq (.quiet h)

theorem vuSeqQuiet (h : tracked u = tracked s) : Leads s (Machine.vuSeq u) := vuSeq (.quiet h)

theorem on32 {vs : List Dword} {r : Result} (h : Leads s r) : Leads s (on32 s vs r) := by
  unfold Machine.on32
  split
  · exact h
  · exact ite h (refused _)

theorem checked (n : Nat) (r : Int) (rd : Reg) (v : Dword) : Leads s (checked n r rd v s) :=
  ite (raise _ (.refl s)) (seqQuiet rfl)

theorem divideByZero (k : DivKind) (n : Dword) : Leads s (divideByZero k n s) := by
  unfold Machine.divideByZero
  split
  · exact seqQuiet rfl
  · exact seqQuiet rfl
  · exact refused _

theorem controlTransfer {r : Result} (h : Leads s r) : Leads s (controlTransfer s r) := ite (refused _) h

theorem linkNotSource {c : Bool} {r : Result} (h : Leads s r) : Leads s (linkNotSource c r) := ite (refused _) h

theorem branchOn (taken : Bool) (imm : BitVec 16) (likely : Bool) : Leads s (branchOn taken imm likely s) :=
  controlTransfer (next (.single (.retireBranch ..)))

/-- A branch that links: the link register first, then the branch. -/
theorem linked (r : Reg) (v : Dword) (taken : Bool) (target : Dword) (likely : Bool) :
    Leads s (.next (retireBranch taken target likely (setGpr s r v))) :=
  next (Updates.trans (.quiet (t := setGpr s r v) rfl) (.single (.retireBranch ..)))

theorem branchLinkOn (taken : Bool) (rs : Reg) (imm : BitVec 16) (likely : Bool) :
    Leads s (branchLinkOn taken rs imm likely s) :=
  controlTransfer (linkNotSource (linked ..))

theorem withCp1 {r : Result} (h : Leads s r) : Leads s (withCp1 s r) := ite h (raise _ (.refl s))

theorem onFprs {l : List (Fmt × Reg)} {r : Result} (h : Leads s r) : Leads s (onFprs s l r) :=
  withCp1 (ite h (refused _))

theorem translated {k : Access} {va : Dword} {f : Word → Result} (h : ∀ pa, Leads s (f pa)) :
    Leads s (translated s k va f) := by
  unfold Machine.translated
  split
  · exact h _
  · exact raise _ (.refl s)
  · exact refused _

theorem stored {w : Except Refusal State} {f : State → Result} (hw : ∀ t, w = .ok t → Updates s t)
    (hf : ∀ t, Updates s t → Leads s (f t)) : Leads s (stored w f) := by
  cases w with
  | ok t => exact hf t (hw t rfl)
  | error e => trivial

theorem loadAt (n : Nat) (va : Dword) {f : Word → Dword → State → Result}
    (h : ∀ pa v t, Updates s t → Leads s (f pa v t)) : Leads s (loadAt n va s f) :=
  ite (raise _ (.refl s)) (translated fun pa => h _ _ _ (.memRead s pa n))

theorem loadFrom (n : Nat) (va : Dword) {f : Dword → State → Result} (h : ∀ v t, Updates s t → Leads s (f v t)) :
    Leads s (loadFrom n va s f) := loadAt n va fun _ => h

theorem loadGpr (rt : Reg) (v : Dword) (h : Updates s u) : Leads s (loadGpr rt v u) :=
  seq (h.trans (.quiet rfl))

/-- A load of a general register. -/
theorem loads (n : Nat) (va : Dword) (rt : Reg) (f : Dword → Dword) :
    Leads s (Machine.loadFrom n va s fun v s' => Machine.loadGpr rt (f v) s') :=
  loadFrom n va fun v _ => loadGpr rt (f v)

theorem loadUnit (n : Nat) (va : Dword) {f : Dword → Nat → State → Result}
    (h : ∀ v k t, Updates s t → Leads s (f v k t)) : Leads s (loadUnit n va s f) :=
  translated fun _ => h _ _ _ (.memRead ..)

/-- An unaligned-access load of a general register. -/
theorem loadsUnit (n : Nat) (va : Dword) (rt : Reg) (f : Dword → Nat → Dword) :
    Leads s (Machine.loadUnit n va s fun v k s' => Machine.loadGpr rt (f v k) s') :=
  loadUnit n va fun v k _ => loadGpr rt (f v k)

theorem storeAt (n : Nat) (va : Dword) {f : Word → Result} (h : ∀ pa, Leads s (f pa)) : Leads s (storeAt n va s f) :=
  ite (raise _ (.refl s)) (translated h)

theorem storeTo (n : Nat) (va v : Dword) : Leads s (storeTo n va v s Machine.seq) :=
  storeAt n va fun _ => stored (fun _ => .memWrite) fun _ => seq

theorem storeUnit (n : Nat) (va : Dword) (value : Nat → Dword) (mask : Nat → Byte) :
    Leads s (storeUnit n va value mask s) :=
  translated fun _ => stored (fun _ => .memWriteMasked) fun _ => seq

theorem storeConditional (n : Nat) (va : Dword) (rt : Reg) : Leads s (storeConditional n va rt s) :=
  storeAt n va fun _ =>
    ite (stored (fun _ => .memWrite) fun _ h => seq (h.trans (.quiet rfl))) (seqQuiet rfl)

theorem trapIf (c : Bool) : Leads s (trapIf c s) := ite (raise _ (.refl s)) (seq (.refl s))

theorem cp0Write (n : Reg) (v : Dword) : Leads s (Machine.stored (cp0Write s n v) Machine.seq) :=
  stored (fun _ h => .single (.cp0 n v h)) fun _ => seq

theorem cp0Read (s : State) (n : Reg) : Updates s (cp0Read s n).2 := by
  unfold Machine.cp0Read
  split
  · exact .refl s
  · exact .quiet rfl

theorem exceptionReturn : Leads s (exceptionReturn s) := by
  unfold Machine.exceptionReturn
  split
  · exact refused _
  · next s' h => exact next (.trans (.single (.exceptionReturn h)) (.single (.retireEret ..)))

end Leads

/-! ## Bits that stay 0 -/

section HardWired

variable {w : Nat} {x y m : BitVec w}

theorem or_and_eq_zero (hx : x &&& m = 0) (hy : y &&& m = 0) : (x ||| y) &&& m = 0 := by
  rw [BitVec.and_comm, BitVec.and_or_distrib_left, BitVec.and_comm m x, BitVec.and_comm m y, hx, hy]
  exact BitVec.or_zero

theorem and_and_eq_zero (b : BitVec w) (hx : x &&& m = 0) : x &&& b &&& m = 0 := by
  rw [BitVec.and_assoc, BitVec.and_comm b m, ← BitVec.and_assoc, hx]
  exact BitVec.zero_and

/-- What a mask lets through has no bit where the mask has none. -/
theorem mask_and_eq_zero (x : BitVec w) {b : BitVec w} (hb : b &&& m = 0) : x &&& b &&& m = 0 := by
  rw [BitVec.and_assoc, hb]
  exact BitVec.and_zero

/-- Writing a bit outside the mask keeps the masked bits 0. -/
theorem setBit_and_eq_zero (k : Nat) (b : Bool) (hx : x &&& m = 0) (hk : m.getLsbD k = false) :
    setBit x k b &&& m = 0 := by
  apply BitVec.eq_of_getLsbD_eq
  intro j hj
  have hxj := congrArg (fun v => v.getLsbD j) hx
  simp only [BitVec.getLsbD_and, BitVec.ofNat_eq_ofNat, BitVec.getLsbD_zero] at hxj ⊢
  rw [getLsbD_setBit]
  split
  · next h => rw [h, hk, Bool.and_false]
  · exact hxj

end HardWired

/-! ## The FPU -/

/-- Replacing Cause does not reach the hard-wired bits of FCR31. -/
theorem fcrWithCause_hardwired {f : Word} (c : BitVec 6) (h : f &&& 0xFE7C0000 = 0) :
    fcrWithCause f c &&& 0xFE7C0000 = 0 := by
  have hc : ∀ c : BitVec 6, (c.setWidth 32 <<< 12) &&& (0xFE7C0000 : Word) = 0 := by decide
  exact or_and_eq_zero (and_and_eq_zero _ h) (hc c)

/-- Nor does accumulating flags. -/
theorem fcrAddFlags_hardwired {f : Word} (flags : BitVec 5) (h : f &&& 0xFE7C0000 = 0) :
    fcrAddFlags f flags &&& 0xFE7C0000 = 0 := by
  have hflags : ∀ c : BitVec 5, (c.setWidth 32 <<< 2) &&& (0xFE7C0000 : Word) = 0 := by decide
  exact or_and_eq_zero h (hflags flags)

theorem Updates.writeFpr (f : Fmt) (s : State) (i : Reg) (v : Dword) : Updates s (writeFpr f s i v) := by
  have h32 : Updates s (writeFpr32 s i (lo32 v)) := by
    unfold writeFpr32
    split <;> exact quiet rfl
  cases f
  · exact h32
  · exact quiet rfl
  · exact h32
  · exact quiet rfl

theorem Updates.fcrRead (s : State) (i : Reg) : Updates s (fcrRead s i).2 := by
  unfold Machine.fcrRead
  split
  · exact refl s
  · split
    · exact refl s
    · exact quiet rfl

namespace Leads

variable {s : State}

theorem fpUnimplemented : Leads s (fpUnimplemented s) :=
  raise _ (.single (.fcr31 s _ (fcrWithCause_hardwired _)))

theorem fpFinish (flags : BitVec 5) {write : State → State} (hw : ∀ u, Updates u (write u)) :
    Leads s (fpFinish s flags write) :=
  ite (raise _ (.single (.fcr31 s _ (fcrWithCause_hardwired _))))
    (seq (.trans (.single (.fcr31 s _ fun h => fcrAddFlags_hardwired _ (fcrWithCause_hardwired _ h))) (hw _)))

theorem fpArith (op : FpOp) (fin fout : Fmt) (rm : BitVec 2) (a b : Dword) (fd : Reg) :
    Leads s (fpArith op fin fout rm a b fd s) := by
  unfold Machine.fpArith
  split
  · exact fpUnimplemented
  · exact ite fpUnimplemented (fpFinish _ fun u => .writeFpr fout u fd _)

theorem fpBinary (op : FpOp) (f : Fmt) (fd fs ft : Reg) : Leads s (fpBinary op f fd fs ft s) := onFprs (fpArith ..)

theorem fpUnary (op : FpOp) (f : Fmt) (fd fs : Reg) : Leads s (fpUnary op f fd fs s) := onFprs (fpArith ..)

theorem fpConvert (fin fout : Fmt) (rm : BitVec 2) (fd fs : Reg) : Leads s (fpConvert fin fout rm fd fs s) :=
  onFprs (fpArith ..)

theorem fpMove (f : Fmt) (fd fs : Reg) : Leads s (fpMove f fd fs s) := onFprs (seq (.writeFpr ..))

theorem fpCompare (f : Fmt) (cond : BitVec 4) (fs ft : Reg) : Leads s (fpCompare f cond fs ft s) := by
  refine onFprs ?_
  split
  · exact fpUnimplemented
  · exact ite fpUnimplemented (fpFinish _ fun u => .single (.fcr31 u _ fun h => setBit_and_eq_zero 23 _ h (by decide)))

theorem execCtc1 (rt fs : Reg) : Leads s (execCtc1 rt fs s) := by
  have hmask : Update s (setFcr31 s (lo32 (gpr s rt) &&& fcr31Mask)) :=
    .fcr31 s _ fun _ => mask_and_eq_zero _ (by decide)
  exact withCp1 (ite (ite (raise _ (.single hmask)) (seq (.single hmask))) (seq (.refl s)))

/-! ## The VectorUnit -/

theorem vuControlTransfer {r : Result} (h : Leads s r) : Leads s (vuControlTransfer s r) := ite (refused _) h

theorem vuLinkNotSource {c : Bool} {r : Result} (h : Leads s r) : Leads s (vuLinkNotSource c r) := ite (refused _) h

/-- A VectorUnit branch, past a write of the link register where it links. -/
theorem vuBranch {u : State} (taken : Bool) {target : BitVec 12} (h : tracked u = tracked s)
    (ht : u.vu.pc.toNat % 4 = 0 → target.toNat % 4 = 0) : Leads s (.next (vuRetireBranch taken target u)) :=
  next (.trans (.quiet h) (.single (.vuRetireBranch taken target u ht)))

end Leads

/-! ## The VectorUnit's targets are words' addresses (R638) -/

theorem vuRegisterTarget_mod (v : Word) : (vuRegisterTarget v).toNat % 4 = 0 := by
  have h : (vuRegisterTarget v).setWidth 2 = 0 := by
    apply BitVec.eq_of_getLsbD_eq
    intro i hi
    have : i = 0 ∨ i = 1 := by omega
    rcases this with rfl | rfl <;> simp [vuRegisterTarget]
  simpa using congrArg BitVec.toNat h

theorem vuJumpTarget_mod (target : BitVec 26) : (vuJumpTarget target).toNat % 4 = 0 := by
  simp only [vuJumpTarget, BitVec.toNat_shiftLeft, Nat.shiftLeft_eq]
  omega

theorem vuBranchTarget_mod {pc : BitVec 12} (imm : BitVec 16) (h : pc.toNat % 4 = 0) :
    (vuBranchTarget pc imm).toNat % 4 = 0 := by
  have htarget : vuBranchTarget pc imm = pc + 4#12 + (imm.setWidth 12 <<< 2) := rfl
  simp only [htarget, BitVec.toNat_add, BitVec.toNat_ofNat, BitVec.toNat_shiftLeft, Nat.shiftLeft_eq]
  omega

namespace Leads

variable {s : State}

theorem vuBranchOn (taken : Bool) (imm : BitVec 16) : Leads s (vuBranchOn taken imm s) :=
  vuControlTransfer (vuBranch taken rfl (vuBranchTarget_mod imm))

theorem vuBranchLinkOn (taken : Bool) (rs : Reg) (imm : BitVec 16) : Leads s (vuBranchLinkOn taken rs imm s) :=
  vuControlTransfer (vuLinkNotSource (vuBranch taken rfl (vuBranchTarget_mod imm)))

theorem vectorStore (n : Nat) (a : Word) (vt : Reg) (e : BitVec 4) : Leads s (vectorStore n a vt e s) :=
  vuSeq (.storeImage ..)

theorem execRspBreak (code : BitVec 20) : Leads s (execRspBreak code s) := by
  refine next (Updates.trans (.single (.vuRetireSeq s)) ?_)
  unfold vuBreak
  split <;> exact .quiet rfl

theorem execRspMfc0 (rt rd : Reg) : Leads s (execRspMfc0 rt rd s) := by
  unfold Machine.execRspMfc0
  split
  · exact refused _
  · exact vuSeq ((Updates.memRead ..).trans (.quiet rfl))

theorem execRspMtc0 (rt rd : Reg) : Leads s (execRspMtc0 rt rd s) := by
  unfold Machine.execRspMtc0
  split
  · exact refused _
  · exact stored (fun _ => .memWrite) fun _ => vuSeq

theorem execRspCfc2 (rt rd : Reg) : Leads s (execRspCfc2 rt rd s) :=
  ite (vuSeqQuiet rfl) (ite (vuSeqQuiet rfl) (ite (vuSeqQuiet rfl) (refused _)))

theorem execRspCtc2 (rt rd : Reg) : Leads s (execRspCtc2 rt rd s) :=
  ite (vuSeqQuiet rfl) (ite (vuSeqQuiet rfl) (ite (vuSeqQuiet rfl) (refused _)))

end Leads

/-! ## The DisplayProcessor -/

namespace Updates

theorem setDpState (op : BitVec 8) (payload : BitVec 56) (s : State) : Updates s (setDpState op payload s) :=
  single (.draw s _ id id (Store.wf_set _ _))

theorem setPixel (s : State) (x y : Nat) (c : Word) : Updates s (setPixel s x y c) :=
  single (.draw s _ (Store.wf_set _ _) id id)

theorem setDepth (s : State) (x y : Nat) (z : Word) : Updates s (setDepth s x y z) :=
  single (.draw s _ id (Store.wf_set _ _) id)

theorem newBuffers (s : State) (w : Nat) : Updates s (newBuffers s w) :=
  single (.draw s _ (fun _ => rfl) (fun _ => rfl) id)

theorem plot (op : BitVec 8) (px py : Nat) (p : Vertex) (s : State) : Updates s (plot op px py p s) := by
  unfold Machine.plot
  split
  · dsimp only
    split
    · exact (setPixel ..).trans (setDepth ..)
    · exact refl s
  · exact setPixel ..

theorem scanPixel (op : BitVec 8) (l r : Vertex) (py px : Nat) (s : State) :
    Updates s (scanPixel op l r py px s) := by
  unfold Machine.scanPixel
  split
  · exact plot ..
  · exact refl s

theorem scanLine (op : BitVec 8) (a b c : Vertex) (py : Nat) (s : State) : Updates s (scanLine op a b c py s) := by
  unfold Machine.scanLine
  split
  · exact foldl (fun s' px => scanPixel op _ _ py px s') _ s
  · exact refl s

theorem drawTriangle (op : BitVec 8) (v : Vertex × Vertex × Vertex) (s : State) : Updates s (drawTriangle op v s) :=
  foldl (fun s' py => scanLine op _ _ _ py s') _ s

theorem fillRow (x0 x1 : Nat) (c : Word) (y : Nat) (s : State) : Updates s (fillRow x0 x1 c y s) :=
  single (.draw s _ (Store.wf_fill _ _ _) id id)

theorem fillRectangle (x0 x1 y0 y1 : Nat) (s : State) : Updates s (fillRectangle x0 x1 y0 y1 s) :=
  foldl (fun s' k => fillRow x0 x1 _ (y0 + k) s') _ s

end Updates

theorem Leads.triangle {s : State} (op : BitVec 8) (payload : BitVec 56) (rest : List Dword) :
    Leads s (triangle op payload rest s) := by
  unfold Machine.triangle
  split
  · exact refused _
  · exact next (.drawTriangle ..)

theorem Leads.setCommand {s : State} (op : BitVec 8) (payload : BitVec 56) : Leads s (setCommand op payload s) :=
  next (.setDpState ..)

/-! ## Every instruction -/

namespace Leads

theorem exec (i : Instr) (s : State) : Leads s (exec i s) := by
  cases i with
  | add | sub | addi => exact on32 (checked ..)
  | dadd | dsub | daddi => exact checked ..
  | addu | subu | addiu | sll | srl | sra | sllv | srlv | srav | mult | multu => exact on32 (seqQuiet rfl)
  | daddu | dsubu | daddiu | and | or | xor | nor | andi | ori | xori | lui | slt | sltu | slti | sltiu | dsll | dsrl
  | dsra | dsll32 | dsrl32 | dsra32 | dsllv | dsrlv | dsrav | dmult | dmultu | mfhi | mflo | mthi | mtlo | sync | cache =>
    exact seqQuiet rfl
  | div | divu => exact on32 (ite (divideByZero ..) (seqQuiet rfl))
  | ddiv | ddivu => exact ite (divideByZero ..) (seqQuiet rfl)
  | beq | bne | blez | bgtz | bltz | bgez | beql | bnel | blezl | bgtzl | bltzl | bgezl => exact branchOn ..
  | bltzal | bgezal | bltzall | bgezall => exact branchLinkOn ..
  | j | jr => exact controlTransfer (next (.single (.retireBranch ..)))
  | jal => exact controlTransfer (linked ..)
  | jalr => exact controlTransfer (linkNotSource (linked ..))
  | lb | lbu | lh | lhu | lw | lwu | ld =>
    dsimp only [Machine.exec]
    exact loads ..
  | sb | sh | sw | sd => exact storeTo ..
  | lwl | lwr | ldl | ldr =>
    dsimp only [Machine.exec]
    exact loadsUnit ..
  | swl | swr | sdl | sdr =>
    dsimp only [Machine.exec]
    exact storeUnit ..
  | ll | lld =>
    dsimp only [Machine.exec]
    exact loadAt _ _ fun _ _ _ h => seq (h.trans (.quiet rfl))
  | sc | scd => exact storeConditional ..
  | syscall | brk => exact raise _ (.refl s)
  | tge | tgeu | tlt | tltu | teq | tne | tgei | tgeiu | tlti | tltiu | teqi | tnei => exact trapIf _
  | mfc0 => exact seq ((cp0Read s _).trans (.quiet rfl))
  | dmfc0 => exact ite (seq ((cp0Read s _).trans (.quiet rfl))) (refused _)
  | mtc0 => exact cp0Write ..
  | dmtc0 => exact ite (cp0Write ..) (refused _)
  | eret => exact controlTransfer exceptionReturn
  | cfc1 => exact withCp1 (seq ((Updates.fcrRead ..).trans (.quiet rfl)))
  | ctc1 => exact execCtc1 ..
  | mfc1 => exact withCp1 (seqQuiet rfl)
  | mtc1 => exact withCp1 (seq (.writeFpr .w s _ _))
  | dmfc1 | dmtc1 => exact onFprs (seqQuiet rfl)
  | lwc1 => exact withCp1 (loadFrom _ _ fun v _ h => seq (h.trans (.writeFpr .w _ _ v)))
  | ldc1 => exact onFprs (loadFrom _ _ fun v _ h => seq (h.trans (.writeFpr .d _ _ v)))
  | swc1 => exact withCp1 (storeTo ..)
  | sdc1 => exact onFprs (storeTo ..)
  | bc1f | bc1t | bc1fl | bc1tl => exact withCp1 (branchOn ..)
  | addS | addD | subS | subD | mulS | mulD | divS | divD => exact fpBinary ..
  | sqrtS | sqrtD | absS | absD | negS | negD => exact fpUnary ..
  | movS | movD => exact fpMove ..
  | roundLS | roundLD | truncLS | truncLD | ceilLS | ceilLD | floorLS | floorLD | roundWS | roundWD | truncWS | truncWD
  | ceilWS | ceilWD | floorWS | floorWD | cvtSD | cvtSW | cvtSL | cvtDS | cvtDW | cvtDL | cvtWS | cvtWD | cvtLS | cvtLD =>
    exact fpConvert ..
  | cFS | cFD | cUnS | cUnD | cEqS | cEqD | cUeqS | cUeqD | cOltS | cOltD | cUltS | cUltD | cOleS | cOleD | cUleS | cUleD
  | cSfS | cSfD | cNgleS | cNgleD | cSeqS | cSeqD | cNglS | cNglD | cLtS | cLtD | cNgeS | cNgeD | cLeS | cLeD | cNgtS
  | cNgtD => exact fpCompare ..
  -- The VectorUnit: a write of its registers, a load or a lane-wise operation.
  | rspSll | rspSrl | rspSra | rspSllv | rspSrlv | rspSrav | rspAdd | rspAddu | rspSub | rspSubu | rspAnd | rspOr
  | rspXor | rspNor | rspSlt | rspSltu | rspAddi | rspAddiu | rspSlti | rspSltiu | rspAndi | rspOri | rspXori | rspLui
  | rspLb | rspLh | rspLw | rspLbu | rspLhu | rspLwu | rspMfc2 | rspMtc2 | rspLbv | rspLsv | rspLlv | rspLdv | rspLqv
  | rspVadd | rspVsub | rspVabs | rspVand | rspVnand | rspVor | rspVnor | rspVxor | rspVnxor | rspVlt | rspVeq | rspVne
  | rspVge | rspVmrg | rspVsar | rspVnop => exact vuSeqQuiet rfl
  | rspJr => exact vuControlTransfer (vuBranch _ rfl fun _ => vuRegisterTarget_mod _)
  | rspJalr => exact vuControlTransfer (vuLinkNotSource (vuBranch _ rfl fun _ => vuRegisterTarget_mod _))
  | rspJ | rspJal => exact vuControlTransfer (vuBranch _ rfl fun _ => vuJumpTarget_mod _)
  | rspBeq | rspBne | rspBlez | rspBgtz | rspBltz | rspBgez => exact vuBranchOn ..
  | rspBltzal | rspBgezal => exact vuBranchLinkOn ..
  | rspBreak code => exact execRspBreak code
  | rspSb | rspSh | rspSw => exact vuSeq (.dmemWrite ..)
  | rspMfc0 => exact execRspMfc0 ..
  | rspMtc0 => exact execRspMtc0 ..
  | rspCfc2 => exact execRspCfc2 ..
  | rspCtc2 => exact execRspCtc2 ..
  | rspSbv | rspSsv | rspSlv | rspSdv | rspSqv => exact vectorStore ..
  -- The DisplayProcessor.
  | rdpNop | rdpSyncLoad | rdpSyncPipe | rdpSyncTile => exact .refl s
  | rdpSyncFull => exact .quiet rfl
  | rdpTriangle | rdpTriangleZ | rdpTriangleTex | rdpTriangleTexZ | rdpTriangleShade | rdpTriangleShadeZ
  | rdpTriangleShadeTex | rdpTriangleShadeTexZ => exact triangle ..
  | rdpSetKeyGb | rdpSetKeyR | rdpSetConvert | rdpSetScissor | rdpSetPrimDepth | rdpSetOtherModes | rdpLoadTlut
  | rdpSetTileSize | rdpLoadBlock | rdpLoadTile | rdpSetTile | rdpSetFogColor | rdpSetBlendColor | rdpSetPrimColor
  | rdpSetEnvColor | rdpSetCombineMode | rdpSetTextureImage | rdpSetZImage => exact setCommand ..
  | rdpFillRectangle => exact next (.fillRectangle ..)
  | rdpSetFillColor => exact next (.quiet rfl)
  | rdpSetColorImage => exact ite (setCommand ..) (next ((Updates.setDpState ..).trans (.newBuffers ..)))
  -- Refused by name.
  | _ => exact refused _

end Leads

/-! ## Every step -/

namespace Leads

variable {s : State}

theorem cpuEnd (poll : Bool) {r : Result} (h : Leads s r) : Leads s (cpuEnd poll r) := by
  cases r with
  | fault => exact h
  | refused => trivial
  | next t =>
    have htick : Updates s (countTick t) := Updates.trans h (.single (.countTick t))
    cases poll
    · exact htick
    · refine Updates.trans htick (?_ : Updates (countTick t) (pollInterrupt (countTick t)))
      unfold pollInterrupt
      split
      · exact .single (.enter ..)
      · exact .refl _

/-- A meaning run at the end of a chain. -/
theorem after {u : State} {r : Result} (h : Updates s u) (hr : Leads u r) : Leads s r := by
  cases r with
  | fault => exact hr
  | refused => trivial
  | next t => exact h.trans hr

theorem cpuRun (w : Word) : Leads s (cpuRun w s) := by
  unfold Machine.cpuRun
  split
  · exact cpuEnd _ (exec _ s)
  · exact cpuEnd _ (raise _ (.refl s))
  · exact cpuEnd _ (raise _ (.refl s))

theorem cpuStep : Leads s (cpuStep s) := by
  unfold Machine.cpuStep
  split
  · exact cpuEnd _ (raise _ (.refl s))
  · split
    · exact after (.memRead ..) (cpuRun _)
    · exact cpuEnd _ (raise _ (.refl s))
    · exact refused _

theorem vuStep : Leads s (vuStep s) := by
  unfold Machine.vuStep vuRun
  split
  · next i _ =>
    have hexec := exec i s
    cases h : Machine.exec i s with
    | fault w => rw [h] at hexec; exact hexec
    | refused => trivial
    | next t =>
      refine Updates.trans (hexec.updates h) ?_
      unfold vuSingleStep
      split
      · exact .quiet rfl
      · exact .refl t
  · exact refused _

theorem rdpRun (ws : List Dword) : Leads s (rdpRun ws s) := by
  unfold Machine.rdpRun
  split
  · exact exec _ s
  · exact next (.refl s)
  · exact refused _

end Leads

/-- All that a DMA copy changes: memory, the sound that is put out, and the semaphore where the cartridge address is SP's. -/
def Copied (s t : State) : Prop :=
  ∃ m audio semaphore, t = { s with mem := m, out.audio := audio, sp.semaphore := semaphore } ∧
    (Memory.wf s.mem = true → Memory.wf m = true)

namespace Copied

theorem refl (s : State) : Copied s s := ⟨s.mem, s.out.audio, s.sp.semaphore, rfl, id⟩

theorem trans {s t u : State} (h : Copied s t) (h' : Copied t u) : Copied s u := by
  obtain ⟨m, a, b, rfl, hm⟩ := h
  obtain ⟨m', a', b', rfl, hm'⟩ := h'
  exact ⟨m', a', b', rfl, hm' ∘ hm⟩

theorem store (s : State) {m : List Host.Cell} (h : Memory.wf s.mem = true → Memory.wf m = true) :
    Copied s { s with mem := m } := ⟨m, s.out.audio, s.sp.semaphore, rfl, h⟩

theorem updates {s t : State} (h : Copied s t) : Updates s t := by
  obtain ⟨m, a, b, rfl, hm⟩ := h
  exact (Updates.single (.store s m hm)).trans (.quiet rfl)

/-- A loop over steps that copy copies. -/
theorem foldlM {α : Type} {f : State → α → Except Refusal State} (hf : ∀ s a t, f s a = .ok t → Copied s t)
    (l : List α) {s t : State} (h : l.foldlM f s = .ok t) : Copied s t := by
  induction l generalizing s with
  | nil =>
    cases h
    exact refl _
  | cons a l ih =>
    rw [List.foldlM_cons] at h
    cases ha : f s a with
    | error e => simp [ha, bind, Except.bind] at h
    | ok u =>
      simp only [ha, bind, Except.bind] at h
      exact (hf s a u ha).trans (ih h)

theorem dmaRead (q : DmaRequest) (row i : Nat) (s : State) : Copied s (dmaRead q row i s).2 := by
  have hbus (pa : Word) : Copied s (memRead s pa 1).2 := by
    rcases memRead_cases s pa 1 with h | h <;> rw [h]
    · exact refl s
    · exact ⟨s.mem, s.out.audio, true, rfl, id⟩
  unfold Machine.dmaRead
  split
  · exact hbus _
  · exact hbus _
  all_goals exact refl s

/-- A write of one byte goes to memory or nowhere: a register group refuses it. -/
theorem memWrite {s t : State} {pa : Word} {v : Dword} (h : memWrite s pa 1 v = .ok t) : Copied s t := by
  rcases memWrite_ok h with rfl | rfl | ⟨_, _, _, hn, _⟩ | ⟨hn, _⟩
  · exact refl _
  · exact store s (Memory.wf_write _ _ _)
  · exact absurd hn (by decide)
  · exact absurd hn (by decide)

theorem dmaWrite {q : DmaRequest} {row i : Nat} {b : Byte} {s t : State} (h : dmaWrite q row i b s = .ok t) :
    Copied s t := by
  unfold Machine.dmaWrite at h
  split at h
  · exact memWrite h
  · cases h
    exact refl s
  · cases h
    exact store s (Memory.wf_setByte _ _)
  · cases h
    exact store s (Memory.wf_setByte _ _)
  · cases h
    exact ⟨s.mem, _, s.sp.semaphore, rfl, id⟩

theorem dmaCopy {q : DmaRequest} {s t : State} (h : dmaCopy q s = .ok t) : Copied s t :=
  foldlM (fun _ _ _ => foldlM (fun _ _ _ hb => (dmaRead ..).trans (dmaWrite hb)) _) _ h

end Copied

theorem Leads.dmaStep {s : State} : Leads s (dmaStep s) := by
  unfold Machine.dmaStep
  split
  · next q hq =>
    cases hcopy : dmaCopy q s with
    | error e => trivial
    | ok u =>
      have hu := Copied.dmaCopy hcopy
      refine hu.updates.trans (.single ?_)
      obtain ⟨m, a, b, rfl, -⟩ := hu
      exact .complete _ q hq
  · exact next (.quiet rfl)

theorem Updates.endTick (s : State) : Updates s (endTick s) :=
  (Updates.single (.frame s)).trans (.quiet rfl)

theorem Updates.flushBegin (s : State) : Updates s (flushBegin s) := by
  have hdraw : Updates s { s with
      rdp.depth := if (streamCommands s).any (isClearDirective s.cfg) then [] else s.rdp.depth } := by
    refine .single (.draw s _ id (fun h => ?_) id)
    dsimp only
    split
    · rfl
    · exact h
  exact hdraw.trans (.quiet rfl)

/-- Every step is a chain of updates, or refused. -/
theorem step_leads (s : State) : Leads s (step s) := by
  unfold step machineStep
  split
  · exact .refused _
  · have hphase (p : Phase) : Updates s (setPhase p s) := .quiet rfl
    unfold phaseStep
    split
    · refine .next ?_
      unfold tickBegin
      split
      · exact .refl s
      · exact .quiet rfl
    · exact .next (hphase _)
    · exact .after (hphase _) .cpuStep
    · exact .dmaStep
    · exact .next (hphase _)
    · split
      · exact .next (hphase _)
      · exact .after (hphase _) .vuStep
    · exact .next (.flushBegin s)
    · exact .next ((hphase .frame).trans (.single (.draw _ _ id id id)))
    · exact .after (hphase _) (.rdpRun _)
    · exact .next (.endTick s)

/-- An invariant that every update keeps is kept by every step. -/
theorem step_keeps {P : State → Prop} (hP : ∀ {s t}, Update s t → P s → P t) {s t : State} (h : step s = .next t)
    (hs : P s) : P t := ((step_leads s).updates h).keeps hP hs

end Sys2Proof.Machine
end

section
/-! PROOFS. What every step keeps: the canonical stores, the hard-wired bits and counters, the busy bits
(spec/10_state.md R45 to R82, spec/20_memory.md R202, R204). -/

namespace Sys2Proof.Machine

/-! ## CP0 -/

/-- The hard-wired bits of CP0 are as the spec says (R50, R51, R57, R59). -/
structure HardWiredCp0 (s : State) : Prop where
  status : s.cp0.status &&& 0x00A80000 = 0
  cause : s.cp0.cause &&& 0x4FFF7C83 = 0
  config : (s.cp0.config ^^^ s.cfg.configReset) &&& 0xFFFFFFF0 = 0
  watchLo : s.cp0.watchLo &&& 0x00000007 = 0
  watchHi : s.cp0.watchHi &&& 0xFFFFFFF0 = 0

/-- A write of Config's low bits leaves the others at their reset value (R57). -/
theorem config_write_hardWired {old reset : Word} (v : Word) (h : (old ^^^ reset) &&& 0xFFFFFFF0 = 0) :
    (((v &&& 0x0000000F) ||| (old &&& 0xFFFFFFF0)) ^^^ reset) &&& 0xFFFFFFF0 = 0 := by
  have hmask : ∀ j < 32, ((0x0000000F : Word).getLsbD j && (0xFFFFFFF0 : Word).getLsbD j) = false := by decide
  apply BitVec.eq_of_getLsbD_eq
  intro j hj
  have hbit := congrArg (fun x => x.getLsbD j) h
  have hj := hmask j hj
  simp only [BitVec.getLsbD_and, BitVec.getLsbD_xor, BitVec.getLsbD_or] at hbit ⊢
  cases hhigh : (0xFFFFFFF0 : Word).getLsbD j with
  | false => simp
  | true =>
    rw [hhigh, Bool.and_true] at hj hbit
    simpa only [hj, Bool.and_false, Bool.and_true, Bool.false_or] using hbit

/-- WatchLo without its watch bits (R59). -/
theorem watchLo_write_hardWired {v : Dword} (h : ¬(v.getLsbD 1 || v.getLsbD 0) = true) :
    lo32 v &&& 0xFFFFFFFB &&& 0x00000007 = 0 := by
  have hmask : ∀ j < 32, 2 ≤ j → ((0xFFFFFFFB : Word).getLsbD j && (0x00000007 : Word).getLsbD j) = false := by decide
  obtain ⟨h1, h0⟩ := Bool.or_eq_false_iff.mp (Bool.eq_false_iff.mpr h)
  apply BitVec.eq_of_getLsbD_eq
  intro j hj
  obtain rfl | rfl | hrest : j = 0 ∨ j = 1 ∨ 2 ≤ j := by omega
  · simpa [lo32] using h0
  · simpa [lo32] using h1
  · simp only [BitVec.getLsbD_and, Bool.and_assoc, hmask j hj hrest, Bool.and_false]
    exact BitVec.getLsbD_zero.symm

/-- A CP0 write changes CP0 alone, keeps its hard-wired bits and kernel mode (R539, R870). -/
theorem cp0Write_keeps {s t : State} {n : Reg} {v : Dword} (h : cp0Write s n v = .ok t) :
    t = { s with cp0 := t.cp0 } ∧ (kernelMode s = true → kernelMode t = true) ∧ (HardWiredCp0 s → HardWiredCp0 t) := by
  unfold cp0Write at h
  rcases ite_eq_iff.mp h with ⟨-, h⟩ | ⟨-, h⟩
  · cases h
    exact ⟨rfl, id, fun hs => ⟨hs.status, hs.cause, hs.config, hs.watchLo, hs.watchHi⟩⟩
  rcases ite_eq_iff.mp h with ⟨-, h⟩ | ⟨-, h⟩
  · cases h
    exact ⟨rfl, id, fun hs =>
      ⟨hs.status, setBit_and_eq_zero 15 false hs.cause (by decide), hs.config, hs.watchLo, hs.watchHi⟩⟩
  rcases ite_eq_iff.mp h with ⟨-, h⟩ | ⟨-, h⟩
  · obtain ⟨rfl, hmode⟩ := modeCheck_ok h
    exact ⟨rfl, fun _ => hmode, fun hs =>
      ⟨mask_and_eq_zero _ (by decide), hs.cause, hs.config, hs.watchLo, hs.watchHi⟩⟩
  rcases ite_eq_iff.mp h with ⟨-, h⟩ | ⟨-, h⟩
  · cases h
    exact ⟨rfl, id, fun hs => ⟨hs.status,
      or_and_eq_zero (and_and_eq_zero _ hs.cause) (mask_and_eq_zero _ (by decide)), hs.config, hs.watchLo, hs.watchHi⟩⟩
  rcases ite_eq_iff.mp h with ⟨-, h⟩ | ⟨-, h⟩
  · cases h
    exact ⟨rfl, id, fun hs => ⟨hs.status, hs.cause, hs.config, hs.watchLo, hs.watchHi⟩⟩
  rcases ite_eq_iff.mp h with ⟨-, h⟩ | ⟨-, h⟩
  · cases h
    exact ⟨rfl, id, fun hs => ⟨hs.status, hs.cause, config_write_hardWired _ hs.config, hs.watchLo, hs.watchHi⟩⟩
  rcases ite_eq_iff.mp h with ⟨-, h⟩ | ⟨-, h⟩
  · cases h
    exact ⟨rfl, id, fun hs => ⟨hs.status, hs.cause, hs.config, hs.watchLo, hs.watchHi⟩⟩
  rcases ite_eq_iff.mp h with ⟨-, h⟩ | ⟨-, h⟩
  · rcases ite_eq_iff.mp h with ⟨-, h⟩ | ⟨hwatch, h⟩
    · cases h
    · cases h
      exact ⟨rfl, id, fun hs => ⟨hs.status, hs.cause, hs.config, watchLo_write_hardWired hwatch, hs.watchHi⟩⟩
  rcases ite_eq_iff.mp h with ⟨-, h⟩ | ⟨-, h⟩
  · cases h
    exact ⟨rfl, id, fun hs =>
      ⟨hs.status, hs.cause, hs.config, hs.watchLo, mask_and_eq_zero _ (by decide)⟩⟩
  rcases ite_eq_iff.mp h with ⟨-, h⟩ | ⟨-, h⟩
  · cases h
    exact ⟨rfl, id, fun hs => ⟨hs.status, hs.cause, hs.config, hs.watchLo, hs.watchHi⟩⟩
  · cases h
    exact ⟨rfl, id, id⟩

/-- ERET's writes keep the hard-wired bits of CP0 (R540). -/
theorem eretEffects_hardWired {s : State} (h : HardWiredCp0 s) : HardWiredCp0 (eretEffects s) where
  status := by
    dsimp only [eretEffects, eretClearMi]
    split <;> exact setBit_and_eq_zero _ _ h.status (by decide)
  cause := h.cause
  config := h.config
  watchLo := h.watchLo
  watchHi := h.watchHi

/-- So does exception entry (R810 to R813). -/
theorem enter_hardWired (e : Exception) (slot : Bool) {s : State} (h : HardWiredCp0 s) :
    HardWiredCp0 (enter e slot s) where
  status := or_and_eq_zero h.status (by decide)
  cause := by
    have hcode : ∀ code : BitVec 5, (code.setWidth 32 <<< 2) &&& (0x4FFF7C83 : Word) = 0 := by decide
    have hce : ∀ z : BitVec 2, (z.setWidth 32 <<< 28) &&& (0x4FFF7C83 : Word) = 0 := by decide
    have hbd : (if statusExl s then s.cp0.cause else setBit s.cp0.cause 31 slot) &&& 0x4FFF7C83 = 0 := by
      split
      · exact h.cause
      · exact setBit_and_eq_zero _ _ h.cause (by decide)
    have hcause := or_and_eq_zero (and_and_eq_zero 0xFFFFFF83 hbd) (hcode (excCode e))
    dsimp only [enter, causeAfterEntry]
    split
    · exact or_and_eq_zero (and_and_eq_zero _ hcause) (hce _)
    · exact hcause
  config := h.config
  watchLo := h.watchLo
  watchHi := h.watchHi

/-- And a tick of Count (R861). -/
theorem countTick_hardWired {s : State} (h : HardWiredCp0 s) : HardWiredCp0 (countTick s) := by
  rcases countTick_cases s with heq | heq <;> rw [heq]
  · exact ⟨h.status, h.cause, h.config, h.watchLo, h.watchHi⟩
  · refine ⟨h.status, ?_, h.config, h.watchLo, h.watchHi⟩
    dsimp only
    split
    · exact setBit_and_eq_zero _ _ h.cause (by decide)
    · exact h.cause

/-! ## DMA completion (R204) -/

/-- PIF processing keeps memory's canonical form (R206). -/
theorem pifProcess_wf {s : State} (h : Memory.wf s.mem = true) : Memory.wf (pifProcess s).mem = true := by
  have hfold (l : List Nat) (b : Nat → Byte) (m : List Host.Cell) (hm : Memory.wf m = true) :
      Memory.wf (l.foldl (fun m k => Memory.setByte m (pifBase + k) (b k)) m) = true := by
    induction l generalizing m with
    | nil => exact hm
    | cons k l ih => exact ih _ (Memory.wf_setByte _ _ hm)
  exact hfold _ _ _ h

/-- The end of a request changes memory, the queue, the busy bit and the pending interrupts. -/
theorem dmaEnd_eq (q : DmaRequest) (queue : List DmaRequest) (s : State) :
    ∃ m intr, dmaEnd q queue s =
        { setBusy { s with dma := queue } q.owner false with mem := m, mi.intr := intr } ∧
      (Memory.wf s.mem = true → Memory.wf m = true) := by
  have hpif : ∃ m, (if q.owner = .si ∧ q.dst = .pif then pifProcess s else s) = { s with mem := m } ∧
      (Memory.wf s.mem = true → Memory.wf m = true) := by
    split
    · exact ⟨_, rfl, pifProcess_wf⟩
    · exact ⟨s.mem, rfl, id⟩
  obtain ⟨m, hm, hwf⟩ := hpif
  unfold dmaEnd
  rw [hm]
  cases q.owner with
  | pi => exact ⟨m, _, rfl, hwf⟩
  | si => exact ⟨m, _, rfl, hwf⟩
  | ai => exact ⟨m, _, rfl, hwf⟩
  | sp => exact ⟨m, s.mi.intr, rfl, hwf⟩

/-! ## The canonical stores -/

theorem Canonical.of_tracked {s t : State} (h : tracked t = tracked s) (hs : Canonical s) : Canonical t := by
  have ht : Canonical (tracked t) := h ▸ ⟨hs.memory, hs.frameBuffer, hs.depthBuffer, hs.dpState⟩
  exact ⟨ht.memory, ht.frameBuffer, ht.depthBuffer, ht.dpState⟩

theorem Update.canonical {s t : State} (h : Update s t) (hs : Canonical s) : Canonical t := by
  have keep {u : State} (hmem : u.mem = s.mem) (hfb : u.rdp.fb = s.rdp.fb) (hdepth : u.rdp.depth = s.rdp.depth)
      (hdp : u.rdp.dpState = s.rdp.dpState) : Canonical u :=
    ⟨hmem ▸ hs.memory, hfb ▸ hs.frameBuffer, hdepth ▸ hs.depthBuffer, hdp ▸ hs.dpState⟩
  cases h with
  | quiet h => exact hs.of_tracked h
  | store _ m h => exact ⟨h hs.memory, hs.frameBuffer, hs.depthBuffer, hs.dpState⟩
  | register _ g off v => exact keep (by simp) (by simp) (by simp) (by simp)
  | cp0 n v h =>
    rw [(cp0Write_keeps h).1]
    exact keep rfl rfl rfl rfl
  | exceptionReturn h =>
    obtain ⟨rfl, -⟩ := modeCheck_ok h
    exact keep rfl rfl rfl rfl
  | countTick =>
    rcases countTick_cases s with heq | heq <;> rw [heq] <;> exact keep rfl rfl rfl rfl
  | draw _ r hfb hdepth hdp => exact ⟨hs.memory, hfb hs.frameBuffer, hdepth hs.depthBuffer, hdp hs.dpState⟩
  | frame =>
    unfold frameAdvance
    split <;> exact keep rfl rfl rfl rfl
  | complete _ q h =>
    obtain ⟨m, intr, heq, hwf⟩ := dmaEnd_eq q (s.dma.eraseP (dmaDue s)) s
    rw [heq]
    cases q.owner <;> exact ⟨hwf hs.memory, hs.frameBuffer, hs.depthBuffer, hs.dpState⟩
  | fcr31 | retireSeq | retireBranch | retireEret | enter | vuRetireSeq | vuRetireBranch =>
    exact keep rfl rfl rfl rfl

/-- Settles O56: every update that a step is made of keeps the stores canonical. -/
theorem stepKeepsStoresCanonical : Obligations.StepKeepsStoresCanonical :=
  fun _ _ hs h => step_keeps Update.canonical h hs

/-! ## The hard-wired bits, the mode, the pipelines, the counters -/

theorem Sane.hardWiredCp0 {s : State} (h : Sane s) : HardWiredCp0 s :=
  ⟨h.status, h.cause, h.config, h.watchLo, h.watchHi⟩

theorem Sane.of_tracked {s t : State} (h : tracked t = tracked s) (hs : Sane s) : Sane t := by
  have ht : Sane (tracked t) := h ▸ ⟨hs.status, hs.mode, hs.cause, hs.config, hs.watchLo, hs.watchHi, hs.fcr31,
    hs.pending, hs.vuPending, hs.vuPc, hs.vuTarget, hs.countPhase, hs.framePhase⟩
  exact ⟨ht.status, ht.mode, ht.cause, ht.config, ht.watchLo, ht.watchHi, ht.fcr31, ht.pending, ht.vuPending, ht.vuPc,
    ht.vuTarget, ht.countPhase, ht.framePhase⟩

/-- A register write changes the VectorUnit at SP_PC alone, whose pipeline it then clears (R175). -/
theorem regWrite_vu_cases (s : State) (g : RegGroup) (off : Nat) (v : Word) :
    (regWrite s g off v).vu = s.vu ∨
      (regWrite s g off v).vu = { s.vu with pc := (v &&& 0xFFC).setWidth 12, pending := none, ds := false } := by
  cases g with
  | spPc =>
    dsimp only [regWrite, spPcWrite]
    split
    · exact .inr rfl
    · exact .inl rfl
  | _ =>
    refine .inl ?_
    simp only [regWrite, spWrite, dpWrite, miWrite, viWrite, aiWrite, piWrite, riWrite, siWrite]
    repeat (first | rfl | exact startDma_vu .. | split)

theorem spPc_mod (v : Word) : ((v &&& 0xFFC).setWidth 12).toNat % 4 = 0 := by
  have h : (v &&& 0xFFC).setWidth 12 = vuRegisterTarget v := BitVec.setWidth_and
  rw [h]
  exact vuRegisterTarget_mod v

/-- rsp_pc stays a word's address past an instruction (R634). -/
theorem vuRetireSeq_pc_mod {s : State} (h : Sane s) : (vuRetireSeq s).vu.pc.toNat % 4 = 0 := by
  have hnext : (s.vu.pc + 4#12).toNat % 4 = 0 := by
    have := h.vuPc
    rw [BitVec.toNat_add, BitVec.toNat_ofNat]
    omega
  dsimp only [vuRetireSeq]
  split
  · cases hp : s.vu.pending with
    | none => exact hnext
    | some target => exact h.vuTarget target hp
  · exact hnext

/-- Sane states whose CP0 and mode are kept, and of which nothing else is looked at but what stays. -/
theorem Sane.ofCp0 {s t : State} (hs : Sane s) (hcp0 : HardWiredCp0 t) (hmode : kernelMode t = true)
    (hpending : t.cpu.pending ≠ none → t.cpu.ds = true) (hcount : t.cpu.countPhase < t.cfg.countDiv)
    (hfpu : t.fpu = s.fpu) (hvu : t.vu = s.vu) (hclock : t.clock = s.clock) (hcfg : t.cfg = s.cfg) : Sane t where
  status := hcp0.status
  mode := hmode
  cause := hcp0.cause
  config := hcp0.config
  watchLo := hcp0.watchLo
  watchHi := hcp0.watchHi
  fcr31 := hfpu ▸ hs.fcr31
  pending := hpending
  vuPending := hvu ▸ hs.vuPending
  vuPc := hvu ▸ hs.vuPc
  vuTarget := hvu ▸ hs.vuTarget
  countPhase := hcount
  framePhase := by rw [hclock, hcfg]; exact hs.framePhase

/-- Sane states of which the VectorUnit's pipeline alone changes. -/
theorem Sane.ofVu {s t : State} (hs : Sane s) (hcpu : t.cpu = s.cpu) (hcp0 : t.cp0 = s.cp0) (hfpu : t.fpu = s.fpu)
    (hclock : t.clock = s.clock) (hcfg : t.cfg = s.cfg) (hpending : t.vu.pending ≠ none → t.vu.ds = true)
    (hpc : t.vu.pc.toNat % 4 = 0) (htarget : ∀ a, t.vu.pending = some a → a.toNat % 4 = 0) : Sane t where
  status := by rw [hcp0]; exact hs.status
  mode := by rw [kernelMode, statusKsu, statusExl, statusErl, statusBit, statusBit, hcp0]; exact hs.mode
  cause := by rw [hcp0]; exact hs.cause
  config := by rw [hcp0, hcfg]; exact hs.config
  watchLo := by rw [hcp0]; exact hs.watchLo
  watchHi := by rw [hcp0]; exact hs.watchHi
  fcr31 := by rw [hfpu]; exact hs.fcr31
  pending := by rw [hcpu]; exact hs.pending
  vuPending := hpending
  vuPc := hpc
  vuTarget := htarget
  countPhase := by rw [hcpu, hcfg]; exact hs.countPhase
  framePhase := by rw [hclock, hcfg]; exact hs.framePhase

theorem Update.sane {s t : State} (h : Update s t) (hs : Sane s) : Sane t := by
  cases h with
  | quiet h => exact hs.of_tracked h
  | store _ m h =>
    exact hs.ofVu rfl rfl rfl rfl rfl hs.vuPending hs.vuPc hs.vuTarget
  | register _ g off v =>
    rcases regWrite_vu_cases s g off v with hvu | hvu
    · exact hs.ofVu (by simp) (by simp) (by simp) (by simp) (by simp) (hvu ▸ hs.vuPending) (hvu ▸ hs.vuPc)
        (hvu ▸ hs.vuTarget)
    · refine hs.ofVu (by simp) (by simp) (by simp) (by simp) (by simp) ?_ ?_ ?_ <;> rw [hvu]
      · exact fun hp => absurd rfl hp
      · exact spPc_mod v
      · exact fun _ ha => nomatch ha
  | fcr31 _ v h => exact { hs with fcr31 := h hs.fcr31 }
  | cp0 n v h =>
    obtain ⟨heq, hmode, hcp0⟩ := cp0Write_keeps h
    have hmode := hmode hs.mode
    have hcp0 := hcp0 hs.hardWiredCp0
    rw [heq] at hmode hcp0 ⊢
    exact hs.ofCp0 hcp0 hmode hs.pending hs.countPhase rfl rfl rfl rfl
  | exceptionReturn h =>
    obtain ⟨rfl, hmode⟩ := modeCheck_ok h
    exact hs.ofCp0 (eretEffects_hardWired hs.hardWiredCp0) hmode hs.pending hs.countPhase rfl rfl rfl rfl
  | retireSeq => exact { hs with pending := fun hp => absurd rfl hp }
  | retireBranch taken target likely =>
    refine { hs with pending := fun hp => ?_ }
    cases taken
    · exact absurd rfl hp
    · rfl
  | retireEret => exact { hs with pending := fun hp => absurd rfl hp }
  | enter e slot =>
    exact hs.ofCp0 (enter_hardWired e slot hs.hardWiredCp0) (kernelMode_enter e slot s) (fun hp => absurd rfl hp)
      hs.countPhase rfl rfl rfl rfl
  | countTick =>
    have hcp0 := countTick_hardWired hs.hardWiredCp0
    have hcount := hs.countPhase
    unfold Machine.countTick at hcp0 ⊢
    split at hcp0
    · next hdiv =>
      rw [if_pos hdiv]
      exact hs.ofCp0 hcp0 hs.mode hs.pending (by dsimp only; omega) rfl rfl rfl rfl
    · next hdiv =>
      rw [if_neg hdiv]
      exact hs.ofCp0 hcp0 hs.mode hs.pending (by dsimp only; omega) rfl rfl rfl rfl
  | vuRetireSeq =>
    exact hs.ofVu rfl rfl rfl rfl rfl (fun hp => absurd rfl hp) (vuRetireSeq_pc_mod hs) fun _ ha => nomatch ha
  | vuRetireBranch taken target _ h =>
    have hpc : (s.vu.pc + 4#12).toNat % 4 = 0 := by
      have := hs.vuPc
      rw [BitVec.toNat_add, BitVec.toNat_ofNat]
      omega
    refine hs.ofVu rfl rfl rfl rfl rfl (fun _ => rfl) hpc fun a ha => ?_
    cases taken
    · cases ha
    · cases ha
      exact h hs.vuPc
  | draw => exact hs.ofVu rfl rfl rfl rfl rfl hs.vuPending hs.vuPc hs.vuTarget
  | frame =>
    have hphase := hs.framePhase
    unfold frameAdvance
    split
    · exact { hs with framePhase := Nat.lt_of_le_of_lt (Nat.zero_le _) hphase }
    · exact { hs with framePhase := by dsimp only; omega }
  | complete _ q h =>
    obtain ⟨m, intr, heq, -⟩ := dmaEnd_eq q (s.dma.eraseP (dmaDue s)) s
    rw [heq]
    cases q.owner <;> exact hs.ofVu rfl rfl rfl rfl rfl hs.vuPending hs.vuPc hs.vuTarget

theorem Update.cfg {s t : State} (h : Update s t) : t.cfg = s.cfg := by
  cases h with
  | quiet h =>
    have hcfg := congrArg State.cfg h
    exact hcfg
  | register _ g off v => simp
  | cp0 n v h => rw [(cp0Write_keeps h).1]
  | exceptionReturn h =>
    obtain ⟨rfl, -⟩ := modeCheck_ok h
    rfl
  | countTick => rcases countTick_cases s with heq | heq <;> rw [heq]
  | frame =>
    unfold frameAdvance
    split <;> rfl
  | complete _ q h =>
    obtain ⟨m, intr, heq, -⟩ := dmaEnd_eq q (s.dma.eraseP (dmaDue s)) s
    rw [heq]
    cases q.owner <;> rfl
  | store | fcr31 | retireSeq | retireBranch | retireEret | enter | vuRetireSeq | vuRetireBranch | draw => rfl

/-- Settles O57: every update that a step is made of keeps a sane state sane, and the configuration. -/
theorem stepKeepsMachineSane : Obligations.StepKeepsMachineSane := fun s _ hs h =>
  ⟨step_keeps Update.sane h hs, step_keeps (P := fun u => u.cfg = s.cfg) (fun hu he => hu.cfg.trans he) h rfl⟩

/-! ## The busy bits -/

/-- `t` has the queue and the busy bits of `s`, or those after the start of one request. -/
def StartsAtMostOne (s t : State) : Prop :=
  (t.dma = s.dma ∧ t.busy = s.busy) ∨
    ∃ u o src dst len rows skip, u.dma = s.dma ∧ u.busy = s.busy ∧ t = startDma u o src dst len rows skip

theorem startsAtMostOne_startDma {s u : State} (o : DmaOwner) (src dst : DmaPlace) (len rows skip : Nat)
    (hdma : u.dma = s.dma) (hbusy : u.busy = s.busy) : StartsAtMostOne s (startDma u o src dst len rows skip) :=
  .inr ⟨u, o, src, dst, len, rows, skip, hdma, hbusy, rfl⟩

theorem regWrite_startsAtMostOne (s : State) (g : RegGroup) (off : Nat) (v : Word) :
    StartsAtMostOne s (regWrite s g off v) := by
  cases g with
  | sp =>
    dsimp only [regWrite, spWrite]
    split
    case h_3 | h_4 =>
      split
      · exact .inl ⟨rfl, rfl⟩
      · exact startsAtMostOne_startDma _ _ _ _ _ _ rfl rfl
    all_goals exact .inl ⟨rfl, rfl⟩
  | ai =>
    dsimp only [regWrite, aiWrite]
    split
    case h_2 =>
      split
      · exact .inl ⟨rfl, rfl⟩
      · exact startsAtMostOne_startDma _ _ _ _ _ _ rfl rfl
    all_goals exact .inl ⟨rfl, rfl⟩
  | pi =>
    dsimp only [regWrite, piWrite]
    split
    case h_3 | h_4 =>
      split
      · exact .inl ⟨rfl, rfl⟩
      · exact startsAtMostOne_startDma _ _ _ _ _ _ rfl rfl
    case h_5 => split <;> exact .inl ⟨rfl, rfl⟩
    all_goals exact .inl ⟨rfl, rfl⟩
  | si =>
    dsimp only [regWrite, siWrite]
    split
    case h_2 | h_3 => exact startsAtMostOne_startDma _ _ _ _ _ _ rfl rfl
    all_goals exact .inl ⟨rfl, rfl⟩
  | spPc | dp | mi | vi | ri =>
    dsimp only [regWrite, spPcWrite, dpWrite, miWrite, viWrite, riWrite]
    split <;> exact .inl ⟨rfl, rfl⟩

theorem busy_congr {s t : State} (h : t.busy = s.busy) (o : DmaOwner) : busy t o = busy s o := by
  cases o <;> simp only [busy, h]

theorem BusyMatches.congr {s t : State} (hs : BusyMatches s) (hdma : t.dma = s.dma) (hbusy : t.busy = s.busy) :
    BusyMatches t := fun o => by rw [hdma, busy_congr hbusy]; exact hs o

@[simp] theorem busy_setBusy (s : State) (o p : DmaOwner) (b : Bool) :
    busy (setBusy s o b) p = if p = o then b else busy s p := by
  cases o <;> cases p <;> rfl

@[simp] theorem setBusy_dma (s : State) (o : DmaOwner) (b : Bool) : (setBusy s o b).dma = s.dma := by
  cases o <;> rfl

/-- A request that is started is its free peripheral's only one. -/
theorem BusyMatches.startDma {s : State} (hs : BusyMatches s) (o : DmaOwner) (src dst : DmaPlace)
    (len rows skip : Nat) : BusyMatches (startDma s o src dst len rows skip) := by
  cases hb : busy s o with
  | true => rwa [startDma_busy _ _ _ _ _ hb]
  | false =>
    intro p
    have hp := hs p
    have hbusy : busy (Machine.startDma s o src dst len rows skip) p = if p = o then true else busy s p := by
      rw [startDma_free _ _ _ _ _ hb, ← busy_setBusy]
      cases p <;> rfl
    rw [hbusy, startDma_free _ _ _ _ _ hb]
    simp only [List.filter_append, List.length_append, hp]
    by_cases h : p = o
    · simp [h, hb]
    · simp [h, Ne.symm h]

/-- A completed request was its peripheral's only one. -/
theorem BusyMatches.complete {s : State} (hs : BusyMatches s) {q : DmaRequest} {p : DmaRequest → Bool}
    (h : s.dma.find? p = some q) (o : DmaOwner) :
    ((s.dma.eraseP p).filter fun r => r.owner == o).length = if o = q.owner then 0 else if busy s o then 1 else 0 := by
  obtain ⟨hp, before, after, hdma, hbefore⟩ := List.find?_eq_some_iff_append.mp h
  have herase : s.dma.eraseP p = before ++ after := by
    rw [hdma, List.eraseP_append_right _ (by simpa using hbefore), List.eraseP_cons_of_pos hp]
  have ho := hs o
  rw [hdma] at ho
  rw [herase]
  simp only [List.filter_append, List.filter_cons, List.length_append] at ho ⊢
  by_cases hq : o = q.owner
  · simp only [hq, beq_self_eq_true, if_true, List.length_cons] at ho ⊢
    split at ho <;> omega
  · have hne : (q.owner == o) = false := by simpa using Ne.symm hq
    simpa only [hne, Bool.false_eq_true, if_false, hq] using ho

theorem Update.busyMatches {s t : State} (h : Update s t) (hs : BusyMatches s) : BusyMatches t := by
  cases h with
  | quiet h =>
    have hdma := congrArg State.dma h
    have hbusy := congrArg State.busy h
    exact hs.congr hdma hbusy
  | register _ g off v =>
    rcases regWrite_startsAtMostOne s g off v with ⟨hdma, hbusy⟩ | ⟨u, o, src, dst, len, rows, skip, hdma, hbusy, heq⟩
    · exact hs.congr hdma hbusy
    · rw [heq]
      exact (hs.congr hdma hbusy).startDma o src dst len rows skip
  | cp0 n v h =>
    rw [(cp0Write_keeps h).1]
    exact hs.congr rfl rfl
  | exceptionReturn h =>
    obtain ⟨rfl, -⟩ := modeCheck_ok h
    exact hs.congr rfl rfl
  | countTick => rcases countTick_cases s with heq | heq <;> rw [heq] <;> exact hs.congr rfl rfl
  | frame =>
    unfold frameAdvance
    split <;> exact hs.congr rfl rfl
  | complete _ q h =>
    obtain ⟨m, intr, heq, -⟩ := dmaEnd_eq q (s.dma.eraseP (dmaDue s)) s
    intro o
    have ho := hs.complete h o
    have hbusy : busy (dmaEnd q (s.dma.eraseP (dmaDue s)) s) o = if o = q.owner then false else busy s o := by
      rw [heq]
      exact busy_setBusy { s with dma := s.dma.eraseP (dmaDue s) } q.owner o false
    have hdma : (dmaEnd q (s.dma.eraseP (dmaDue s)) s).dma = s.dma.eraseP (dmaDue s) := by
      rw [heq]
      exact setBusy_dma { s with dma := s.dma.eraseP (dmaDue s) } q.owner false
    rw [hdma, hbusy, ho]
    split <;> rfl
  | store | fcr31 | retireSeq | retireBranch | retireEret | enter | vuRetireSeq | vuRetireBranch | draw =>
    exact hs.congr rfl rfl

/-- Settles O58: every update that a step is made of keeps the busy bits true of the queue. -/
theorem stepKeepsBusyBitsTrue : Obligations.StepKeepsBusyBitsTrue :=
  fun _ _ hs h => step_keeps Update.busyMatches h hs

end Sys2Proof.Machine
end

section
/-! PROOFS. Save states resume the run (spec/10_state.md R85): no meaning and no step depends on what has been put out
before, so a step commutes with outputs put before the machine's own. -/

namespace Sys2Proof.Machine

/-! ## Earlier outputs -/

/-- `s` with the outputs `p` put out before its own. -/
def withEarlier (p : Outputs) (s : State) : State :=
  { s with out := { audio := p.audio ++ s.out.audio, frames := p.frames ++ s.out.frames } }

/-- The result `r'` is `r` but for the outputs `p` before its own. -/
def Carries (p : Outputs) (r' r : Result) : Prop := r' = mapNext (withEarlier p) r

section StateOperations

variable (p : Outputs) (s : State)

/-! ## The bus -/

theorem memReadSmall_withEarlier (pa : Word) (n : Nat) :
    memReadSmall (withEarlier p s) pa n = ((memReadSmall s pa n).1, withEarlier p (memReadSmall s pa n).2) := by
  have hcfg : (withEarlier p s).cfg = s.cfg := rfl
  have heffect (g : RegGroup) (off : Nat) :
      regReadEffect (withEarlier p s) g off = withEarlier p (regReadEffect s g off) := by
    unfold regReadEffect
    split <;> rfl
  unfold memReadSmall
  rw [hcfg]
  split
  case h_4 g off _ => rw [heffect]; rfl
  all_goals rfl

theorem memRead_withEarlier (pa : Word) (n : Nat) :
    memRead (withEarlier p s) pa n = ((memRead s pa n).1, withEarlier p (memRead s pa n).2) := by
  have hcfg : (withEarlier p s).cfg = s.cfg := rfl
  unfold memRead
  rw [hcfg]
  split
  case h_4 =>
    split
    · simp only [memReadSmall_withEarlier]
    · exact memReadSmall_withEarlier p s pa n
  all_goals rfl

theorem startDma_withEarlier (w : DmaOwner) (src dst : DmaPlace) (len rows skip : Nat) :
    startDma (withEarlier p s) w src dst len rows skip = withEarlier p (startDma s w src dst len rows skip) := by
  have hbusy : busy (withEarlier p s) w = busy s w := by cases w <;> rfl
  cases h : busy s w
  · rw [startDma_free _ _ _ _ _ h, startDma_free _ _ _ _ _ (hbusy.trans h)]
    cases w <;> rfl
  · rw [startDma_busy _ _ _ _ _ h, startDma_busy _ _ _ _ _ (hbusy.trans h)]

theorem dpcEndWrite_withEarlier (e : BitVec 24) :
    dpcEndWrite (withEarlier p s) e = withEarlier p (dpcEndWrite s e) := by
  have hword (a : Nat) : commandWord (withEarlier p s) a = commandWord s a := by
    rw [commandWord, commandWord, memRead_withEarlier]
    rfl
  have hwords : commandWords (withEarlier p s) = commandWords s := by
    funext cur e
    exact List.map_congr_left fun k _ => hword _
  rw [dpcEndWrite, hwords]
  rfl

theorem spWrite_withEarlier (off : Nat) (v : Word) :
    spWrite (withEarlier p s) off v = withEarlier p (spWrite s off v) := by
  unfold spWrite
  split
  case h_3 | h_4 =>
    dsimp only
    split
    · rfl
    · rw [← startDma_withEarlier]
      rfl
  all_goals rfl

theorem dpWrite_withEarlier (off : Nat) (v : Word) :
    dpWrite (withEarlier p s) off v = withEarlier p (dpWrite s off v) := by
  unfold dpWrite
  split
  case h_2 => exact dpcEndWrite_withEarlier p s _
  all_goals rfl

theorem aiWrite_withEarlier (off : Nat) (v : Word) :
    aiWrite (withEarlier p s) off v = withEarlier p (aiWrite s off v) := by
  unfold aiWrite
  split
  case h_2 =>
    dsimp only
    rw [apply_ite (withEarlier p), ← startDma_withEarlier]
    rfl
  all_goals rfl

theorem piWrite_withEarlier (off : Nat) (v : Word) :
    piWrite (withEarlier p s) off v = withEarlier p (piWrite s off v) := by
  unfold piWrite
  split
  case h_3 | h_4 =>
    dsimp only
    split
    · rfl
    · rw [← startDma_withEarlier]
      rfl
  case h_5 => split <;> rfl
  all_goals rfl

theorem siWrite_withEarlier (off : Nat) (v : Word) :
    siWrite (withEarlier p s) off v = withEarlier p (siWrite s off v) := by
  unfold siWrite
  split
  case h_2 | h_3 =>
    dsimp only
    rw [← startDma_withEarlier]
    rfl
  all_goals rfl

theorem regWrite_withEarlier (g : RegGroup) (off : Nat) (v : Word) :
    regWrite (withEarlier p s) g off v = withEarlier p (regWrite s g off v) := by
  cases g with
  | sp => exact spWrite_withEarlier ..
  | dp => exact dpWrite_withEarlier ..
  | ai => exact aiWrite_withEarlier ..
  | pi => exact piWrite_withEarlier ..
  | si => exact siWrite_withEarlier ..
  | spPc =>
    change spPcWrite _ off v = withEarlier p (spPcWrite s off v)
    unfold spPcWrite
    split <;> rfl
  | mi =>
    change miWrite _ off v = withEarlier p (miWrite s off v)
    unfold miWrite
    split <;> rfl
  | vi =>
    change viWrite _ off v = withEarlier p (viWrite s off v)
    unfold viWrite
    split <;> rfl
  | ri =>
    change riWrite _ off v = withEarlier p (riWrite s off v)
    unfold riWrite
    split <;> rfl

theorem memWriteWord_withEarlier (pa : Word) (v : Dword) :
    memWriteWord (withEarlier p s) pa v = withEarlier p (memWriteWord s pa v) := by
  have hcfg : (withEarlier p s).cfg = s.cfg := rfl
  unfold memWriteWord
  rw [hcfg]
  split
  · rfl
  · exact regWrite_withEarlier ..
  all_goals rfl

theorem memWrite_withEarlier (pa : Word) (n : Nat) (v : Dword) :
    memWrite (withEarlier p s) pa n v = (memWrite s pa n v).map (withEarlier p) := by
  have hcfg : (withEarlier p s).cfg = s.cfg := rfl
  unfold memWrite
  rw [hcfg]
  split
  case h_2 =>
    split
    · rw [memWriteWord_withEarlier, memWriteWord_withEarlier]
      rfl
    · split
      · rw [regWrite_withEarlier]
        rfl
      · rfl
  all_goals rfl

theorem memWriteMasked_withEarlier (pa : Word) (n : Nat) (v : Dword) (m : Byte) :
    memWriteMasked (withEarlier p s) pa n v m = (memWriteMasked s pa n v m).map (withEarlier p) := by
  have hcfg : (withEarlier p s).cfg = s.cfg := rfl
  unfold memWriteMasked
  rw [hcfg]
  split
  case h_2 =>
    split
    · exact memWrite_withEarlier ..
    · rfl
  all_goals rfl

/-! ## The CPU's and the FPU's registers -/

theorem cp0Modelled_withEarlier (n : Reg) : cp0Modelled (withEarlier p s) n = cp0Modelled s n := rfl

theorem cp0Read_withEarlier (n : Reg) :
    cp0Read (withEarlier p s) n = ((cp0Read s n).1, withEarlier p (cp0Read s n).2) := by
  unfold cp0Read
  rw [cp0Modelled_withEarlier]
  split <;> rfl

theorem modeCheck_withEarlier : modeCheck (withEarlier p s) = (modeCheck s).map (withEarlier p) := by
  have hmode : kernelMode (withEarlier p s) = kernelMode s := rfl
  unfold modeCheck
  rw [hmode]
  split <;> rfl

theorem cp0Write_withEarlier (n : Reg) (v : Dword) :
    cp0Write (withEarlier p s) n v = (cp0Write s n v).map (withEarlier p) := by
  have hstatus : modeCheck (setStatus (withEarlier p s) (lo32 v)) =
      (modeCheck (setStatus s (lo32 v))).map (withEarlier p) := modeCheck_withEarlier p (setStatus s (lo32 v))
  unfold cp0Write
  rw [hstatus]
  simp only [apply_ite (Except.map (withEarlier p))]
  rfl

theorem countTick_withEarlier : countTick (withEarlier p s) = withEarlier p (countTick s) := by
  unfold countTick
  rw [apply_ite (withEarlier p)]
  rfl

theorem pollInterrupt_withEarlier : pollInterrupt (withEarlier p s) = withEarlier p (pollInterrupt s) := by
  unfold pollInterrupt
  rw [apply_ite (withEarlier p)]
  rfl

theorem fcrRead_withEarlier (i : Reg) :
    fcrRead (withEarlier p s) i = ((fcrRead s i).1, withEarlier p (fcrRead s i).2) := by
  unfold fcrRead
  split
  · rfl
  · split <;> rfl

theorem writeFpr32_withEarlier (i : Reg) (v : Word) :
    writeFpr32 (withEarlier p s) i v = withEarlier p (writeFpr32 s i v) := by
  unfold writeFpr32
  rw [apply_ite (withEarlier p)]
  rfl

theorem writeFpr_withEarlier (f : Fmt) (i : Reg) (v : Dword) :
    writeFpr f (withEarlier p s) i v = withEarlier p (writeFpr f s i v) := by
  cases f
  · exact writeFpr32_withEarlier ..
  · rfl
  · exact writeFpr32_withEarlier ..
  · rfl

end StateOperations

/-! ## The VectorUnit and the DisplayProcessor -/

section Loops

variable (p : Outputs)

theorem loadImage_withEarlier (s : State) (a : Word) (e : Nat) (v : Vector Half 8) (n : Nat) :
    loadImage (withEarlier p s) a e v n = loadImage s a e v n := by
  induction n with
  | zero => rfl
  | succ n ih => rw [loadImage, loadImage, ih]; rfl

theorem storeImage_withEarlier (s : State) (a : Word) (e : Nat) (v : Vector Half 8) (n : Nat) :
    storeImage (withEarlier p s) a e v n = withEarlier p (storeImage s a e v n) := by
  induction n with
  | zero => rfl
  | succ n ih => rw [storeImage, storeImage, ih]; rfl

theorem vuBreak_withEarlier (s : State) : vuBreak (withEarlier p s) = withEarlier p (vuBreak s) := by
  unfold vuBreak
  dsimp only
  rw [apply_ite (withEarlier p)]
  rfl

theorem foldl_withEarlier {α : Type} {f : State → α → State}
    (hf : ∀ s a, f (withEarlier p s) a = withEarlier p (f s a)) (l : List α) (s : State) :
    l.foldl f (withEarlier p s) = withEarlier p (l.foldl f s) := by
  induction l generalizing s with
  | nil => rfl
  | cons a l ih => rw [List.foldl_cons, List.foldl_cons, hf, ih]

theorem plot_withEarlier (op : BitVec 8) (px py : Nat) (v : Vertex) (s : State) :
    plot op px py v (withEarlier p s) = withEarlier p (plot op px py v s) := by
  have hdepth : depthAt (withEarlier p s) px py = depthAt s px py := rfl
  unfold plot
  split
  · dsimp only
    rw [hdepth, apply_ite (withEarlier p)]
    rfl
  · rfl

theorem scanPixel_withEarlier (op : BitVec 8) (l r : Vertex) (py px : Nat) (s : State) :
    scanPixel op l r py px (withEarlier p s) = withEarlier p (scanPixel op l r py px s) := by
  unfold scanPixel
  split
  · exact plot_withEarlier ..
  · rfl

theorem scanLine_withEarlier (op : BitVec 8) (a b c : Vertex) (py : Nat) (s : State) :
    scanLine op a b c py (withEarlier p s) = withEarlier p (scanLine op a b c py s) := by
  unfold scanLine
  split
  · exact foldl_withEarlier p (fun s' px => scanPixel_withEarlier p op _ _ py px s') _ s
  · rfl

theorem drawTriangle_withEarlier (op : BitVec 8) (v : Vertex × Vertex × Vertex) (s : State) :
    drawTriangle op v (withEarlier p s) = withEarlier p (drawTriangle op v s) :=
  foldl_withEarlier p (fun s' py => scanLine_withEarlier p op _ _ _ py s') _ s

theorem fillRectangle_withEarlier (x0 x1 y0 y1 : Nat) (s : State) :
    fillRectangle x0 x1 y0 y1 (withEarlier p s) = withEarlier p (fillRectangle x0 x1 y0 y1 s) :=
  foldl_withEarlier p (fun _ _ => rfl) _ s

end Loops

/-! ## Meanings -/

namespace Carries

variable {p : Outputs} {s : State} {r r' q q' : Result}

theorem ite {c : Prop} [Decidable c] (h : Carries p r' r) (h' : Carries p q' q) :
    Carries p (if c then r' else q') (if c then r else q) := by
  split
  · exact h
  · exact h'

theorem on32 {vs : List Dword} (h : Carries p r' r) : Carries p (on32 (withEarlier p s) vs r') (on32 s vs r) := by
  have hcfg : (withEarlier p s).cfg = s.cfg := rfl
  unfold Machine.on32
  rw [hcfg]
  split
  · exact h
  · exact ite h rfl

theorem divideByZero (k : DivKind) (n : Dword) : Carries p (divideByZero k n (withEarlier p s)) (divideByZero k n s) := by
  have hcfg : (withEarlier p s).cfg = s.cfg := rfl
  unfold Machine.divideByZero
  rw [hcfg]
  split <;> rfl

theorem controlTransfer (h : Carries p r' r) : Carries p (controlTransfer (withEarlier p s) r') (controlTransfer s r) :=
  ite (c := s.cpu.ds = true) rfl h

theorem linkNotSource {c : Bool} (h : Carries p r' r) : Carries p (linkNotSource c r') (linkNotSource c r) := ite rfl h

theorem withCp1 (h : Carries p r' r) : Carries p (withCp1 (withEarlier p s) r') (withCp1 s r) :=
  ite (c := statusCu1 s = true) h rfl

theorem onFprs {l : List (Fmt × Reg)} (h : Carries p r' r) :
    Carries p (onFprs (withEarlier p s) l r') (onFprs s l r) :=
  withCp1 (ite (c := l.all (fun a => fprOk a.1 s a.2) = true) h rfl)

theorem translated {k : Access} {va : Dword} {f' f : Word → Result} (h : ∀ pa, Carries p (f' pa) (f pa)) :
    Carries p (translated (withEarlier p s) k va f') (translated s k va f) := by
  have htranslate : translateVa (withEarlier p s) k va = translateVa s k va := rfl
  unfold Machine.translated
  rw [htranslate]
  split
  · exact h _
  all_goals rfl

theorem stored {w' w : Except Refusal State} {f' f : State → Result} (hw : w' = w.map (withEarlier p))
    (hf : ∀ t, Carries p (f' (withEarlier p t)) (f t)) : Carries p (stored w' f') (stored w f) := by
  subst hw
  cases w with
  | ok t => exact hf t
  | error e => rfl

theorem loadAt (n : Nat) (va : Dword) {f' f : Word → Dword → State → Result}
    (h : ∀ pa v t, Carries p (f' pa v (withEarlier p t)) (f pa v t)) :
    Carries p (loadAt n va (withEarlier p s) f') (loadAt n va s f) := by
  refine ite rfl (translated fun pa => ?_)
  rw [memRead_withEarlier]
  exact h ..

/-- A load of a general register. -/
theorem loads (n : Nat) (va : Dword) (rt : Reg) (f : Dword → Dword) :
    Carries p (Machine.loadFrom n va (withEarlier p s) fun v s' => Machine.loadGpr rt (f v) s')
      (Machine.loadFrom n va s fun v s' => Machine.loadGpr rt (f v) s') :=
  loadAt _ _ fun _ _ _ => rfl

theorem loadUnit (n : Nat) (va : Dword) {f' f : Dword → Nat → State → Result}
    (h : ∀ v k t, Carries p (f' v k (withEarlier p t)) (f v k t)) :
    Carries p (loadUnit n va (withEarlier p s) f') (loadUnit n va s f) := by
  refine translated fun pa => ?_
  rw [memRead_withEarlier]
  exact h ..

theorem storeAt (n : Nat) (va : Dword) {f' f : Word → Result} (h : ∀ pa, Carries p (f' pa) (f pa)) :
    Carries p (storeAt n va (withEarlier p s) f') (storeAt n va s f) := ite rfl (translated h)

theorem storeTo (n : Nat) (va v : Dword) :
    Carries p (storeTo n va v (withEarlier p s) Machine.seq) (storeTo n va v s Machine.seq) :=
  storeAt n va fun _ => stored (memWrite_withEarlier ..) fun _ => rfl

theorem storeUnit (n : Nat) (va : Dword) (value : Nat → Dword) (mask : Nat → Byte) :
    Carries p (storeUnit n va value mask (withEarlier p s)) (storeUnit n va value mask s) :=
  translated fun _ => stored (memWriteMasked_withEarlier ..) fun _ => rfl

theorem storeConditional (n : Nat) (va : Dword) (rt : Reg) :
    Carries p (storeConditional n va rt (withEarlier p s)) (storeConditional n va rt s) :=
  storeAt n va fun _ => ite (c := s.cpu.llbit = true) (stored (memWrite_withEarlier ..) fun _ => rfl) rfl

theorem cp0Write (n : Reg) (v : Dword) :
    Carries p (Machine.stored (cp0Write (withEarlier p s) n v) Machine.seq)
      (Machine.stored (cp0Write s n v) Machine.seq) :=
  stored (cp0Write_withEarlier ..) fun _ => rfl

theorem execMfc0 (rt rd : Reg) : Carries p (execMfc0 rt rd (withEarlier p s)) (execMfc0 rt rd s) := by
  unfold Machine.execMfc0
  rw [cp0Read_withEarlier]
  rfl

theorem execDmfc0 (rt rd : Reg) : Carries p (execDmfc0 rt rd (withEarlier p s)) (execDmfc0 rt rd s) := by
  unfold Machine.execDmfc0
  rw [cp0Read_withEarlier]
  exact ite rfl rfl

theorem execCfc1 (rt fs : Reg) : Carries p (execCfc1 rt fs (withEarlier p s)) (execCfc1 rt fs s) := by
  unfold Machine.execCfc1
  rw [fcrRead_withEarlier]
  exact withCp1 rfl

theorem exceptionReturn : Carries p (exceptionReturn (withEarlier p s)) (exceptionReturn s) := by
  have hmode : modeCheck (eretEffects (withEarlier p s)) = (modeCheck (eretEffects s)).map (withEarlier p) :=
    modeCheck_withEarlier p (eretEffects s)
  unfold Machine.exceptionReturn
  rw [hmode]
  cases modeCheck (eretEffects s) <;> rfl

/-! ### The FPU -/

theorem fpFinish (flags : BitVec 5) {write : State → State}
    (hw : ∀ u, write (withEarlier p u) = withEarlier p (write u)) :
    Carries p (fpFinish (withEarlier p s) flags write) (fpFinish s flags write) := by
  refine ite rfl ?_
  exact congrArg Machine.seq (hw (setFcr31 s _))

theorem fpArith (op : FpOp) (fin fout : Fmt) (rm : BitVec 2) (a b : Dword) (fd : Reg) :
    Carries p (fpArith op fin fout rm a b fd (withEarlier p s)) (fpArith op fin fout rm a b fd s) := by
  have hfpop : fpop (withEarlier p s) op fin fout rm a b = fpop s op fin fout rm a b := rfl
  have hunimpl : fpuUnimpl (withEarlier p s) op fin fout rm a b = fpuUnimpl s op fin fout rm a b := rfl
  unfold Machine.fpArith
  rw [hfpop, hunimpl]
  split
  · rfl
  · exact ite rfl (fpFinish _ fun u => writeFpr_withEarlier ..)

theorem fpMove (f : Fmt) (fd fs : Reg) : Carries p (fpMove f fd fs (withEarlier p s)) (fpMove f fd fs s) :=
  onFprs (congrArg Machine.seq (writeFpr_withEarlier p s f fd (readFpr f s fs)))

theorem fpCompare (f : Fmt) (cond : BitVec 4) (fs ft : Reg) :
    Carries p (fpCompare f cond fs ft (withEarlier p s)) (fpCompare f cond fs ft s) := by
  refine onFprs ?_
  have hread (i : Reg) : readFpr f (withEarlier p s) i = readFpr f s i := rfl
  have hop (a b : Dword) : fpCompareOp (withEarlier p s) f cond a b = fpCompareOp s f cond a b := rfl
  have hunimpl (rm : BitVec 2) (a b : Dword) :
      fpuUnimpl (withEarlier p s) .compare f f rm a b = fpuUnimpl s .compare f f rm a b := rfl
  rw [hread, hread, hop, hunimpl]
  split
  · rfl
  · exact ite rfl (fpFinish _ fun u => rfl)

theorem execCtc1 (rt fs : Reg) : Carries p (execCtc1 rt fs (withEarlier p s)) (execCtc1 rt fs s) :=
  withCp1 (ite (ite rfl rfl) rfl)

/-! ### The VectorUnit and the DisplayProcessor -/

theorem vuControlTransfer (h : Carries p r' r) :
    Carries p (vuControlTransfer (withEarlier p s) r') (vuControlTransfer s r) :=
  ite (c := s.vu.ds = true) rfl h

theorem vuLinkNotSource {c : Bool} (h : Carries p r' r) : Carries p (vuLinkNotSource c r') (vuLinkNotSource c r) :=
  ite rfl h

theorem execRspMfc0 (rt rd : Reg) : Carries p (execRspMfc0 rt rd (withEarlier p s)) (execRspMfc0 rt rd s) := by
  unfold Machine.execRspMfc0
  split
  · rfl
  · rw [memRead_withEarlier]
    rfl

theorem execRspMtc0 (rt rd : Reg) : Carries p (execRspMtc0 rt rd (withEarlier p s)) (execRspMtc0 rt rd s) := by
  unfold Machine.execRspMtc0
  split
  · rfl
  · exact stored (memWrite_withEarlier ..) fun _ => rfl

theorem vectorLoad (n : Nat) (a : Word) (vt : Reg) (e : BitVec 4) :
    Carries p (vectorLoad n a vt e (withEarlier p s)) (vectorLoad n a vt e s) := by
  unfold Machine.vectorLoad
  rw [loadImage_withEarlier]
  rfl

theorem vectorStore (n : Nat) (a : Word) (vt : Reg) (e : BitVec 4) :
    Carries p (vectorStore n a vt e (withEarlier p s)) (vectorStore n a vt e s) :=
  congrArg Machine.vuSeq (storeImage_withEarlier p s a e.toNat (vr s vt) n)

theorem triangle (op : BitVec 8) (payload : BitVec 56) (rest : List Dword) :
    Carries p (triangle op payload rest (withEarlier p s)) (triangle op payload rest s) := by
  have hcfg : (withEarlier p s).cfg = s.cfg := rfl
  unfold Machine.triangle
  rw [hcfg]
  split
  · rfl
  · exact congrArg Host.Outcome.next (drawTriangle_withEarlier ..)

/-! ### Every instruction -/

theorem exec (i : Instr) : Carries p (exec i (withEarlier p s)) (exec i s) := by
  cases i with
  | add | sub | addi => exact on32 (ite rfl rfl)
  | dadd | dsub | daddi => exact ite rfl rfl
  | addu | subu | addiu | sll | srl | sra | sllv | srlv | srav | mult | multu => exact on32 rfl
  | div | divu => exact on32 (ite (divideByZero ..) rfl)
  | ddiv | ddivu => exact ite (divideByZero ..) rfl
  | beq | bne | blez | bgtz | bltz | bgez | beql | bnel | blezl | bgtzl | bltzl | bgezl | j | jr | jal =>
    exact controlTransfer rfl
  | bltzal | bgezal | bltzall | bgezall | jalr => exact controlTransfer (linkNotSource rfl)
  | lb | lbu | lh | lhu | lw | lwu | ld =>
    dsimp only [Machine.exec]
    exact loads ..
  | ll | lld =>
    dsimp only [Machine.exec]
    refine loadAt _ _ fun _ _ _ => ?_
    rfl
  | sb | sh | sw | sd => exact storeTo ..
  | lwl | lwr | ldl | ldr =>
    dsimp only [Machine.exec]
    exact loadUnit _ _ fun _ _ _ => rfl
  | swl | swr | sdl | sdr =>
    dsimp only [Machine.exec]
    exact storeUnit ..
  | sc | scd => exact storeConditional ..
  | tge | tgeu | tlt | tltu | teq | tne | tgei | tgeiu | tlti | tltiu | teqi | tnei => exact ite rfl rfl
  | mfc0 => exact execMfc0 ..
  | dmfc0 => exact execDmfc0 ..
  | mtc0 => exact cp0Write ..
  | dmtc0 => exact ite (cp0Write ..) rfl
  | eret => exact controlTransfer exceptionReturn
  | cfc1 => exact execCfc1 ..
  | ctc1 => exact execCtc1 ..
  | mfc1 => exact withCp1 rfl
  | mtc1 => exact withCp1 (congrArg seq (writeFpr32_withEarlier ..))
  | dmfc1 | dmtc1 => exact onFprs rfl
  | lwc1 => exact withCp1 (loadAt _ _ fun _ _ _ => congrArg seq (writeFpr32_withEarlier ..))
  | ldc1 => exact onFprs (loadAt _ _ fun _ _ _ => rfl)
  | swc1 => exact withCp1 (storeTo ..)
  | sdc1 => exact onFprs (storeTo ..)
  | bc1f | bc1t | bc1fl | bc1tl => exact withCp1 (controlTransfer rfl)
  | addS | addD | subS | subD | mulS | mulD | divS | divD | sqrtS | sqrtD | absS | absD | negS | negD
  | roundLS | roundLD | truncLS | truncLD | ceilLS | ceilLD | floorLS | floorLD | roundWS | roundWD | truncWS | truncWD
  | ceilWS | ceilWD | floorWS | floorWD | cvtSD | cvtSW | cvtSL | cvtDS | cvtDW | cvtDL | cvtWS | cvtWD | cvtLS | cvtLD =>
    exact onFprs (fpArith ..)
  | movS | movD => exact fpMove ..
  | cFS | cFD | cUnS | cUnD | cEqS | cEqD | cUeqS | cUeqD | cOltS | cOltD | cUltS | cUltD | cOleS | cOleD | cUleS | cUleD
  | cSfS | cSfD | cNgleS | cNgleD | cSeqS | cSeqD | cNglS | cNglD | cLtS | cLtD | cNgeS | cNgeD | cLeS | cLeD | cNgtS
  | cNgtD => exact fpCompare ..
  | rspJr | rspJ | rspJal | rspBeq | rspBne | rspBlez | rspBgtz | rspBltz | rspBgez => exact vuControlTransfer rfl
  | rspJalr | rspBltzal | rspBgezal => exact vuControlTransfer (vuLinkNotSource rfl)
  | rspBreak => exact congrArg Host.Outcome.next (vuBreak_withEarlier p (vuRetireSeq s))
  | rspMfc0 => exact execRspMfc0 ..
  | rspMtc0 => exact execRspMtc0 ..
  | rspCfc2 | rspCtc2 => exact ite rfl (ite rfl (ite rfl rfl))
  | rspLbv | rspLsv | rspLlv | rspLdv | rspLqv => exact vectorLoad ..
  | rspSbv | rspSsv | rspSlv | rspSdv | rspSqv => exact vectorStore ..
  | rdpTriangle | rdpTriangleZ | rdpTriangleTex | rdpTriangleTexZ | rdpTriangleShade | rdpTriangleShadeZ
  | rdpTriangleShadeTex | rdpTriangleShadeTexZ => exact triangle ..
  | rdpFillRectangle => exact congrArg Host.Outcome.next (fillRectangle_withEarlier ..)
  | rdpSetColorImage => exact ite rfl rfl
  | _ => rfl

/-! ## Steps -/

theorem cpuEnd (poll : Bool) (h : Carries p r' r) : Carries p (cpuEnd poll r') (cpuEnd poll r) := by
  subst h
  cases r with
  | next t =>
    refine congrArg Host.Outcome.next ?_
    rw [countTick_withEarlier]
    cases poll
    · rfl
    · exact pollInterrupt_withEarlier ..
  | fault => rfl
  | refused => rfl

theorem cpuRun (w : Word) : Carries p (cpuRun w (withEarlier p s)) (cpuRun w s) := by
  have hdecode : decodeCpu (statusCu1 (withEarlier p s)) (statusCu2 (withEarlier p s)) (statusCu3 (withEarlier p s)) w =
      decodeCpu (statusCu1 s) (statusCu2 s) (statusCu3 s) w := rfl
  unfold Machine.cpuRun
  rw [hdecode]
  split
  · exact cpuEnd _ (exec _)
  all_goals exact cpuEnd _ rfl

theorem cpuStep : Carries p (cpuStep (withEarlier p s)) (cpuStep s) := by
  have htranslate : translateVa (withEarlier p s) .fetch (withEarlier p s).cpu.pc = translateVa s .fetch s.cpu.pc := rfl
  refine ite (cpuEnd _ rfl) ?_
  rw [htranslate]
  split
  · rw [memRead_withEarlier]
    exact cpuRun _
  · exact cpuEnd _ rfl
  · rfl

theorem vuStep : Carries p (vuStep (withEarlier p s)) (vuStep s) := by
  have hfetch : vuFetch (withEarlier p s) = vuFetch s := rfl
  unfold Machine.vuStep vuRun
  rw [hfetch]
  split
  · next i _ =>
    rw [exec (p := p) (s := s) i]
    cases Machine.exec i s with
    | next t =>
      refine congrArg Host.Outcome.next ?_
      unfold vuSingleStep
      rw [apply_ite (withEarlier p)]
      rfl
    | fault => rfl
    | refused => rfl
  · rfl

theorem rdpRun (ws : List Dword) : Carries p (rdpRun ws (withEarlier p s)) (rdpRun ws s) := by
  unfold Machine.rdpRun
  split
  · exact exec _
  all_goals rfl

end Carries

section Dma

variable (p : Outputs)

theorem dmaByte_withEarlier (q : DmaRequest) (row i : Nat) (s : State) :
    dmaByte q row i (withEarlier p s) = (dmaByte q row i s).map (withEarlier p) := by
  have hread : dmaRead q row i (withEarlier p s) = ((dmaRead q row i s).1, withEarlier p (dmaRead q row i s).2) := by
    unfold dmaRead
    split
    case h_1 | h_2 => simp only [memRead_withEarlier]
    all_goals rfl
  have hwrite (b : Byte) (u : State) :
      dmaWrite q row i b (withEarlier p u) = (dmaWrite q row i b u).map (withEarlier p) := by
    unfold dmaWrite
    split
    case h_1 => exact memWrite_withEarlier ..
    case h_5 => simp [withEarlier, Except.map]
    all_goals rfl
  rw [dmaByte, hread, hwrite]
  rfl

theorem foldlM_withEarlier {α : Type} {f : State → α → Except Refusal State}
    (hf : ∀ s a, f (withEarlier p s) a = (f s a).map (withEarlier p)) (l : List α) (s : State) :
    l.foldlM f (withEarlier p s) = (l.foldlM f s).map (withEarlier p) := by
  induction l generalizing s with
  | nil => rfl
  | cons a l ih =>
    rw [List.foldlM_cons, List.foldlM_cons, hf]
    cases f s a with
    | error => rfl
    | ok t => exact ih t

theorem dmaCopy_withEarlier (q : DmaRequest) (s : State) :
    dmaCopy q (withEarlier p s) = (dmaCopy q s).map (withEarlier p) :=
  foldlM_withEarlier p (fun s' row => foldlM_withEarlier p (fun s'' i => dmaByte_withEarlier p q row i s'') _ s') _ s

theorem dmaEnd_withEarlier (q : DmaRequest) (queue : List DmaRequest) (s : State) :
    dmaEnd q queue (withEarlier p s) = withEarlier p (dmaEnd q queue s) := by
  have hp : (if q.owner = .si ∧ q.dst = .pif then pifProcess (withEarlier p s) else withEarlier p s) =
      withEarlier p (if q.owner = .si ∧ q.dst = .pif then pifProcess s else s) := by
    rw [apply_ite (withEarlier p)]
    rfl
  unfold dmaEnd
  dsimp only
  rw [hp]
  cases q.owner <;> rfl

theorem dmaStep_carries (s : State) : Carries p (dmaStep (withEarlier p s)) (dmaStep s) := by
  have hfind : (withEarlier p s).dma.find? (dmaDue (withEarlier p s)) = s.dma.find? (dmaDue s) := rfl
  unfold dmaStep
  rw [hfind]
  split
  · exact Carries.stored (dmaCopy_withEarlier ..) fun _ => congrArg Host.Outcome.next (dmaEnd_withEarlier ..)
  · rfl

end Dma

theorem endTick_withEarlier (p : Outputs) (s : State) : endTick (withEarlier p s) = withEarlier p (endTick s) := by
  have hframe : frameAdvance (withEarlier p s) = withEarlier p (frameAdvance s) := by
    have hpack : packFrame (withEarlier p s) = packFrame s := rfl
    have hclock : (withEarlier p s).clock = s.clock := rfl
    have hcfg : (withEarlier p s).cfg = s.cfg := rfl
    unfold frameAdvance
    rw [hpack, hclock, hcfg]
    split
    · simp [withEarlier, miRaise]
    · rfl
  unfold endTick
  dsimp only
  rw [hframe]
  rfl

theorem tickBegin_withEarlier (p : Outputs) (s : State) : tickBegin (withEarlier p s) = withEarlier p (tickBegin s) := by
  have hclock : (withEarlier p s).clock = s.clock := rfl
  unfold tickBegin
  rw [hclock, apply_ite (withEarlier p)]
  rfl

theorem phaseStep_carries (p : Outputs) (s : State) : Carries p (phaseStep (withEarlier p s)) (phaseStep s) := by
  have hclock : (withEarlier p s).clock = s.clock := rfl
  have hphase (q : Phase) : setPhase q (withEarlier p s) = withEarlier p (setPhase q s) := rfl
  have hhalt : (withEarlier p s).sp = s.sp := rfl
  unfold phaseStep
  simp only [hclock, hphase, hhalt]
  split
  · exact congrArg Host.Outcome.next (tickBegin_withEarlier p s)
  · rfl
  · exact Carries.cpuStep
  · exact dmaStep_carries p s
  · rfl
  · exact Carries.ite rfl Carries.vuStep
  · rfl
  · rfl
  · exact Carries.rdpRun _
  · exact congrArg Host.Outcome.next (endTick_withEarlier p s)

theorem step_carries (p : Outputs) (s : State) : Carries p (step (withEarlier p s)) (step s) := by
  have hrefused : (withEarlier p s).refused = s.refused := rfl
  unfold step machineStep
  rw [hrefused]
  split
  · rfl
  · exact phaseStep_carries p s

theorem step_cfg {s t : State} (h : step s = .next t) : t.cfg = s.cfg :=
  step_keeps (P := fun u => u.cfg = s.cfg) (fun hu he => hu.cfg.trans he) h rfl

/-! ## Save states -/

/-- `s` before it has put out anything. -/
def silent (s : State) : State := { s with out := { audio := [], frames := [] } }

theorem withEarlier_silent (s : State) : withEarlier s.out (silent s) = s := by
  simp [withEarlier, silent]

/-- Restoring a save state gives the saved state but for the outputs. -/
theorem restore_save_eq {s t : State} (h : t.cfg = s.cfg) : restore (save s) t = withEarlier t.out (silent s) := by
  simp [restore, save, withEarlier, silent, h]

/-- Settles O59: the run of `s` and the run of the restored machine are that of `s` without its outputs, with the outputs
of either machine put before it. -/
theorem saveStatesResumeTheRun : Obligations.SaveStatesResumeTheRun := by
  intro s t hcfg
  have hs : step s = mapNext (withEarlier s.out) (step (silent s)) := by
    rw [← step_carries s.out (silent s), withEarlier_silent]
  have ht : step (restore (save s) t) = mapNext (withEarlier t.out) (step (silent s)) := by
    rw [restore_save_eq hcfg]
    exact step_carries t.out (silent s)
  refine ⟨by simp [restore, save, hcfg], fun u hu => ?_, fun why hwhy => ?_, fun f hf => ?_⟩
  · have hucfg : u.cfg = s.cfg := (step_cfg hu)
    rw [hs] at hu
    cases h : step (silent s) with
    | next v =>
      rw [h] at hu
      obtain rfl := Host.Outcome.next.inj hu
      refine ⟨v.out.audio, v.out.frames, rfl, ?_⟩
      rw [ht, h]
      refine congrArg Host.Outcome.next ?_
      simp [restore, save, withEarlier, hcfg, ← hucfg]
    | fault => rw [h] at hu; cases hu
    | refused => rw [h] at hu; cases hu
  · rw [hs] at hwhy
    cases h : step (silent s) with
    | next => rw [h] at hwhy; cases hwhy
    | fault => rw [h] at hwhy; cases hwhy
    | refused r =>
      rw [h] at hwhy
      rw [ht, h]
      exact hwhy
  · have hleads := step_leads s
    rw [hf] at hleads
    exact hleads

end Sys2Proof.Machine
end

section
/-! PROOFS. How a meaning completes: from the state operation that it ends in to what `Safety.lean` says of it. -/

namespace Sys2Proof.Machine

variable {i : Instr} {s u : State}

/-! ## The CPU -/

/-- A meaning that writes a register of a state whose CPU is that of `s`, and retires. -/
theorem writesGprFrom_of_exec {rd : Reg} {v w : Dword} (h : exec i s = seq (setGpr u rd w)) (hv : w = v)
    (hcpu : u.cpu = s.cpu) : writesGprFrom u i rd v s := by
  subst hv
  refine ⟨_, h, ?_, ⟨fun r hr => ?_, rfl, fun _ => rfl⟩, ?_, rfl, rfl⟩
  · rw [gpr_retireSeq, gpr_setGpr_same]
  · rw [gpr_retireSeq, gpr_setGpr_ne _ _ hr]
  · rw [← hcpu]
    rfl

theorem writesGpr_of_exec {rd : Reg} {v w : Dword} (h : exec i s = seq (setGpr s rd w)) (hv : w = v) :
    writesGpr i rd v s := writesGprFrom_of_exec h hv rfl

theorem writesHiLo_of_exec {hi lo hi' lo' : Dword} (h : exec i s = seq (setHiLo s hi' lo')) (hhi : hi' = hi)
    (hlo : lo' = lo) : writesHiLo i hi lo s := by
  subst hhi hlo
  exact ⟨_, h, rfl, rfl, ⟨rfl, fun _ => rfl⟩, rfl, rfl, rfl⟩

/-- A meaning that moves to a state whose CPU is that of `s`, and retires. -/
theorem movesTo_of_exec (h : exec i s = seq u) (hcpu : u.cpu = s.cpu) : movesTo i u s := by
  refine ⟨_, h, rfl, fun _ => rfl, ?_, rfl, rfl⟩
  rw [← hcpu]
  rfl

/-- NONSEXT32 lets admitted operands pass (R300). -/
theorem on32_of_operands32 {vs : List Dword} (h : operands32 s vs) (r : Result) : on32 s vs r = r := by
  unfold on32
  rcases h with h | h
  · rw [h]
  · cases s.cfg.nonSext32 with
    | low32 => rfl
    | refuse => exact if_pos (List.all_eq_true.mpr fun v hv => beq_iff_eq.mpr (h v hv))

/-- With NONSEXT32 at `refuse` an operand that is not sign-extended is refused (R300). -/
theorem on32_refuse {vs : List Dword} {v : Dword} (hs : s.cfg.nonSext32 = .refuse) (hv : v ∈ vs)
    (h : v ≠ sext32 (lo32 v)) (r : Result) : on32 s vs r = .refused .nonSignExtendedOperand := by
  unfold on32
  rw [hs]
  exact if_neg fun hall => h (beq_iff_eq.mp (List.all_eq_true.mp hall v hv))

/-- A control transfer in a delay slot is refused (R413). -/
theorem controlTransfer_of_ds (h : s.cpu.ds = true) (r : Result) :
    controlTransfer s r = .refused .controlTransferInDelaySlot := if_pos h

/-- Outside a delay slot it goes on. -/
theorem controlTransfer_of_not_ds (h : s.cpu.ds = false) (r : Result) : controlTransfer s r = r :=
  if_neg (by simp [h])

theorem withCp1_of_usable (h : statusCu1 s = true) (r : Result) : withCp1 s r = r := if_pos h

theorem withCp1_of_unusable (h : statusCu1 s = false) (r : Result) :
    withCp1 s r = raise (.coprocessorUnusable 1) s := if_neg (by simp [h])

/-- A meaning that retires as a branch without a link. -/
theorem branches_of_exec {taken likely : Bool} {target target' : Dword}
    (h : exec i s = .next (retireBranch taken target' likely s)) (ht : target' = target) :
    branches i taken target likely none s := by
  subst ht
  refine ⟨_, h, ?_, rfl, rfl, rfl, fun _ => rfl⟩
  cases taken <;> cases likely <;> rfl

/-- A meaning that writes its link register and retires as a branch. -/
theorem branches_link_of_exec {taken likely : Bool} {target target' : Dword} {r : Reg}
    (h : exec i s = .next (retireBranch taken target' likely (setGpr s r (linkAddress s)))) (ht : target' = target) :
    branches i taken target likely (some r) s := by
  subst ht
  refine ⟨_, h, ?_, rfl, rfl, ?_, fun j hj => ?_, rfl, fun _ => rfl⟩
  · cases taken <;> cases likely <;> rfl
  · rw [gpr_retireBranch, gpr_setGpr_same]
    rfl
  · rw [gpr_retireBranch, gpr_setGpr_ne _ _ hj]

/-! ## The VectorUnit -/

theorem writesSrFrom_of_exec {rd : Reg} {v w : Word} (h : exec i s = vuSeq (setSr u rd w)) (hv : w = v)
    (hvu : u.vu = s.vu) : writesSrFrom u i rd v s := by
  subst hv
  refine ⟨_, h, ?_, ⟨fun r hr => ?_, rfl, fun _ => rfl⟩, ?_, rfl, rfl⟩
  · rw [sr_vuRetireSeq, sr_setSr_same]
  · rw [sr_vuRetireSeq, sr_setSr_ne _ _ hr]
  · rw [← hvu]
    rfl

theorem writesSr_of_exec {rd : Reg} {v w : Word} (h : exec i s = vuSeq (setSr s rd w)) (hv : w = v) :
    writesSr i rd v s := writesSrFrom_of_exec h hv rfl

theorem vuControlTransfer_of_ds (h : s.vu.ds = true) (r : Result) :
    vuControlTransfer s r = .refused .vectorUnitBranchInDelaySlot := if_pos h

theorem vuControlTransfer_of_not_ds (h : s.vu.ds = false) (r : Result) : vuControlTransfer s r = r :=
  if_neg (by simp [h])

theorem vuBranches_of_exec {taken : Bool} {target target' : BitVec 12}
    (h : exec i s = .next (vuRetireBranch taken target' s)) (ht : target' = target) : vuBranches i taken target none s := by
  subst ht
  exact ⟨_, h, rfl, rfl, rfl, rfl, fun _ => rfl⟩

theorem vuBranches_link_of_exec {taken : Bool} {target target' : BitVec 12} {r : Reg}
    (h : exec i s = .next (vuRetireBranch taken target' (setSr s r (vuLink s)))) (ht : target' = target) :
    vuBranches i taken target (some r) s := by
  subst ht
  refine ⟨_, h, rfl, rfl, rfl, ?_, fun j hj => ?_, rfl, fun _ => rfl⟩
  · rw [sr_vuRetireBranch, sr_setSr_same]
    rfl
  · rw [sr_vuRetireBranch, sr_setSr_ne _ _ hj]

end Sys2Proof.Machine
end

section
/-! PROOFS. Integer instructions: adds, logic, shifts, multiplies, divides (spec/40_integer_alu.md,
spec/41_muldiv.md). -/

namespace Sys2Proof.Machine

/-! ## Words as numbers -/

theorem sext32_ofInt {r : Int} (h : -2 ^ 31 ≤ r ∧ r < 2 ^ 31) : sext32 (BitVec.ofInt 32 r) = BitVec.ofInt 64 r := by
  rw [sext32, BitVec.signExtend, BitVec.toInt_ofInt_eq_self (by decide) h.1 h.2]

theorem add_eq_ofInt {n : Nat} (a b : BitVec n) : a + b = BitVec.ofInt n (a.toInt + b.toInt) := by
  rw [BitVec.ofInt_add, BitVec.ofInt_toInt, BitVec.ofInt_toInt]

theorem sub_eq_ofInt {n : Nat} (a b : BitVec n) : a - b = BitVec.ofInt n (a.toInt - b.toInt) := by
  rw [Int.sub_eq_add_neg, BitVec.ofInt_add, BitVec.ofInt_neg, BitVec.ofInt_toInt, BitVec.ofInt_toInt, BitVec.sub_eq_add_neg]

/-- A sign-extended immediate is added as the number it stands for. -/
theorem add_signExtend_eq_ofInt {n : Nat} (a : BitVec n) (imm : BitVec 16) :
    a + imm.signExtend n = BitVec.ofInt n (a.toInt + imm.toInt) := by
  rw [BitVec.ofInt_add, BitVec.ofInt_toInt]
  rfl

theorem shiftLeft_eq_ofNat {w : Nat} (v : BitVec w) (n : Nat) : v <<< n = BitVec.ofNat w (v.toNat * 2 ^ n) := by
  apply BitVec.eq_of_toNat_eq
  rw [BitVec.toNat_shiftLeft, Nat.shiftLeft_eq, BitVec.toNat_ofNat]

theorem ushiftRight_eq_ofNat {w : Nat} (v : BitVec w) (n : Nat) : v >>> n = BitVec.ofNat w (v.toNat / 2 ^ n) := by
  apply BitVec.eq_of_toNat_eq
  rw [BitVec.toNat_ushiftRight, Nat.shiftRight_eq_div_pow, BitVec.toNat_ofNat,
    Nat.mod_eq_of_lt ((Nat.div_le_self ..).trans_lt v.isLt)]

theorem sshiftRight_eq_ofInt {w : Nat} (v : BitVec w) (n : Nat) :
    v.sshiftRight n = BitVec.ofInt w (v.toInt / 2 ^ n) := by
  rw [BitVec.sshiftRight, Int.shiftRight_eq_div_pow, Nat.cast_pow]
  rfl

theorem amount5_eq (s : State) (rs : Reg) : amount5 s rs = (gpr s rs).toNat % 32 := BitVec.toNat_setWidth ..

theorem amount6_eq (s : State) (rs : Reg) : amount6 s rs = (gpr s rs).toNat % 64 := BitVec.toNat_setWidth ..

/-- Two's complement: a number of `2w` bits is its high half, signed, above its low half. -/
theorem toInt_halves {w : Nat} (hw : w ≠ 0) (p : BitVec (w + w)) :
    (p.extractLsb' w w).toInt * 2 ^ w + (p.extractLsb' 0 w).toNat = p.toInt := by
  have h := congrArg BitVec.toInt (BitVec.extractLsb'_append_extractLsb' (x := p))
  rw [BitVec.toInt_append, if_neg (by simpa using hw)] at h
  rw [← h, mul_comm]

theorem toNat_halves {w : Nat} (p : BitVec (w + w)) :
    (p.extractLsb' w w).toNat * 2 ^ w + (p.extractLsb' 0 w).toNat = p.toNat := by
  have h := p.isLt
  rw [BitVec.extractLsb'_toNat, BitVec.extractLsb'_toNat, Nat.shiftRight_eq_div_pow, Nat.shiftRight_zero,
    Nat.mod_eq_of_lt (Nat.div_lt_of_lt_mul (by rwa [← pow_add]))]
  exact Nat.div_add_mod' ..

/-- A signed product fits in twice the width. -/
theorem toInt_ofInt_mul {w : Nat} (hw : 0 < w) (a b : BitVec w) :
    (BitVec.ofInt (w + w) (a.toInt * b.toInt)).toInt = a.toInt * b.toInt := by
  have hle := BitVec.toInt_mul_toInt_le (x := a) (y := b)
  have hge := BitVec.le_toInt_mul_toInt (x := a) (y := b)
  have hpow : (2 : Int) ^ (w * 2 - 2) < 2 ^ (w + w - 1) := pow_lt_pow_right₀ (by decide) (by omega)
  exact BitVec.toInt_ofInt_eq_self (by omega) (by omega) (by omega)

theorem toNat_ofNat_mul {w : Nat} (a b : BitVec w) :
    (BitVec.ofNat (w + w) (a.toNat * b.toNat)).toNat = a.toNat * b.toNat := by
  rw [BitVec.toNat_ofNat, Nat.mod_eq_of_lt]
  rw [pow_add]
  exact Nat.mul_lt_mul'' a.isLt b.isLt

/-! ## Adds and subtracts -/

section Checks

variable {i : Instr} {s : State} {rd : Reg} {r : Int} {v : Dword} {n : Nat}

theorem overflows_eq_false (h : -(2 ^ (n - 1)) ≤ r ∧ r < 2 ^ (n - 1)) : overflows n r = false := by
  simp only [overflows, Bool.or_eq_false_iff, decide_eq_false_iff_not]
  omega

theorem overflows_eq_true (h : ¬(-(2 ^ (n - 1)) ≤ r ∧ r < 2 ^ (n - 1))) : overflows n r = true := by
  simp only [overflows, Bool.or_eq_true, decide_eq_true_eq]
  omega

/-- An overflow-checked instruction of width `n` (R301): the exact result where it fits, and otherwise the exception. -/
theorem checks_of_exec (h : exec i s = checked n r rd v s)
    (hv : (-(2 ^ (n - 1)) ≤ r ∧ r < 2 ^ (n - 1)) → v = BitVec.ofInt 64 r) :
    ((-(2 ^ (n - 1)) ≤ r ∧ r < 2 ^ (n - 1)) → writesGpr i rd (BitVec.ofInt 64 r) s) ∧
      (¬(-(2 ^ (n - 1)) ≤ r ∧ r < 2 ^ (n - 1)) → takes i .integerOverflow s) := by
  refine ⟨fun hr => writesGpr_of_exec (h.trans ?_) (hv hr), fun hr => h.trans ?_⟩
  · rw [checked, overflows_eq_false hr]
    rfl
  · rw [checked, overflows_eq_true hr]
    rfl

end Checks

/-- Settles O16. -/
theorem addsAndSubtracts : Obligations.AddsAndSubtracts := by
  intro rd rs rt imm s
  refine ⟨fun h => ?_, fun h => ?_, ?_⟩
  · have hon := on32_of_operands32 h
    refine ⟨checks_of_exec (hon _) fun hr => ?_, checks_of_exec (hon _) fun hr => ?_, writesGpr_of_exec (hon _) ?_,
      writesGpr_of_exec (hon _) ?_⟩
    · rw [add_eq_ofInt]
      exact sext32_ofInt hr
    · rw [sub_eq_ofInt]
      exact sext32_ofInt hr
    · exact congrArg sext32 (add_eq_ofInt ..)
    · exact congrArg sext32 (sub_eq_ofInt ..)
  · have hon := on32_of_operands32 h
    refine ⟨checks_of_exec (hon _) fun hr => ?_, writesGpr_of_exec (hon _) ?_⟩
    · rw [sext16To32, add_signExtend_eq_ofInt]
      exact sext32_ofInt hr
    · exact congrArg sext32 (add_signExtend_eq_ofInt ..)
  · refine ⟨checks_of_exec rfl fun _ => add_eq_ofInt .., checks_of_exec rfl fun _ => sub_eq_ofInt ..,
      checks_of_exec rfl fun _ => add_signExtend_eq_ofInt .., writesGpr_of_exec rfl ?_, writesGpr_of_exec rfl ?_,
      writesGpr_of_exec rfl ?_⟩
    · rw [BitVec.signExtend_eq, add_eq_ofInt]
    · rw [BitVec.signExtend_eq, sub_eq_ofInt]
    · rw [BitVec.signExtend_eq, sext16, add_signExtend_eq_ofInt]

/-- Settles O17. -/
theorem logicAndCompare : Obligations.LogicAndCompare := by
  intro rd rs rt imm s
  have htruth (p : Prop) [Decidable p] : truth (decide p) = if p then 1 else 0 := by
    unfold truth
    by_cases h : p <;> simp [h]
  refine ⟨writesGpr_of_exec rfl rfl, writesGpr_of_exec rfl rfl, writesGpr_of_exec rfl rfl, writesGpr_of_exec rfl rfl,
    writesGpr_of_exec rfl rfl, writesGpr_of_exec rfl rfl, writesGpr_of_exec rfl rfl, writesGpr_of_exec rfl ?_,
    writesGpr_of_exec rfl (htruth _), writesGpr_of_exec rfl (htruth _), writesGpr_of_exec rfl ?_,
    writesGpr_of_exec rfl (htruth _)⟩
  · exact congrArg (BitVec.ofInt 64) BitVec.toInt_append_zero
  · rw [BitVec.slt_eq_decide, sext16, BitVec.toInt_signExtend_of_le (by decide)]
    exact htruth _

/-- Settles O18. -/
theorem shifts : Obligations.Shifts := by
  intro rd rt rs sa s
  refine ⟨fun h => ?_, fun h => ?_, writesGpr_of_exec rfl (shiftLeft_eq_ofNat ..),
    writesGpr_of_exec rfl (ushiftRight_eq_ofNat ..), writesGpr_of_exec rfl (sshiftRight_eq_ofInt ..),
    writesGpr_of_exec rfl (shiftLeft_eq_ofNat ..), writesGpr_of_exec rfl (ushiftRight_eq_ofNat ..),
    writesGpr_of_exec rfl (sshiftRight_eq_ofInt ..), ?_⟩
  · have hon := on32_of_operands32 h
    exact ⟨writesGpr_of_exec (hon _) (congrArg sext32 (shiftLeft_eq_ofNat ..)),
      writesGpr_of_exec (hon _) (congrArg sext32 (ushiftRight_eq_ofNat ..)),
      writesGpr_of_exec (hon _) (congrArg sext32 (sshiftRight_eq_ofInt ..))⟩
  · have hon := on32_of_operands32 h
    rw [← amount5_eq]
    exact ⟨writesGpr_of_exec (hon _) (congrArg sext32 (shiftLeft_eq_ofNat ..)),
      writesGpr_of_exec (hon _) (congrArg sext32 (ushiftRight_eq_ofNat ..)),
      writesGpr_of_exec (hon _) (congrArg sext32 (sshiftRight_eq_ofInt ..))⟩
  · rw [← amount6_eq]
    exact ⟨writesGpr_of_exec rfl (shiftLeft_eq_ofNat ..), writesGpr_of_exec rfl (ushiftRight_eq_ofNat ..),
      writesGpr_of_exec rfl (sshiftRight_eq_ofInt ..)⟩

/-- Settles O19. -/
theorem nonSignExtendedOperandsAreRefused : Obligations.NonSignExtendedOperandsAreRefused := by
  intro rd rs rt imm sa s hs
  refine ⟨fun h => ?_, fun h => ?_, fun h => ?_⟩
  · have hon := on32_refuse (vs := [gpr s rs]) hs (by simp) h
    exact ⟨hon _, hon _⟩
  · have hon := on32_refuse (vs := [gpr s rt]) hs (by simp) h
    exact ⟨hon _, hon _, hon _⟩
  · have hon (r : Result) : on32 s [gpr s rs, gpr s rt] r = .refused .nonSignExtendedOperand :=
      h.elim (on32_refuse hs (by simp) · r) (on32_refuse hs (by simp) · r)
    have hon' (r : Result) : on32 s [gpr s rt, gpr s rs] r = .refused .nonSignExtendedOperand :=
      h.elim (on32_refuse hs (by simp) · r) (on32_refuse hs (by simp) · r)
    exact ⟨hon _, hon _, hon _, hon _, hon' _, hon' _, hon' _, hon _, hon _, hon _, hon _⟩

/-- Settles O20. -/
theorem multiplyAndTransfers : Obligations.MultiplyAndTransfers := by
  intro rs rt s
  refine ⟨fun h => ?_, ⟨_, _, ?_, writesHiLo_of_exec rfl rfl rfl⟩, ⟨_, _, ?_, writesHiLo_of_exec rfl rfl rfl⟩,
    writesGpr_of_exec rfl rfl, writesGpr_of_exec rfl rfl, writesHiLo_of_exec rfl rfl rfl, writesHiLo_of_exec rfl rfl rfl⟩
  · have hon := on32_of_operands32 h
    exact ⟨⟨_, _, (toInt_halves (w := 32) (by decide) _).trans (toInt_ofInt_mul (by decide) ..), writesHiLo_of_exec (hon _) rfl rfl⟩,
      _, _, (toNat_halves (w := 32) _).trans (toNat_ofNat_mul ..), writesHiLo_of_exec (hon _) rfl rfl⟩
  · exact (toInt_halves (w := 64) (by decide) _).trans (toInt_ofInt_mul (by decide) ..)
  · exact (toNat_halves (w := 64) _).trans (toNat_ofNat_mul ..)

/-! ## Divides -/

section DivideByZero

variable {s : State} {k : DivKind} {n : Dword}

theorem divideByZero_vr4300 (h : s.cfg.div0 = .vr4300) :
    divideByZero k n s = seq (setHiLo s (div0Default k n).2 (div0Default k n).1) := by
  rw [divideByZero, h]

theorem divideByZero_supplied (h : s.cfg.div0 = .supplied) :
    divideByZero k n s = seq (setHiLo s (Config.div0Supplied k n).2 (Config.div0Supplied k n).1) := by
  rw [divideByZero, h]

theorem divideByZero_refuse (h : s.cfg.div0 = .refuse) : divideByZero k n s = .refused .divisionByZero := by
  rw [divideByZero, h]

end DivideByZero

theorem umod_eq_ofNat {w : Nat} (a b : BitVec w) : a % b = BitVec.ofNat w (a.toNat % b.toNat) := by
  rw [← BitVec.toNat_umod, BitVec.ofNat_toNat, BitVec.setWidth_eq]

theorem udiv_eq_ofNat {w : Nat} (a b : BitVec w) : a / b = BitVec.ofNat w (a.toNat / b.toNat) := by
  rw [← BitVec.toNat_udiv, BitVec.ofNat_toNat, BitVec.setWidth_eq]

/-- Settles O21. -/
theorem divide : Obligations.Divide := by
  intro rs rt s
  refine ⟨fun h hb => ?_, fun hb => ?_, fun h hb => ?_, fun hb => ?_⟩
  · have hon := on32_of_operands32 h
    exact ⟨writesHiLo_of_exec ((hon _).trans (if_neg hb)) rfl rfl,
      writesHiLo_of_exec ((hon _).trans (if_neg hb)) (congrArg sext32 (umod_eq_ofNat ..))
        (congrArg sext32 (udiv_eq_ofNat ..))⟩
  · exact ⟨writesHiLo_of_exec (if_neg hb) rfl rfl,
      writesHiLo_of_exec (if_neg hb) (umod_eq_ofNat ..) (udiv_eq_ofNat ..)⟩
  · have hdiv : exec (.div rs rt) s = divideByZero .div (sext32 (word s rs)) s :=
      (on32_of_operands32 h _).trans (if_pos hb)
    have hdivu : exec (.divu rs rt) s = divideByZero .divu (zext32 (word s rs)) s :=
      (on32_of_operands32 h _).trans (if_pos hb)
    have hsign : (sext32 (word s rs)).toInt = (lo32 (gpr s rs)).toInt := BitVec.toInt_signExtend_of_le (by decide)
    have hlow : lo32 (zext32 (word s rs)) = lo32 (gpr s rs) := BitVec.setWidth_setWidth_of_le _ (by decide)
    refine ⟨fun hc => ⟨?_, ?_⟩, fun hc => ⟨?_, ?_⟩, fun hc => ⟨hdiv.trans (divideByZero_refuse hc),
      hdivu.trans (divideByZero_refuse hc)⟩⟩
    · refine writesHiLo_of_exec (hdiv.trans (divideByZero_vr4300 hc)) rfl ?_
      rw [div0Default, hsign]
      rfl
    · exact writesHiLo_of_exec (hdivu.trans (divideByZero_vr4300 hc)) (congrArg sext32 hlow) rfl
    · exact writesHiLo_of_exec (hdiv.trans (divideByZero_supplied hc)) rfl rfl
    · exact writesHiLo_of_exec (hdivu.trans (divideByZero_supplied hc)) rfl rfl
  · have hdiv : exec (.ddiv rs rt) s = divideByZero .ddiv (gpr s rs) s := if_pos hb
    have hdivu : exec (.ddivu rs rt) s = divideByZero .ddivu (gpr s rs) s := if_pos hb
    exact ⟨fun hc => ⟨writesHiLo_of_exec (hdiv.trans (divideByZero_vr4300 hc)) rfl rfl,
        writesHiLo_of_exec (hdivu.trans (divideByZero_vr4300 hc)) rfl rfl⟩,
      fun hc => ⟨writesHiLo_of_exec (hdiv.trans (divideByZero_supplied hc)) rfl rfl,
        writesHiLo_of_exec (hdivu.trans (divideByZero_supplied hc)) rfl rfl⟩,
      fun hc => ⟨hdiv.trans (divideByZero_refuse hc), hdivu.trans (divideByZero_refuse hc)⟩⟩

end Sys2Proof.Machine
end

section
/-! PROOFS. Control transfer: traps, branches, jumps and their refusals (spec/42_branch_jump.md,
spec/44_system_cp0.md, spec/46_vector_unit.md). -/

namespace Sys2Proof.Machine

/-! ## Traps -/

section Traps

variable {i : Instr} {s : State} {c : Bool} {p : Prop}

/-- A conditional trap takes Trap exactly when its condition holds. -/
theorem traps_of_exec (h : exec i s = trapIf c s) (hc : c = true ↔ p) :
    (p → takes i .trap s) ∧ (¬p → hasNoEffect i s) :=
  ⟨fun hp => h.trans (if_pos (hc.mpr hp)), fun hp => hasNoEffect_of_exec_eq_seq (h.trans (if_neg (mt hc.mp hp)))⟩

end Traps

/-- Settles O11. -/
theorem syscallBreakAndTrapsTakeTheirExceptions : Obligations.SyscallBreakAndTrapsTakeTheirExceptions := by
  intro rs rt code trapCode imm s
  have himm : (sext16 imm).toInt = imm.toInt := BitVec.toInt_signExtend_of_le (by decide)
  have hslt (a b : Dword) : (!a.slt b) = true ↔ b.toInt ≤ a.toInt := by simp [BitVec.slt_eq_decide]
  have hult (a b : Dword) : (!a.ult b) = true ↔ b.toNat ≤ a.toNat := by simp [BitVec.ult_eq_decide]
  obtain ⟨hsyscallEpc, -, hsyscallCode, -⟩ := exceptionEntryWrites .syscall s.cpu.ds s
  obtain ⟨hbreakEpc, -, hbreakCode, -⟩ := exceptionEntryWrites .breakpoint s.cpu.ds s
  refine ⟨rfl, rfl, ⟨_, rfl, hsyscallCode, fun h => (hsyscallEpc h).1⟩,
    ⟨_, rfl, hbreakCode, fun h => (hbreakEpc h).1⟩, traps_of_exec rfl (hslt ..), traps_of_exec rfl (hult ..),
    traps_of_exec rfl BitVec.slt_iff_toInt_lt, traps_of_exec rfl BitVec.ult_iff_lt, traps_of_exec rfl beq_iff_eq,
    traps_of_exec rfl bne_iff_ne, traps_of_exec rfl (himm ▸ hslt ..), traps_of_exec rfl (hult ..),
    traps_of_exec rfl (himm ▸ BitVec.slt_iff_toInt_lt), traps_of_exec rfl BitVec.ult_iff_lt, traps_of_exec rfl beq_iff_eq,
    traps_of_exec rfl bne_iff_ne⟩

/-! ## Branches and jumps -/

theorem branchTarget_eq (pc : Dword) (imm : BitVec 16) :
    branchTarget pc imm = pc + 4 + BitVec.ofInt 64 (4 * imm.toInt) := by
  have h : sext16 imm <<< 2 = BitVec.ofInt 64 (4 * imm.toInt) := by
    rw [BitVec.ofInt_mul, BitVec.shiftLeft_eq_mul_twoPow, mul_comm]
    rfl
  rw [branchTarget, h]
  rfl

theorem jumpTarget_eq (pc : Dword) (index : BitVec 26) :
    jumpTarget pc index = ((pc + 4) >>> 28 <<< 28) ||| (index.setWidth 64 <<< 2) := by
  apply BitVec.eq_of_getLsbD_eq
  intro k hk
  have hzero : BitVec.getLsbD (0 : BitVec 2) k = false := BitVec.getLsbD_zero
  rw [jumpTarget, BitVec.getLsbD_append, BitVec.getLsbD_append, hzero]
  simp only [BitVec.getLsbD_or, BitVec.getLsbD_shiftLeft, BitVec.getLsbD_ushiftRight, BitVec.getLsbD_extractLsb',
    BitVec.getLsbD_setWidth]
  by_cases h2 : k < 2
  · simp [h2, show k < 28 by omega]
  · by_cases h28 : k < 28
    · simp [h2, h28, hk, show k - 2 < 26 by omega, show k - 2 < 64 by omega]
    · have hindex : index.getLsbD (k - 2) = false := BitVec.getLsbD_of_ge _ _ (by omega)
      simp [h2, h28, hk, hindex, show ¬ k - 2 < 26 by omega, show k - 2 - 26 = k - 28 by omega, show k - 28 < 36 by omega]

section Branches

variable {i : Instr} {s : State} {c : Bool} {target : Dword}

theorem branches_of_branchOn {imm : BitVec 16} {likely taken : Bool} (hds : s.cpu.ds = false)
    (h : exec i s = branchOn taken imm likely s) (hc : taken = c) :
    branches i c (s.cpu.pc + 4 + BitVec.ofInt 64 (4 * imm.toInt)) likely none s :=
  hc ▸ branches_of_exec (h.trans (controlTransfer_of_not_ds hds _)) (branchTarget_eq ..)

end Branches

theorem isNegative_iff (s : State) (i : Reg) : isNegative s i = true ↔ (gpr s i).toInt < 0 := by
  rw [← BitVec.toInt_zero (w := 64), ← BitVec.slt_iff_toInt_lt, BitVec.slt_zero_eq_msb, BitVec.msb_eq_getLsbD_last]
  rfl

theorem isNegative_or_isZero_iff (s : State) (i : Reg) :
    (isNegative s i || isZero s i) = true ↔ (gpr s i).toInt ≤ 0 := by
  have hzero : isZero s i = true ↔ (gpr s i).toInt = 0 := by
    rw [← BitVec.toInt_zero (w := 64), BitVec.toInt_inj]
    exact beq_iff_eq
  rw [Bool.or_eq_true, isNegative_iff, hzero]
  exact le_iff_lt_or_eq.symm

/-- Settles O14. -/
theorem conditionalBranches : Obligations.ConditionalBranches := by
  intro rs rt imm s hds
  refine ⟨fun c hc => ?_, fun c hc => ?_, fun c hc => ?_, fun hcp1 c hc => ?_⟩
  · have h : (gpr s rs == gpr s rt) = c := Bool.eq_iff_iff.mpr (beq_iff_eq.trans hc.symm)
    have hn : (gpr s rs != gpr s rt) = !c := congrArg _ h
    exact ⟨branches_of_branchOn hds rfl h, branches_of_branchOn hds rfl hn, branches_of_branchOn hds rfl h,
      branches_of_branchOn hds rfl hn⟩
  · have h : (isNegative s rs || isZero s rs) = c :=
      Bool.eq_iff_iff.mpr ((isNegative_or_isZero_iff ..).trans hc.symm)
    exact ⟨branches_of_branchOn hds rfl h, branches_of_branchOn hds rfl (congrArg _ h), branches_of_branchOn hds rfl h,
      branches_of_branchOn hds rfl (congrArg _ h)⟩
  · have h : isNegative s rs = c := Bool.eq_iff_iff.mpr ((isNegative_iff ..).trans hc.symm)
    exact ⟨branches_of_branchOn hds rfl h, branches_of_branchOn hds rfl (congrArg _ h), branches_of_branchOn hds rfl h,
      branches_of_branchOn hds rfl (congrArg _ h)⟩
  · have hon := withCp1_of_usable hcp1
    exact ⟨branches_of_branchOn hds (hon _) hc.symm, branches_of_branchOn hds (hon _) (congrArg _ hc.symm),
      branches_of_branchOn hds (hon _) hc.symm, branches_of_branchOn hds (hon _) (congrArg _ hc.symm)⟩

/-- Settles O15. -/
theorem jumpsAndLinks : Obligations.JumpsAndLinks := by
  intro rd rs imm index s hds
  have hgo := controlTransfer_of_not_ds hds
  refine ⟨branches_of_exec (hgo _) (jumpTarget_eq ..), branches_link_of_exec (hgo _) (jumpTarget_eq ..),
    branches_of_exec (hgo _) rfl, fun h => ?_, fun h c hc => ?_⟩
  · refine branches_link_of_exec ((hgo _).trans (if_neg ?_)) rfl
    simpa using h
  · have hlink (r : Result) : linkNotSource (rs == 31) r = r := if_neg (by simpa using h)
    have hneg : isNegative s rs = c := Bool.eq_iff_iff.mpr ((isNegative_iff ..).trans hc.symm)
    subst hneg
    exact ⟨branches_link_of_exec ((hgo _).trans (hlink _)) (branchTarget_eq ..),
      branches_link_of_exec ((hgo _).trans (hlink _)) (branchTarget_eq ..),
      branches_link_of_exec ((hgo _).trans (hlink _)) (branchTarget_eq ..),
      branches_link_of_exec ((hgo _).trans (hlink _)) (branchTarget_eq ..)⟩

/-! ## Refusals -/

/-- Whether an instruction is coprocessor 1's is in its opcode (R262). -/
theorem isCp1_of_encode {i : Instr} {w : Word} (h : encode i = .cpu w) :
    isCp1 i = (fOp w == 17 || fOp w == 49 || fOp w == 53 || fOp w == 57 || fOp w == 61) := by
  rw [isCp1, h]

/-- In a delay slot every branch, jump and ERET is refused (R413). -/
theorem stops_of_isControlTransfer {i : Instr} {s : State} (h : isControlTransfer i = true) (hds : s.cpu.ds = true)
    (hcp1 : isCp1 i = true → statusCu1 s = true) : stops i .controlTransferInDelaySlot s := by
  cases i with
  | bc1f | bc1t | bc1fl | bc1tl =>
    exact (withCp1_of_usable (hcp1 ((isCp1_of_encode rfl).trans (by simp))) _).trans (controlTransfer_of_ds hds _)
  | beq | bne | blez | bgtz | bltz | bgez | beql | bnel | blezl | bgtzl | bltzl | bgezl | bltzal | bgezal | bltzall
  | bgezall | j | jal | jr | jalr | eret => exact controlTransfer_of_ds hds _
  | _ => cases h

/-- In a delay slot of the VectorUnit every branch and jump is refused (R639). -/
theorem stops_of_isVuBranch {i : Instr} {s : State} (h : isVuBranch i = true) (hds : s.vu.ds = true) :
    stops i .vectorUnitBranchInDelaySlot s := by
  cases i with
  | rspJr | rspJalr | rspJ | rspJal | rspBeq | rspBne | rspBlez | rspBgtz | rspBltz | rspBgez | rspBltzal | rspBgezal =>
    exact vuControlTransfer_of_ds hds _
  | _ => cases h

/-- Settles O13. -/
theorem controlTransferRefusals : Obligations.ControlTransferRefusals := by
  intro i imm r s
  refine ⟨stops_of_isControlTransfer, stops_of_isVuBranch, fun hds => ?_, fun hds => ?_⟩
  · have hgo := controlTransfer_of_not_ds hds
    exact ⟨hgo _, hgo _, hgo _, hgo _, (hgo _).trans (if_pos (by simp))⟩
  · have hgo := vuControlTransfer_of_not_ds hds
    exact ⟨hgo _, hgo _, (hgo _).trans (if_pos (by simp))⟩

end Sys2Proof.Machine
end

section
/-! PROOFS. What one step of each agent does (spec/42_branch_jump.md R411, spec/46_vector_unit.md R633, R634,
spec/48_rasterizer.md R1001, spec/60_exceptions.md R850), and the meanings that are refused by name. -/

namespace Sys2Proof.Machine

/-! ## Big-endian values, byte by byte -/

/-- The big-endian value of the bytes `f 0` to `f (n - 1)` (R161). -/
def bigEndian (f : Nat → Byte) : Nat → Dword
  | 0 => 0
  | n + 1 => (bigEndian f n <<< 8) ||| (f n).setWidth 64

theorem Memory.read_eq_bigEndian (m : List Host.Cell) (a n : Nat) :
    Memory.read m a n = bigEndian (fun j => Memory.byte m (a + j)) n := by
  induction n with
  | zero => rfl
  | succ n ih => rw [Memory.read, ih]; rfl

/-- Bit `k` is in byte `n - 1 - k / 8`. -/
theorem getLsbD_bigEndian (f : Nat → Byte) {n k : Nat} (hn : n ≤ 8) (hk : k < 8 * n) :
    (bigEndian f n).getLsbD k = (f (n - 1 - k / 8)).getLsbD (k % 8) := by
  induction n generalizing k with
  | zero => omega
  | succ n ih =>
    rw [bigEndian, BitVec.getLsbD_or, BitVec.getLsbD_shiftLeft, BitVec.getLsbD_setWidth]
    by_cases h8 : k < 8
    · rw [show n + 1 - 1 - k / 8 = n by omega, show k % 8 = k by omega]
      simp [h8, show k < 64 by omega]
    · rw [ih (by omega) (by omega), BitVec.getLsbD_of_ge _ k (by omega), show (k - 8) % 8 = k % 8 by omega,
        show n - 1 - (k - 8) / 8 = n + 1 - 1 - k / 8 by omega]
      simp [h8, show k < 64 by omega]

theorem getLsbD_bigEndian_of_ge (f : Nat → Byte) {n k : Nat} (hk : 8 * n ≤ k) :
    (bigEndian f n).getLsbD k = false := by
  induction n generalizing k with
  | zero => exact BitVec.getLsbD_zero
  | succ n ih =>
    rw [bigEndian, BitVec.getLsbD_or, BitVec.getLsbD_shiftLeft, BitVec.getLsbD_setWidth, ih (by omega),
      BitVec.getLsbD_of_ge _ k (by omega)]
    simp

/-- The word at an aligned rsp_pc, which does not wrap (R634). -/
theorem vuFetch_eq_read {s : State} (h : s.vu.pc.toNat % 4 = 0) :
    vuFetch s = lo32 (Memory.read s.mem (0x04001000 + s.vu.pc.toNat) 4) := by
  have hpc (j : Nat) (hj : j < 4) : (s.vu.pc + BitVec.ofNat 12 j).toNat = s.vu.pc.toNat + j := by
    rw [BitVec.toNat_add, BitVec.toNat_ofNat]
    omega
  have h1 : (s.vu.pc + 1).toNat = s.vu.pc.toNat + 1 := hpc 1 (by decide)
  have h2 : (s.vu.pc + 2).toNat = s.vu.pc.toNat + 2 := hpc 2 (by decide)
  have h3 : (s.vu.pc + 3).toNat = s.vu.pc.toNat + 3 := hpc 3 (by decide)
  apply BitVec.eq_of_getLsbD_eq
  intro k hk
  rw [lo32, BitVec.getLsbD_setWidth, Memory.read_eq_bigEndian, getLsbD_bigEndian _ (by decide) (by omega), vuFetch, h1, h2,
    h3]
  simp only [BitVec.getLsbD_append, hk, decide_true, Bool.true_and]
  have hbase : imemBase = 0x04001000 := rfl
  rw [hbase]
  split
  · rw [show 4 - 1 - k / 8 = 3 by omega, show k % 8 = k by omega]
    rfl
  · split
    · rw [show 4 - 1 - k / 8 = 2 by omega, show k % 8 = k - 8 by omega]
      rfl
    · split
      · rw [show 4 - 1 - k / 8 = 1 by omega, show k % 8 = k - 8 - 8 by omega]
        rfl
      · rw [show 4 - 1 - k / 8 = 0 by omega, show k % 8 = k - 8 - 8 - 8 by omega]
        rfl

/-! ## A step, by the phase of the tick -/

section Phases

variable {s : State}

theorem step_of_refused {why : Refusal} (h : s.refused = some why) : step s = .refused why := by
  rw [step, machineStep, h]

theorem step_eq_phaseStep (h : s.refused = none) : step s = phaseStep s := by
  rw [step, machineStep, h]

variable (hrefused : s.refused = none)
include hrefused

theorem step_boundary (h : s.clock.phase = .boundary) : step s = .next (tickBegin s) := by
  rw [step_eq_phaseStep hrefused, phaseStep, h]

theorem step_cpu {n : Nat} (h : s.clock.phase = .cpu (n + 1)) : step s = cpuStep (setPhase (.cpu n) s) := by
  rw [step_eq_phaseStep hrefused, phaseStep, h]

theorem step_cpu_zero (h : s.clock.phase = .cpu 0) : step s = .next (setPhase .dma s) := by
  rw [step_eq_phaseStep hrefused, phaseStep, h]

theorem step_dma (h : s.clock.phase = .dma) : step s = dmaStep s := by
  rw [step_eq_phaseStep hrefused, phaseStep, h]

theorem step_vu_zero (h : s.clock.phase = .vu 0) : step s = .next (setPhase .flush s) := by
  rw [step_eq_phaseStep hrefused, phaseStep, h]

theorem step_vu {n : Nat} (h : s.clock.phase = .vu (n + 1)) :
    step s = if s.sp.halt then .next (setPhase .flush s) else vuStep (setPhase (.vu n) s) := by
  rw [step_eq_phaseStep hrefused, phaseStep, h]

theorem step_flush (h : s.clock.phase = .flush) : step s = .next (flushBegin s) := by
  rw [step_eq_phaseStep hrefused, phaseStep, h]

theorem step_draw_nil (h : s.clock.phase = .draw []) : step s = .next (flushEnd s) := by
  rw [step_eq_phaseStep hrefused, phaseStep, h]

theorem step_draw {ws : List Dword} {more : List (List Dword)} (h : s.clock.phase = .draw (ws :: more)) :
    step s = rdpRun ws (setPhase (.draw more) s) := by
  rw [step_eq_phaseStep hrefused, phaseStep, h]

theorem step_frame (h : s.clock.phase = .frame) : step s = .next (endTick s) := by
  rw [step_eq_phaseStep hrefused, phaseStep, h]

end Phases

/-! ## The CPU's step -/

section CpuStep

variable {s t : State} {p : Phase}

/-- An aligned pc that translates: the word there is run (R411). -/
theorem cpuStep_of_physical {pa : Word} (hpc : s.cpu.pc.toNat % 4 = 0)
    (h : translateVa s .fetch s.cpu.pc = .physical pa) :
    cpuStep (setPhase p s) = cpuRun (lo32 (memRead s pa 4).1) (setPhase p (memRead s pa 4).2) := by
  have ht : translateVa (setPhase p s) .fetch (setPhase p s).cpu.pc = .physical pa := h
  refine (if_neg (not_not.mpr hpc)).trans ?_
  rw [ht]
  dsimp only
  rw [memRead_setPhase]

theorem cpuStep_of_exception {e : Exception} (hpc : s.cpu.pc.toNat % 4 = 0)
    (h : translateVa s .fetch s.cpu.pc = .exception e) :
    cpuStep (setPhase p s) = cpuEnd false (raise e (setPhase p s)) := by
  have ht : translateVa (setPhase p s) .fetch (setPhase p s).cpu.pc = .exception e := h
  refine (if_neg (not_not.mpr hpc)).trans ?_
  rw [ht]

theorem cpuStep_of_refusal {why : Refusal} (hpc : s.cpu.pc.toNat % 4 = 0)
    (h : translateVa s .fetch s.cpu.pc = .refusal why) : cpuStep (setPhase p s) = .refused why := by
  have ht : translateVa (setPhase p s) .fetch (setPhase p s).cpu.pc = .refusal why := h
  refine (if_neg (not_not.mpr hpc)).trans ?_
  rw [ht]

/-- A word is decoded with the coprocessor bits of any state whose CP0 is the same. -/
theorem decodeCpu_congr (h : t.cp0 = s.cp0) (w : Word) :
    decodeCpu (statusCu1 t) (statusCu2 t) (statusCu3 t) w = decodeCpu (statusCu1 s) (statusCu2 s) (statusCu3 s) w := by
  have hbit (k : Nat) : statusBit t k = statusBit s k := by rw [statusBit, statusBit, h]
  rw [statusCu1, statusCu2, statusCu3, hbit, hbit, hbit]
  rfl

theorem cpuRun_of_ok {w : Word} {i : Instr} (h : decodeCpu (statusCu1 s) (statusCu2 s) (statusCu3 s) w = .ok i) :
    cpuRun w s = cpuEnd (polls i s) (exec i s) := by
  rw [cpuRun, h]

theorem cpuRun_of_unusable {w : Word} {z : BitVec 2}
    (h : decodeCpu (statusCu1 s) (statusCu2 s) (statusCu3 s) w = .error (.coprocessorUnusable z)) :
    cpuRun w s = cpuEnd false (raise (.coprocessorUnusable z) s) := by
  rw [cpuRun, h]

theorem cpuRun_of_reserved {w : Word}
    (h : decodeCpu (statusCu1 s) (statusCu2 s) (statusCu3 s) w = .error .reserved) :
    cpuRun w s = cpuEnd false (raise .reservedInstruction s) := by
  rw [cpuRun, h]

end CpuStep

/-- Settles O6. -/
theorem stepRunsDecodedCpuInstruction : Obligations.StepRunsDecodedCpuInstruction := by
  intro s n pa i hrefused hphase hpc htranslate hdecode
  let u : State := setPhase (.cpu n) (memRead s pa 4).2
  have hcpu : u.cpu = s.cpu := memRead_cpu s pa 4
  have hcp0 : u.cp0 = s.cp0 := memRead_cp0 s pa 4
  have hstep : step s = cpuEnd (polls i u) (exec i u) :=
    (step_cpu hrefused hphase).trans ((cpuStep_of_physical hpc htranslate).trans
      (cpuRun_of_ok ((decodeCpu_congr hcp0 _).trans hdecode)))
  have hpolls : polls i u = !(isBranch i || s.cpu.ds) := by rw [polls, hcpu, Bool.not_or]
  rw [hstep, hpolls]
  change cpuEnd _ (exec i u) = match exec i u with
    | .next t => .next (if isBranch i || s.cpu.ds then countTick t else pollInterrupt (countTick t))
    | .fault f => .fault f
    | .refused why => .refused why
  unfold cpuEnd
  cases exec i u with
  | next t => cases isBranch i || s.cpu.ds <;> rfl
  | fault => rfl
  | refused => rfl

/-- Settles O8. -/
theorem fetchAndDecodeExceptions : Obligations.FetchAndDecodeExceptions := by
  intro s n hrefused hphase
  have hstep := step_cpu hrefused hphase
  refine ⟨fun hpc => hstep.trans (if_pos hpc), fun hpc hkx hva => ?_, fun pa hpc htranslate => ?_,
    fun why hpc htranslate => hstep.trans (cpuStep_of_refusal hpc htranslate)⟩
  · refine hstep.trans (cpuStep_of_exception hpc ?_)
    rw [translateVa, if_neg (by simp [hkx]), if_pos hva]
    rfl
  · let v : State := setPhase (.cpu n) (memRead s pa 4).2
    have hds : v.cpu.ds = s.cpu.ds := congrArg Cpu.ds (memRead_cpu s pa 4)
    have hcp0 : v.cp0 = s.cp0 := memRead_cp0 s pa 4
    have hread : (memRead (setPhase (.cpu n) s) pa 4).2 = v := by rw [memRead_setPhase]
    have hrun := hstep.trans (cpuStep_of_physical hpc htranslate)
    change (_ → step s = .next (countTick (enter _ s.cpu.ds (memRead (setPhase (.cpu n) s) pa 4).2))) ∧
      ∀ z, _ → step s = .next (countTick (enter _ s.cpu.ds (memRead (setPhase (.cpu n) s) pa 4).2))
    rw [hread, ← hds]
    exact ⟨fun h => hrun.trans (cpuRun_of_reserved ((decodeCpu_congr hcp0 _).trans h)),
      fun z h => hrun.trans (cpuRun_of_unusable ((decodeCpu_congr hcp0 _).trans h))⟩

/-! ## The VectorUnit's step -/

section VectorUnitTables

variable {w : Word}

theorem rspSpecial_unlisted
    (h : (fFunct w).toNat ∉ [0, 2, 3, 4, 6, 7, 8, 9, 13, 32, 33, 34, 35, 36, 37, 38, 39, 42, 43]) :
    rspSpecial w = .error .vectorUnitUnlisted := by
  unfold rspSpecial
  split
  case h_20 => rfl
  all_goals next hf => exact absurd (hf ▸ by decide) h

theorem rspRegimm_unlisted (h : (fRt w).toNat ∉ [0, 1, 16, 17]) : rspRegimm w = .error .vectorUnitUnlisted := by
  unfold rspRegimm
  split
  case h_5 => rfl
  all_goals next hf => exact absurd (hf ▸ by decide) h

theorem rspCop0_unlisted (h : (fRs w).toNat ∉ [0, 4]) : rspCop0 w = .error .vectorUnitUnlisted := by
  unfold rspCop0
  split
  case h_3 => rfl
  all_goals next hf => exact absurd (hf ▸ by decide) h

theorem rspCop2Move_unlisted (h : (fRs w).toNat ∉ [0, 2, 4, 6]) : rspCop2Move w = .error .vectorUnitUnlisted := by
  unfold rspCop2Move
  split
  case h_5 => rfl
  all_goals next hf => exact absurd (hf ▸ by decide) h

theorem decodeRsp_unlisted (h : 16 < (fOp w).toNat)
    (h' : (fOp w).toNat ∉ [18, 32, 33, 35, 36, 37, 39, 40, 41, 43, 50, 58]) :
    decodeRsp w = .error .vectorUnitUnlisted := by
  unfold decodeRsp
  split
  case h_30 => rfl
  all_goals next hf => exact absurd (And.intro h h') (by rw [hf]; decide)

theorem rspLwc2_reserved (h : 12 ≤ (fRd w).toNat) : rspLwc2 w = .error .vectorTransferReserved := by
  unfold rspLwc2
  split
  case h_13 => rfl
  all_goals next hf => exact absurd h (by rw [hf]; decide)

theorem rspSwc2_reserved (h : 12 ≤ (fRd w).toNat) : rspSwc2 w = .error .vectorTransferReserved := by
  unfold rspSwc2
  split
  case h_13 => rfl
  all_goals next hf => exact absurd h (by rw [hf]; decide)

theorem rspVector_reserved (h : (fFunct w).toNat = 0x12 ∨ (0x16 ≤ (fFunct w).toNat ∧ (fFunct w).toNat ≤ 0x1C) ∨
    (fFunct w).toNat = 0x1E ∨ (fFunct w).toNat = 0x1F ∨ (fFunct w).toNat = 0x2E ∨ (fFunct w).toNat = 0x2F ∨
    0x38 ≤ (fFunct w).toNat) : rspVector w = .error .vectorOpReserved := by
  unfold rspVector
  split
  case h_45 => rfl
  all_goals next hf => exact absurd h (by rw [hf]; decide)

end VectorUnitTables

section VectorUnitStep

variable {s : State} {p : Phase}

/-- The word at an aligned rsp_pc. -/
theorem vuStep_of_ok {w : Word} {i : Instr} (hw : vuFetch s = w) (h : decodeRsp w = .ok i) :
    vuStep (setPhase p s) = vuEnd (exec i (setPhase p s)) := by
  have hfetch : vuFetch (setPhase p s) = w := hw
  rw [vuStep, vuRun, hfetch, h]

theorem vuStep_of_error {w : Word} {e : Rejected} (hw : vuFetch s = w) (h : decodeRsp w = .error e) :
    vuStep (setPhase p s) = .refused (rejection e) := by
  have hfetch : vuFetch (setPhase p s) = w := hw
  rw [vuStep, vuRun, hfetch, h]
  rfl

/-- A single command whose top byte is not assigned (R1005). -/
theorem decodeRdp_unknown {w : Dword} (h : (1 ≤ (commandOp w).toNat ∧ (commandOp w).toNat ≤ 7) ∨
    (0x10 ≤ (commandOp w).toNat ∧ (commandOp w).toNat ≤ 0x23) ∨ (commandOp w).toNat = 0x31 ∨
    0x40 ≤ (commandOp w).toNat) : decodeRdp [w] = .error (.commandUnknown (commandOp w)) := by
  have hlength : commandLength (commandOp w) = 1 := by
    unfold commandLength
    split
    case h_11 => rfl
    all_goals next hf => exact absurd h (by rw [hf]; decide)
  refine (if_pos hlength.symm).trans ?_
  rw [rdpTable]
  split
  case h_37 => rfl
  all_goals next hf => exact absurd h (by rw [hf]; decide)

end VectorUnitStep

/-- Settles O7. -/
theorem stepRunsDecodedVectorUnitInstructionOrCommand : Obligations.StepRunsDecodedVectorUnitInstructionOrCommand := by
  intro s hrefused
  have hrun {n : Nat} (hphase : s.clock.phase = .vu (n + 1)) (hhalt : s.sp.halt = false) :
      step s = vuStep (setPhase (.vu n) s) := (step_vu hrefused hphase).trans (if_neg (by simp [hhalt]))
  refine ⟨fun n i hphase hhalt hpc hdecode => ?_, fun n hphase hhalt hpc => ?_,
    fun ws more hphase => ⟨fun i h => ?_, fun op h => ?_⟩, fun w more hphase hop => ?_⟩
  · rw [hrun hphase hhalt, vuStep_of_ok (vuFetch_eq_read hpc) hdecode]
    change vuEnd (exec i (setPhase (.vu n) s)) = match exec i (setPhase (.vu n) s) with
      | .next t => .next (if t.sp.sstep then { t with sp.halt := true } else t)
      | .fault f => .fault f
      | .refused why => .refused why
    cases exec i (setPhase (.vu n) s) <;> rfl
  · intro w op funct transfer vector unlisted
    have herror {e : Rejected} (h : decodeRsp w = .error e) : step s = .refused (rejection e) :=
      (hrun hphase hhalt).trans (vuStep_of_error (vuFetch_eq_read hpc) h)
    refine ⟨fun h => ?_, fun h => ?_, fun h => ?_, fun e h => ⟨_, herror h⟩⟩
    · obtain ⟨hop | hop, hfield⟩ := h
      · exact herror (e := .vectorTransferReserved) (by
          have hf : fOp w = 50#6 := hop
          rw [decodeRsp, hf]
          exact rspLwc2_reserved hfield)
      · exact herror (e := .vectorTransferReserved) (by
          have hf : fOp w = 58#6 := hop
          rw [decodeRsp, hf]
          exact rspSwc2_reserved hfield)
    · obtain ⟨hop, hco, hfield⟩ := h
      exact herror (e := .vectorOpReserved) (by
        have hf : fOp w = 18#6 := hop
        rw [decodeRsp, hf]
        exact (if_pos hco).trans (rspVector_reserved hfield))
    · refine herror (e := .vectorUnitUnlisted) ?_
      rcases h with ⟨hop, h⟩ | ⟨hop, h⟩ | ⟨hop, h⟩ | ⟨hop, hco, h⟩ | ⟨hop, h⟩
      · have hf : fOp w = 0#6 := hop
        rw [decodeRsp, hf]
        exact rspSpecial_unlisted h
      · have hf : fOp w = 1#6 := hop
        rw [decodeRsp, hf]
        exact rspRegimm_unlisted h
      · have hf : fOp w = 16#6 := hop
        rw [decodeRsp, hf]
        exact rspCop0_unlisted h
      · have hf : fOp w = 18#6 := hop
        have hmove : fCo w = false := hco
        rw [decodeRsp, hf]
        exact (if_neg (by simp [hmove])).trans (rspCop2Move_unlisted h)
      · exact decodeRsp_unlisted hop h
  · rw [step_draw hrefused hphase, rdpRun, h]
    rfl
  · rw [step_draw hrefused hphase, rdpRun, h]
    rfl
  · rw [step_draw hrefused hphase, rdpRun, decodeRdp_unknown hop]
    rfl

/-! ## The tick -/

/-- A list put together from pieces of one length. -/
theorem length_flatMap_of_length {α β : Type} {f : α → List β} {c : Nat} (hf : ∀ a, (f a).length = c) (l : List α) :
    (l.flatMap f).length = l.length * c := by
  simp [List.length_flatMap, hf]

/-- Its element `j` of piece `i`. -/
theorem getElem?_flatMap_of_length {α β : Type} {f : α → List β} {c : Nat} (hf : ∀ a, (f a).length = c) {l : List α}
    {i j : Nat} {a : α} (hi : l[i]? = some a) (hj : j < c) : (l.flatMap f)[i * c + j]? = (f a)[j]? := by
  induction l generalizing i with
  | nil => cases hi
  | cons b l ih =>
    rw [List.flatMap_cons]
    cases i with
    | zero =>
      obtain rfl : b = a := by simpa using hi
      rw [List.getElem?_append_left (by rw [hf]; omega), Nat.zero_mul, Nat.zero_add]
    | succ i =>
      rw [List.getElem?_append_right (by rw [hf, Nat.succ_mul]; omega), hf,
        show (i + 1) * c + j - c = i * c + j by rw [Nat.succ_mul]; omega]
      exact ih (by simpa using hi)

theorem length_packRow (s : State) (y : Nat) :
    ((List.range s.rdp.fbWidth).flatMap fun x => pixelBytes (pixel s x y)).length = s.rdp.fbWidth * 4 := by
  rw [length_flatMap_of_length (c := 4) (fun _ => rfl), List.length_range]

theorem length_packFrame (s : State) : (packFrame s).length = s.rdp.fbWidth * s.rdp.fbHeight * 4 := by
  rw [packFrame, length_flatMap_of_length (length_packRow s), List.length_range]
  ring

/-- Row by row, pixel by pixel: the four bytes of pixel (x, y) stand at 4 (y w + x) (R852). -/
theorem getElem?_packFrame {s : State} {x y k : Nat} (hx : x < s.rdp.fbWidth) (hy : y < s.rdp.fbHeight) (hk : k < 4) :
    (packFrame s)[(y * s.rdp.fbWidth + x) * 4 + k]? = some ((pixel s x y).extractLsb' (24 - 8 * k) 8) := by
  rw [packFrame, show (y * s.rdp.fbWidth + x) * 4 + k = y * (s.rdp.fbWidth * 4) + (x * 4 + k) by ring,
    getElem?_flatMap_of_length (length_packRow s) (List.getElem?_range hy) (by omega),
    getElem?_flatMap_of_length (c := 4) (fun _ => rfl) (List.getElem?_range hx) hk]
  obtain rfl | rfl | rfl | rfl : k = 0 ∨ k = 1 ∨ k = 2 ∨ k = 3 := by omega
  all_goals rfl

/-- Settles O9. -/
theorem tickOrder : Obligations.TickOrder := by
  intro s
  refine ⟨fun why h => step_of_refused h, fun hr => ⟨fun h hc => ?_, fun h hc => ?_, step_cpu_zero hr, fun h hq => ?_,
    step_vu_zero hr, fun n h hhalt => (step_vu hr h).trans (if_pos hhalt), step_draw_nil hr, fun h hframe => ?_,
    fun h hframe => ?_⟩, fun t h => ?_, fun why hr h => ?_, fun hr => ?_⟩
  · rw [step_boundary hr h, tickBegin, if_pos hc]
  · rw [step_boundary hr h, tickBegin, if_neg hc]
    rfl
  · have hnone : s.dma.find? (dmaDue s) = none := List.find?_eq_none.mpr fun q hmem => by
      simpa [dmaDue] using hq q hmem
    rw [step_dma hr h, dmaStep, hnone]
    rfl
  · rw [step_frame hr h, endTick, frameAdvance, if_neg hframe]
    rfl
  · refine ⟨packFrame s, length_packFrame s, fun x y k => getElem?_packFrame, ?_⟩
    rw [step_frame hr h, endTick, frameAdvance, if_pos hframe]
    rfl
  · rw [State.advance, h]
    rfl
  · rw [State.advance, h, mark, if_neg (by simp [hr])]
    rfl
  · obtain ⟨why, hwhy⟩ := Option.ne_none_iff_exists'.mp hr
    rw [State.advance, step_of_refused hwhy, mark, if_pos (by simp [hwhy])]

/-! ## Refused by name, and words of every decode space -/

/-- Settles O46. -/
theorem refusedByName : Obligations.RefusedByName := by
  intro vd vs vt base e offset payload rest s
  repeat' apply And.intro
  all_goals rfl

/-- Settles O1. -/
theorem wordsDecodeAsTheFormatsSay : Obligations.WordsDecodeAsTheFormatsSay := by
  repeat' apply And.intro
  all_goals rfl

end Sys2Proof.Machine
end

section
/-! PROOFS. Translation and the bus (spec/20_memory.md). -/

namespace Sys2Proof.Machine

/-! ## Translation -/

/-- kseg0 and kseg1 lie over the low 512 MiB (R141). -/
theorem sub_segment_eq {a b : Word} (hb : b.toNat % 2 ^ 29 = 0) (hle : b.toNat ≤ a.toNat) (hlt : a.toNat < b.toNat + 2 ^ 29) :
    a - b = a &&& 0x1FFFFFFF := by
  apply BitVec.eq_of_toNat_eq
  have hmask : (0x1FFFFFFF : Word).toNat = 2 ^ 29 - 1 := rfl
  rw [BitVec.toNat_sub_of_le (BitVec.le_def.mpr hle), BitVec.toNat_and, hmask, Nat.and_two_pow_sub_one_eq_mod]
  omega

@[simp] theorem lo32_sext32 (w : Word) : lo32 (sext32 w) = w := by
  apply BitVec.eq_of_getLsbD_eq
  intro k hk
  rw [lo32, sext32, BitVec.getLsbD_setWidth, BitVec.getLsbD_signExtend]
  simp [hk, show k < 64 by omega]

/-- Settles O22. -/
theorem translationOfSegments : Obligations.TranslationOfSegments := by
  intro s k va
  refine ⟨fun hkx => if_pos hkx, fun hkx => ⟨fun h => ?_, fun a ha => ?_⟩⟩
  · rw [translateVa, if_neg (by simp [hkx]), if_pos (h _)]
    cases k <;> rfl
  · have hlow : lo32 va = a := ha ▸ lo32_sext32 a
    have h : translateVa s k va =
        if a < 0x80000000 then (if statusErl s then .physical a else .refusal (.tlbMappedSegment .kuseg))
        else if a < 0xA0000000 then .physical (a - 0x80000000)
        else if a < 0xC0000000 then .physical (a - 0xA0000000)
        else if a < 0xE0000000 then .refusal (.tlbMappedSegment .ksseg)
        else .refusal (.tlbMappedSegment .kseg3) := by
      rw [translateVa, if_neg (by simp [hkx]), hlow, if_neg (not_not.mpr ha)]
    have hlt (b : Word) : a < b ↔ a.toNat < b.toNat := BitVec.lt_def
    have h8 : (0x80000000 : Word).toNat = 0x80000000 := rfl
    have hA : (0xA0000000 : Word).toNat = 0xA0000000 := rfl
    have hC : (0xC0000000 : Word).toNat = 0xC0000000 := rfl
    have hE : (0xE0000000 : Word).toNat = 0xE0000000 := rfl
    simp only [hlt, h8, hA, hC, hE] at h
    refine ⟨fun ha => ?_, fun hge hle => ?_, fun hge hle => ?_, fun hge => ?_⟩
    · rw [h, if_pos ha]
    · rw [h, if_neg (by omega)]
      by_cases hA' : a.toNat < 0xA0000000
      · rw [if_pos hA', sub_segment_eq rfl (by rw [h8]; omega) (by rw [h8]; omega)]
      · rw [if_neg hA', if_pos hle, sub_segment_eq rfl (by rw [hA]; omega) (by rw [hA]; omega)]
    · rw [h, if_neg (by omega), if_neg (by omega), if_neg (by omega), if_pos hle]
    · rw [h, if_neg (by omega), if_neg (by omega), if_neg (by omega), if_neg (by omega)]

/-! ## The bytes of an access -/

theorem getLsbD_byteAt {n j k : Nat} (v : Dword) (hk : k < 8) :
    (byteAt n v j).getLsbD k = v.getLsbD (8 * (n - 1 - j) + k) := by
  rw [byteAt, BitVec.getLsbD_setWidth, BitVec.getLsbD_ushiftRight]
  simp [hk]

/-- The bytes of a big-endian value are the bytes it is made of. -/
theorem byteAt_bigEndian (f : Nat → Byte) {n j : Nat} (hn : n ≤ 8) (hj : j < n) : byteAt n (bigEndian f n) j = f j := by
  apply BitVec.eq_of_getLsbD_eq
  intro k hk
  rw [getLsbD_byteAt _ hk, getLsbD_bigEndian _ hn (by omega), show n - 1 - (8 * (n - 1 - j) + k) / 8 = j by omega,
    show (8 * (n - 1 - j) + k) % 8 = k by omega]

/-- A value is, its upper bits dropped, made of its bytes. -/
theorem bigEndian_byteAt (v : Dword) {n : Nat} (hn : n ≤ 8) :
    bigEndian (byteAt n v) n = v &&& BitVec.ofNat 64 (2 ^ (8 * n) - 1) := by
  apply BitVec.eq_of_getLsbD_eq
  intro k hk
  rw [BitVec.getLsbD_and, BitVec.getLsbD_ofNat, Nat.testBit_two_pow_sub_one]
  by_cases h : k < 8 * n
  · rw [getLsbD_bigEndian _ hn h, getLsbD_byteAt _ (by omega), show 8 * (n - 1 - (n - 1 - k / 8)) + k % 8 = k by omega]
    simp [h, hk]
  · rw [getLsbD_bigEndian_of_ge _ (by omega)]
    simp [h]

theorem bigEndian_congr {f g : Nat → Byte} {n : Nat} (h : ∀ j < n, f j = g j) : bigEndian f n = bigEndian g n := by
  induction n with
  | zero => rfl
  | succ n ih => rw [bigEndian, bigEndian, ih fun j hj => h j (by omega), h n (by omega)]

theorem romRead_eq_bigEndian (c : Config) (o n : Nat) : romRead c o n = bigEndian (fun j => romByte c (o + j)) n := by
  induction n with
  | zero => rfl
  | succ n ih => rw [romRead, ih]; rfl

/-- A store of a memory writes the bytes of its value, and reads back. -/
theorem Memory.byteAt_of_write (m : List Host.Cell) (a : Nat) (v : Dword) {n j : Nat} (hj : j < n) :
    Memory.byte (Memory.write m a v n) (a + j) = byteAt n v j := Memory.byte_write_inside m a v n j hj

theorem Memory.read_write (m : List Host.Cell) (a : Nat) (v : Dword) {n : Nat} (hn : n ≤ 8) :
    Memory.read (Memory.write m a v n) a n = v &&& BitVec.ofNat 64 (2 ^ (8 * n) - 1) := by
  rw [Memory.read_eq_bigEndian, ← bigEndian_byteAt v hn]
  exact bigEndian_congr fun j hj => Memory.byteAt_of_write m a v hj

/-- A store looks at no bit above its bytes. -/
theorem Memory.write_congr (m : List Host.Cell) (a : Nat) {v w : Dword} {n : Nat}
    (h : ∀ k < 8 * n, v.getLsbD k = w.getLsbD k) : Memory.write m a v n = Memory.write m a w n := by
  induction n generalizing m v w with
  | zero => rfl
  | succ n ih =>
    have hlow : v.setWidth 8 = w.setWidth 8 := by
      apply BitVec.eq_of_getLsbD_eq
      intro k hk
      rw [BitVec.getLsbD_setWidth, BitVec.getLsbD_setWidth, h k (by omega)]
    rw [Memory.write, Memory.write, hlow]
    refine ih _ fun k hk => ?_
    rw [BitVec.getLsbD_ushiftRight, BitVec.getLsbD_ushiftRight, h _ (by omega)]

theorem getLsbD_zext32_lo32 (v : Dword) {k : Nat} (hk : k < 32) : (zext32 (lo32 v)).getLsbD k = v.getLsbD k := by
  rw [zext32, lo32, BitVec.getLsbD_setWidth, BitVec.getLsbD_setWidth]
  simp [hk, show k < 64 by omega]

@[simp] theorem lo32_zext32 (w : Word) : lo32 (zext32 w) = w :=
  (BitVec.setWidth_setWidth_of_le w (by decide)).trans (BitVec.setWidth_eq w)

/-! ## Words and registers on the bus -/

theorem memWriteWord_zext32 (s : State) (pa : Word) (v : Dword) :
    memWriteWord s pa (zext32 (lo32 v)) = memWriteWord s pa v := by
  have hwrite : Memory.write s.mem pa.toNat (zext32 (lo32 v)) 4 = Memory.write s.mem pa.toNat v 4 :=
    Memory.write_congr _ _ fun k hk => getLsbD_zext32_lo32 v (by omega)
  rw [memWriteWord, memWriteWord, hwrite, lo32_zext32]

theorem memWrite_word (s : State) (pa : Word) (v : Dword) : memWrite s pa 4 v = .ok (memWriteWord s pa v) := by
  unfold memWrite memWriteWord
  split <;> rfl

theorem memRead_eq_memReadSmall (s : State) (pa : Word) {n : Nat} (hn : n ≠ 8) : memRead s pa n = memReadSmall s pa n := by
  unfold memRead
  split
  case h_4 => exact if_neg hn
  all_goals next h => rw [memReadSmall, h]

/-- A word read has no bit above 31. -/
theorem memRead_word_lt (s : State) (pa : Word) {k : Nat} (hk : 32 ≤ k) : (memRead s pa 4).1.getLsbD k = false := by
  rw [memRead_eq_memReadSmall _ _ (by decide), memReadSmall]
  split
  · rw [Memory.read_eq_bigEndian]
    exact getLsbD_bigEndian_of_ge _ (by omega)
  · rw [romRead_eq_bigEndian]
    exact getLsbD_bigEndian_of_ge _ (by omega)
  · exact BitVec.getLsbD_zero
  · have h : zext32 = fun w : Word => w.setWidth 64 := rfl
    rw [subWord, if_pos rfl, h, BitVec.getLsbD_setWidth, BitVec.getLsbD_of_ge _ k hk, Bool.and_false]
  · exact BitVec.getLsbD_zero

/-- An access of eight bytes to a register group is two of four, the high word first (R162). -/
theorem memRead_registers_dword {s : State} {pa : Word} {g : RegGroup} {off : Nat}
    (h : region s.cfg.rdramSize pa.toNat = .registers g off) :
    memRead s pa 8 = (lo32 (memRead s pa 4).1 ++ lo32 (memRead (memRead s pa 4).2 (pa + 4) 4).1,
      (memRead (memRead s pa 4).2 (pa + 4) 4).2) := by
  have happend (x y : Dword) (hy : ∀ k, 32 ≤ k → y.getLsbD k = false) : (x <<< 32) ||| y = lo32 x ++ lo32 y := by
    apply BitVec.eq_of_getLsbD_eq
    intro k hk
    rw [BitVec.getLsbD_or, BitVec.getLsbD_shiftLeft, BitVec.getLsbD_append, lo32, lo32, BitVec.getLsbD_setWidth,
      BitVec.getLsbD_setWidth]
    by_cases h : k < 32
    · simp [h]
    · rw [hy k (by omega)]
      simp [h, hk, show k - 32 < 32 by omega]
  have hdef : memRead s pa 8 = (((memRead s pa 4).1 <<< 32) ||| (memRead (memRead s pa 4).2 (pa + 4) 4).1,
      (memRead (memRead s pa 4).2 (pa + 4) 4).2) := by
    rw [memRead_eq_memReadSmall s pa (n := 4) (by decide), memRead_eq_memReadSmall _ (pa + 4) (n := 4) (by decide),
      memRead, h]
    rfl
  rw [hdef, happend _ _ fun k => memRead_word_lt _ _]

/-- The physical address of a register group's first word (R170). -/
def RegGroup.base : RegGroup → Nat
  | .sp => 0x04040000
  | .spPc => 0x04080000
  | .dp => 0x04100000
  | .mi => 0x04300000
  | .vi => 0x04400000
  | .ai => 0x04500000
  | .pi => 0x04600000
  | .ri => 0x04700000
  | .si => 0x04800000

theorem eq_base_of_region {size : RdramSize} {a off : Nat} {g : RegGroup} (h : region size a = .registers g off) :
    a = g.base + off := by
  unfold region at h
  iterate 2
    rcases ite_eq_iff.mp h with ⟨-, h⟩ | ⟨-, h⟩
    · cases h
  iterate 9
    rcases ite_eq_iff.mp h with ⟨⟨hle, -⟩, h⟩ | ⟨-, h⟩
    · cases h
      exact (Nat.add_sub_cancel' hle).symm
  iterate 3
    rcases ite_eq_iff.mp h with ⟨-, h⟩ | ⟨-, h⟩
    · cases h
  cases h

/-- Every register group begins at a multiple of four. -/
theorem region_registers_mod {size : RdramSize} {a off : Nat} {g : RegGroup} (h : region size a = .registers g off) :
    off % 4 = a % 4 := by
  have ha := eq_base_of_region h
  have hbase : g.base % 4 = 0 := by cases g <;> rfl
  omega

theorem regWrite_vu {g : RegGroup} (h : g ≠ .spPc) (s : State) (off : Nat) (v : Word) :
    (regWrite s g off v).vu = s.vu := by
  cases g with
  | spPc => exact absurd rfl h
  | _ =>
    simp only [regWrite, spWrite, dpWrite, miWrite, viWrite, aiWrite, piWrite, riWrite, siWrite]
    repeat (first | rfl | exact startDma_vu .. | split)

theorem frameDevice_memRead (s : State) (pa : Word) (n : Nat) : frameDevice s (memRead s pa n).2 :=
  ⟨memRead_cpu .., memRead_cp0 .., memRead_fpu .., memRead_cfg .., memRead_mem ..⟩

theorem frameDevice_regWrite (s : State) (g : RegGroup) (off : Nat) (v : Word) : frameDevice s (regWrite s g off v) :=
  ⟨regWrite_cpu .., regWrite_cp0 .., regWrite_fpu .., regWrite_cfg .., regWrite_mem ..⟩

/-! ## Reads of the regions -/

section Regions

variable {s : State} {pa : Word}

theorem memRead_of_memory (h : region s.cfg.rdramSize pa.toNat = .memory) (n : Nat) :
    memRead s pa n = (Memory.read s.mem pa.toNat n, s) := by
  rw [memRead, h]

theorem memWrite_of_memory (h : region s.cfg.rdramSize pa.toNat = .memory) (n : Nat) (v : Dword) :
    memWrite s pa n v = .ok { s with mem := Memory.write s.mem pa.toNat v n } := by
  rw [memWrite, h]

theorem memRead_of_rom (h : region s.cfg.rdramSize pa.toNat = .rom) (n : Nat) :
    memRead s pa n = (romRead s.cfg (pa.toNat - romBase) n, s) := by
  rw [memRead, h]

theorem memRead_of_hole (h : region s.cfg.rdramSize pa.toNat = .zeroRom ∨ region s.cfg.rdramSize pa.toNat = .unmapped)
    (n : Nat) : memRead s pa n = (0, s) := by
  rcases h with h | h <;> rw [memRead, h]

theorem memWrite_of_ignored (h : region s.cfg.rdramSize pa.toNat = .rom ∨ region s.cfg.rdramSize pa.toNat = .zeroRom ∨
    region s.cfg.rdramSize pa.toNat = .unmapped) (n : Nat) (v : Dword) : memWrite s pa n v = .ok s := by
  rcases h with h | h | h <;> rw [memWrite, h]

section Registers

variable {g : RegGroup} {off : Nat} (h : region s.cfg.rdramSize pa.toNat = .registers g off)
include h

theorem memRead_of_registers {n : Nat} (hn : n ≠ 8) :
    memRead s pa n = (subWord (regValue s g (off / 4 * 4)) off n, regReadEffect s g (off / 4 * 4)) := by
  rw [memRead_eq_memReadSmall _ _ hn, memReadSmall, h]

theorem memWrite_word_of_registers (v : Dword) : memWrite s pa 4 v = .ok (regWrite s g off (lo32 v)) := by
  rw [memWrite, h]
  rfl

theorem memWrite_dword_of_registers (v : Dword) :
    memWrite s pa 8 v = .ok (memWriteWord (memWriteWord s pa (v >>> 32)) (pa + 4) v) := by
  rw [memWrite, h]
  rfl

theorem memWrite_part_of_registers {n : Nat} (h4 : n ≠ 4) (h8 : n ≠ 8) (v : Dword) :
    memWrite s pa n v = .error .subWordRegisterWrite := by
  rw [memWrite, h]
  exact (if_neg h8).trans (if_neg h4)

/-- A halfword of a register (R162). -/
theorem subWord_half (w : Word) (hpa : pa.toNat % 2 = 0) :
    subWord w off 2 = if pa.toNat % 4 = 0 then zext32 (w >>> 16) else zext32 (w &&& 0xFFFF) := by
  have hoff := region_registers_mod h
  have hmask : (0xFFFF : Word) = BitVec.ofNat 32 (2 ^ 16 - 1) := rfl
  rw [subWord, if_neg (by decide), if_pos rfl]
  apply BitVec.eq_of_getLsbD_eq
  intro k hk
  split
  · rw [show 16 - 16 * (off / 2 % 2) = 16 by omega]
    simp only [zext32, BitVec.getLsbD_setWidth, BitVec.getLsbD_extractLsb', BitVec.getLsbD_ushiftRight, hk]
    by_cases h16 : k < 16
    · simp [h16]
    · simp [h16, BitVec.getLsbD_of_ge w (16 + k) (by omega)]
  · rw [show 16 - 16 * (off / 2 % 2) = 0 by omega]
    simp only [zext32, hmask, BitVec.getLsbD_setWidth, BitVec.getLsbD_extractLsb', BitVec.getLsbD_and,
      BitVec.getLsbD_ofNat, Nat.testBit_two_pow_sub_one, hk]
    by_cases h16 : k < 16
    · simp [h16, show k < 32 by omega]
    · simp [h16]

/-- A byte of a register (R162). -/
theorem subWord_byte (w : Word) : subWord w off 1 = (byteAt 4 (zext32 w) (pa.toNat % 4)).setWidth 64 := by
  have hoff := region_registers_mod h
  have hbyte : w.extractLsb' (24 - 8 * (off % 4)) 8 = byteAt 4 (zext32 w) (pa.toNat % 4) := by
    apply BitVec.eq_of_getLsbD_eq
    intro k hk
    rw [getLsbD_byteAt _ hk, BitVec.getLsbD_extractLsb', zext32, BitVec.getLsbD_setWidth,
      show 24 - 8 * (off % 4) + k = 8 * (4 - 1 - pa.toNat % 4) + k by omega]
    simp [hk, show 8 * (4 - 1 - pa.toNat % 4) + k < 64 by omega]
  rw [subWord, if_neg (by decide), if_neg (by decide), hbyte]

end Registers

end Regions

/-- Settles O23. -/
theorem busReadsAndWrites : Obligations.BusReadsAndWrites := by
  intro s pa n v hn
  refine ⟨fun h => ?_, fun h => ⟨memWrite_of_ignored h n v, ?_⟩, fun h j hj => ?_, fun h => ?_, fun g off h => ?_⟩
  · have hread := memRead_of_memory h n
    refine ⟨by rw [hread], fun j hj => ?_, _, memWrite_of_memory h n v, rfl, ?_, fun a ha => ?_⟩
    · rw [hread, Memory.read_eq_bigEndian, byteAt_bigEndian _ hn hj]
    · rw [memRead_of_memory (by exact h) n]
      exact Memory.read_write s.mem pa.toNat v hn
    · refine Memory.byte_write_outside _ _ _ _ _ ?_
      simp only [within, not_and_or] at ha
      omega
  · rcases h with h | h
    · rw [memRead_of_rom h]
    · rw [memRead_of_hole h]
  · rw [memRead_of_rom h, romRead_eq_bigEndian, byteAt_bigEndian _ hn hj]
    rfl
  · rw [memRead_of_hole h]
  · have hoff := region_registers_mod h
    refine ⟨fun h4 => ?_, fun h2 => memWrite_part_of_registers h (by omega) (by omega) v, fun h8 => ?_, fun h4 hpa => ?_,
      fun h2 hpa => ?_, fun h1 => ?_, fun h8 => ?_, frameDevice_memRead .., memRead_vu ..,
      frameDevice_regWrite .., fun hg => regWrite_vu hg ..⟩
    · subst h4
      exact memWrite_word_of_registers h v
    · subst h8
      refine ⟨_, _, memWrite_word .., memWrite_word .., ?_⟩
      rw [memWriteWord_zext32]
      exact memWrite_dword_of_registers h v
    · subst h4
      rw [memRead_of_registers h (by decide)]
      rfl
    · subst h2
      rw [memRead_of_registers h (by decide)]
      exact subWord_half h _ hpa
    · subst h1
      rw [memRead_of_registers h (by decide)]
      exact subWord_byte h _
    · subst h8
      exact memRead_registers_dword h

end Sys2Proof.Machine
end

section
/-! PROOFS. The CPU's loads and stores (spec/43_load_store.md). -/

namespace Sys2Proof.Machine

section Accesses

variable {i : Instr} {s : State} {pa : Word} {va : Dword} {n : Nat}

theorem translated_of_physical {k : Access} (h : translateVa s k va = .physical pa) (f : Word → Result) :
    translated s k va f = f pa := by
  rw [translated, h]

/-- An aligned load at an address that translates. -/
theorem loadAt_of_physical (hva : va.toNat % n = 0) (h : translateVa s .load va = .physical pa)
    (f : Word → Dword → State → Result) : loadAt n va s f = f pa (memRead s pa n).1 (memRead s pa n).2 :=
  (if_neg (not_not.mpr hva)).trans (translated_of_physical h _)

/-- An aligned store at an address that translates. -/
theorem storeAt_of_physical (hva : va.toNat % n = 0) (h : translateVa s .store va = .physical pa) (f : Word → Result) :
    storeAt n va s f = f pa :=
  (if_neg (not_not.mpr hva)).trans (translated_of_physical h _)

/-- A load of a general register at an aligned address that translates. -/
theorem writesGprFrom_of_load {rt : Reg} {f : Dword → Dword} (hva : va.toNat % n = 0)
    (h : translateVa s .load va = .physical pa)
    (hexec : exec i s = loadFrom n va s fun v s' => loadGpr rt (f v) s') :
    writesGprFrom (memRead s pa n).2 i rt (f (memRead s pa n).1) s :=
  writesGprFrom_of_exec (hexec.trans (loadAt_of_physical hva h _)) rfl (memRead_cpu s pa n)

/-- What a store on the bus comes to (R163). -/
theorem storesTo_of_exec {v : Dword} (hexec : exec i s = stored (memWrite s pa n v) seq) : storesTo i n pa v s := by
  unfold storesTo
  split
  case h_1 h =>
    rw [memWrite_of_memory h] at hexec
    refine ⟨_, hexec, fun k hk => Memory.byteAt_of_write s.mem pa.toNat v hk, ⟨fun a ha => ?_, rfl⟩, rfl, rfl, rfl⟩
    refine Memory.byte_write_outside _ _ _ _ _ ?_
    simp only [within, not_and_or] at ha
    omega
  case h_2 h =>
    rw [memWrite_of_ignored (.inl h)] at hexec
    exact hasNoEffect_of_exec_eq_seq hexec
  case h_3 h =>
    rw [memWrite_of_ignored (.inr (.inl h))] at hexec
    exact hasNoEffect_of_exec_eq_seq hexec
  case h_4 h =>
    rw [memWrite_of_ignored (.inr (.inr h))] at hexec
    exact hasNoEffect_of_exec_eq_seq hexec
  case h_5 h =>
    split
    · next h4 =>
      subst h4
      rw [memWrite_word_of_registers h] at hexec
      exact hexec
    · split
      · next h8 =>
        subst h8
        rw [memWrite_dword_of_registers h] at hexec
        exact hexec
      · next h4 h8 =>
        rw [memWrite_part_of_registers h h4 h8] at hexec
        exact hexec

theorem storesTo_of_storeTo {v : Dword} (hva : va.toNat % n = 0) (h : translateVa s .store va = .physical pa)
    (hexec : exec i s = storeTo n va v s seq) : storesTo i n pa v s :=
  storesTo_of_exec (hexec.trans (storeAt_of_physical hva h _))

end Accesses

/-- Settles O24. -/
theorem alignedLoads : Obligations.AlignedLoads := by
  intro rt base offset pa s va h
  have h1 : va.toNat % 1 = 0 := Nat.mod_one _
  exact ⟨writesGprFrom_of_load (f := fun v => (v.setWidth 8).signExtend 64) h1 h rfl,
    writesGprFrom_of_load (f := fun v => (v.setWidth 8).setWidth 64) h1 h rfl,
    fun h2 => ⟨writesGprFrom_of_load (f := fun v => sext16 (v.setWidth 16)) h2 h rfl,
      writesGprFrom_of_load (f := fun v => zext16 (v.setWidth 16)) h2 h rfl⟩,
    fun h4 => ⟨writesGprFrom_of_load (f := fun v => sext32 (lo32 v)) h4 h rfl,
      writesGprFrom_of_load (f := fun v => zext32 (lo32 v)) h4 h rfl⟩,
    fun h8 => writesGprFrom_of_load (f := id) h8 h rfl⟩

/-- Settles O25. -/
theorem alignedStores : Obligations.AlignedStores := by
  intro rt base offset pa s va h
  have h1 : va.toNat % 1 = 0 := Nat.mod_one _
  exact ⟨storesTo_of_storeTo h1 h rfl, fun h2 => storesTo_of_storeTo h2 h rfl, fun h4 => storesTo_of_storeTo h4 h rfl,
    fun h8 => storesTo_of_storeTo h8 h rfl⟩

/-! ## The checks of a load or store -/

theorem fprUsable_iff {s : State} {f : Fmt} {i : Reg} : fprUsable s f i ↔ fprOk f s i = true := by
  unfold fprUsable fprOk fprDwordOk
  cases f <;> cases i.getLsbD 0 <;> simp

theorem onFprs_of_usable {s : State} {l : List (Fmt × Reg)} (hcp1 : statusCu1 s = true)
    (h : ∀ p ∈ l, fprUsable s p.1 p.2) (r : Result) : onFprs s l r = r :=
  (withCp1_of_usable hcp1 _).trans (if_pos (List.all_eq_true.mpr fun p hp => fprUsable_iff.mp (h p hp)))

theorem onFprs_of_not_usable {s : State} {l : List (Fmt × Reg)} (hcp1 : statusCu1 s = true) {p : Fmt × Reg} (hp : p ∈ l)
    (h : ¬fprUsable s p.1 p.2) (r : Result) : onFprs s l r = .refused .oddFprAsDword :=
  (withCp1_of_usable hcp1 _).trans (if_neg fun hall => h (fprUsable_iff.mpr (List.all_eq_true.mp hall p hp)))

/-- Every load and store checks its alignment and its address, before anything else (R460 to R462, R479). -/
theorem exec_of_dataAccess {i : Instr} {n : Nat} {k : Access} {base : Reg} {offset : BitVec 16} {s : State}
    (h : dataAccess i = some (n, k, base, offset)) (hcp1 : isCp1 i = true → statusCu1 s = true)
    (hfpr : ∀ ft, i = .ldc1 ft offset base ∨ i = .sdc1 ft offset base → fprUsable s .d ft) :
    ∃ f, exec i s = if (effective s base offset).toNat % n ≠ 0 then raise (addressError k (effective s base offset)) s
      else translated s k (effective s base offset) f := by
  cases i with
  | lb | lbu | lh | lhu | lw | lwu | ld | ll | lld | sb | sh | sw | sd | sc | scd =>
    cases h
    exact ⟨_, rfl⟩
  | lwl | lwr | ldl | ldr | swl | swr | sdl | sdr =>
    cases h
    exact ⟨_, (if_neg (not_not.mpr (Nat.mod_one _))).symm⟩
  | lwc1 | swc1 =>
    cases h
    exact ⟨_, withCp1_of_usable (hcp1 ((isCp1_of_encode rfl).trans (by simp))) _⟩
  | ldc1 ft | sdc1 ft =>
    cases h
    exact ⟨_, onFprs_of_usable (hcp1 ((isCp1_of_encode rfl).trans (by simp))) (by simpa using hfpr ft) _⟩
  | _ => cases h

/-- Settles O26. -/
theorem addressErrors : Obligations.AddressErrors := by
  intro i n k base offset s h hcp1 hfpr va e
  obtain ⟨f, hexec⟩ := exec_of_dataAccess h hcp1 hfpr
  have he : addressError k va = e := by cases k <;> rfl
  refine ⟨fun hva => ?_, fun hva hkx hlow => ?_, fun hva why hwhy => ?_⟩
  · exact hexec.trans ((if_pos hva).trans (he ▸ rfl))
  · have htranslate : translateVa s k va = .exception e := by
      rw [translateVa, if_neg (by simp [hkx]), if_pos hlow, he]
    refine hexec.trans ((if_neg (not_not.mpr hva)).trans ?_)
    change translated s k va f = _
    rw [translated, htranslate]
    rfl
  · refine hexec.trans ((if_neg (not_not.mpr hva)).trans ?_)
    change translated s k va f = _
    rw [translated, hwhy]

/-! ## Unaligned loads -/

/-- A merge from the left: the upper bits from `m`, the lower from the old value. -/
theorem getLsbD_mergeLeft {w : Nat} (m old : BitVec w) (n : Nat) {k : Nat} (hk : k < w) :
    ((m <<< n) ||| (old &&& ~~~(BitVec.allOnes w <<< n))).getLsbD k =
      if k < n then old.getLsbD k else m.getLsbD (k - n) := by
  simp only [BitVec.getLsbD_or, BitVec.getLsbD_and, BitVec.getLsbD_not, BitVec.getLsbD_shiftLeft, BitVec.getLsbD_allOnes]
  by_cases h : k < n
  · simp [h, hk]
  · simp [h, hk, show k - n < w by omega]

/-- A merge from the right: the lower bits from `m`, the upper from the old value. -/
theorem getLsbD_mergeRight {w : Nat} (m old : BitVec w) (n : Nat) {k : Nat} (hk : k < w) :
    ((old &&& ~~~(BitVec.allOnes w >>> n)) ||| (m >>> n)).getLsbD k =
      if k + n < w then m.getLsbD (k + n) else old.getLsbD k := by
  simp only [BitVec.getLsbD_or, BitVec.getLsbD_and, BitVec.getLsbD_not, BitVec.getLsbD_ushiftRight, BitVec.getLsbD_allOnes,
    Nat.add_comm n k]
  by_cases h : k + n < w
  · simp [h, hk]
  · simp [h, hk, BitVec.getLsbD_of_ge m (k + n) (by omega)]

theorem getLsbD_zext32 (w : Word) {k : Nat} (hk : k < 64) : (zext32 w).getLsbD k = w.getLsbD k := by
  rw [zext32, BitVec.getLsbD_setWidth]
  simp [hk]

theorem getLsbD_lo32 (v : Dword) {k : Nat} (hk : k < 32) : (lo32 v).getLsbD k = v.getLsbD k := by
  rw [lo32, BitVec.getLsbD_setWidth]
  simp [hk]

section Merges

variable {j k : Nat}

theorem byteAt_mergeLwl (m old : Dword) (hj : j < 4) :
    byteAt 4 (zext32 (mergeLwl (lo32 m) k (lo32 old))) j = if j + k < 4 then byteAt 4 m (j + k) else byteAt 4 old j := by
  apply BitVec.eq_of_getLsbD_eq
  intro b hb
  rw [apply_ite (fun v : Byte => v.getLsbD b), getLsbD_byteAt _ hb, getLsbD_byteAt _ hb, getLsbD_byteAt _ hb,
    getLsbD_zext32 _ (by omega)]
  refine (getLsbD_mergeLeft (lo32 m) (lo32 old) (8 * k) (by omega)).trans ?_
  by_cases h : j + k < 4
  · rw [if_neg (by omega), if_pos h, getLsbD_lo32 _ (by omega),
      show 8 * (4 - 1 - j) + b - 8 * k = 8 * (4 - 1 - (j + k)) + b by omega]
  · rw [if_pos (by omega), if_neg h, getLsbD_lo32 _ (by omega)]

theorem byteAt_mergeLwr (m old : Dword) (hj : j < 4) :
    byteAt 4 (zext32 (mergeLwr (lo32 m) k (lo32 old))) j =
      if 3 - k ≤ j then byteAt 4 m (j - (3 - k)) else byteAt 4 old j := by
  apply BitVec.eq_of_getLsbD_eq
  intro b hb
  rw [apply_ite (fun v : Byte => v.getLsbD b), getLsbD_byteAt _ hb, getLsbD_byteAt _ hb, getLsbD_byteAt _ hb,
    getLsbD_zext32 _ (by omega)]
  refine (getLsbD_mergeRight (lo32 m) (lo32 old) (8 * (3 - k)) (by omega)).trans ?_
  by_cases h : 3 - k ≤ j
  · rw [if_pos (by omega), if_pos h, getLsbD_lo32 _ (by omega),
      show 8 * (4 - 1 - j) + b + 8 * (3 - k) = 8 * (4 - 1 - (j - (3 - k))) + b by omega]
  · rw [if_neg (by omega), if_neg h, getLsbD_lo32 _ (by omega)]

theorem byteAt_mergeLdl (m old : Dword) (hj : j < 8) :
    byteAt 8 (mergeLdl m k old) j = if j + k < 8 then byteAt 8 m (j + k) else byteAt 8 old j := by
  apply BitVec.eq_of_getLsbD_eq
  intro b hb
  rw [apply_ite (fun v : Byte => v.getLsbD b), getLsbD_byteAt _ hb, getLsbD_byteAt _ hb, getLsbD_byteAt _ hb]
  refine (getLsbD_mergeLeft m old (8 * k) (by omega)).trans ?_
  by_cases h : j + k < 8
  · rw [if_neg (by omega), if_pos h, show 8 * (8 - 1 - j) + b - 8 * k = 8 * (8 - 1 - (j + k)) + b by omega]
  · rw [if_pos (by omega), if_neg h]

theorem byteAt_mergeLdr (m old : Dword) (hj : j < 8) :
    byteAt 8 (mergeLdr m k old) j = if 7 - k ≤ j then byteAt 8 m (j - (7 - k)) else byteAt 8 old j := by
  apply BitVec.eq_of_getLsbD_eq
  intro b hb
  rw [apply_ite (fun v : Byte => v.getLsbD b), getLsbD_byteAt _ hb, getLsbD_byteAt _ hb, getLsbD_byteAt _ hb]
  refine (getLsbD_mergeRight m old (8 * (7 - k)) (by omega)).trans ?_
  by_cases h : 7 - k ≤ j
  · rw [if_pos (by omega), if_pos h,
      show 8 * (8 - 1 - j) + b + 8 * (7 - k) = 8 * (8 - 1 - (j - (7 - k))) + b by omega]
  · rw [if_neg (by omega), if_neg h]

end Merges

/-- An unaligned-access load of a general register at an address that translates. -/
theorem writesGprFrom_of_loadUnit {i : Instr} {s : State} {va : Dword} {pa : Word} {n : Nat} {rt : Reg}
    {f : Dword → Nat → Dword} (h : translateVa s .load va = .physical pa)
    (hexec : exec i s = loadUnit n va s fun v k s' => loadGpr rt (f v k) s') :
    writesGprFrom (memRead s (BitVec.ofNat 32 (pa.toNat / n * n)) n).2 i rt
      (f (memRead s (BitVec.ofNat 32 (pa.toNat / n * n)) n).1 (pa.toNat % n)) s :=
  writesGprFrom_of_exec (hexec.trans (translated_of_physical h _)) rfl (memRead_cpu ..)

/-- Settles O27. -/
theorem unalignedLoads : Obligations.UnalignedLoads := by
  intro rt base offset pa s h old word dword k d
  exact ⟨⟨_, fun j hj => byteAt_mergeLwl word.1 old hj,
      writesGprFrom_of_loadUnit (f := fun v k => sext32 (mergeLwl (lo32 v) k (lo32 old))) h rfl⟩,
    ⟨_, fun j hj => byteAt_mergeLwr word.1 old hj,
      writesGprFrom_of_loadUnit (f := fun v k => sext32 (mergeLwr (lo32 v) k (lo32 old))) h rfl⟩,
    ⟨_, fun j hj => byteAt_mergeLdl dword.1 old hj, writesGprFrom_of_loadUnit (f := fun v k => mergeLdl v k old) h rfl⟩,
    ⟨_, fun j hj => byteAt_mergeLdr dword.1 old hj, writesGprFrom_of_loadUnit (f := fun v k => mergeLdr v k old) h rfl⟩⟩

/-! ## Unaligned stores -/

/-- Of a masked store the bytes that the mask names are written, bit `n - 1 - j` naming byte `j` (R165). -/
theorem Memory.byte_writeMasked_inside (m : List Host.Cell) (a : Nat) (v : Dword) (mask : Byte) {n j : Nat} (hj : j < n) :
    Memory.byte (Memory.writeMasked m a v mask n) (a + j) =
      if mask.getLsbD (n - 1 - j) then byteAt n v j else Memory.byte m (a + j) := by
  induction n generalizing m v mask with
  | zero => omega
  | succ n ih =>
    rw [Memory.writeMasked]
    by_cases hlast : j = n
    · subst hlast
      rw [Memory.byte_writeMasked_outside _ _ _ _ _ _ (by omega), show j + 1 - 1 - j = 0 by omega,
        apply_ite (fun m => Memory.byte m (a + j)), Memory.byte_setByte_same, byteAt, show j + 1 - 1 - j = 0 by omega]
      rfl
    · have hbyte : byteAt n (v >>> 8) j = byteAt (n + 1) v j := by
        rw [byteAt, byteAt, ← BitVec.shiftRight_add, show 8 + 8 * (n - 1 - j) = 8 * (n + 1 - 1 - j) by omega]
      have hold : Memory.byte (if mask.getLsbD 0 then Memory.setByte m (a + n) (v.setWidth 8) else m) (a + j) =
          Memory.byte m (a + j) := by
        split
        · exact Memory.byte_setByte_ne _ _ (by omega)
        · rfl
      rw [ih _ _ _ (by omega), hbyte, hold, BitVec.getLsbD_ushiftRight, show 1 + (n - 1 - j) = n + 1 - 1 - j by omega]

/-- `i` completes at `s` by storing `value j` as byte `j`, for `lo ≤ j < hi`, of the unit of `n` bytes at `unit`, the low
`8 n` bits of `v` being those of a whole unit. -/
def storesPart (i : Instr) (n unit lo hi : Nat) (v : Dword) (value : Nat → Byte) (s : State) : Prop :=
  match region s.cfg.rdramSize unit with
  | .memory => completes i s fun t =>
      (∀ j, lo ≤ j → j < hi → Memory.byte t.mem (unit + j) = value j) ∧
      frameStore (within (unit + lo) (hi - lo)) s t ∧ pastInstruction s t
  | .rom | .zeroRom | .unmapped => hasNoEffect i s
  | .registers _ _ =>
    (hi - lo = n → ∃ u, memWrite s (BitVec.ofNat 32 unit) n v = .ok u ∧ exec i s = .next (retireSeq u)) ∧
    (hi - lo ≠ n → stops i .partialRegisterWrite s)

/-- Of the low `n` bits of `mask`, those that name the bytes from `lo` up to `hi` are 1. -/
def MaskNames (mask : Byte) (n lo hi : Nat) : Prop :=
  (∀ j < n, mask.getLsbD (n - 1 - j) = decide (lo ≤ j ∧ j < hi)) ∧ (mask.toNat % 2 ^ n = 2 ^ n - 1 ↔ hi - lo = n)

section MaskedStores

variable {i : Instr} {s : State} {n unit lo hi : Nat} {v w : Dword} {mask : Byte} {value : Nat → Byte}

/-- What a masked store on the bus comes to, its mask naming the bytes from `lo` up to `hi` (R165). -/
theorem storesPart_of_exec (hunit : unit < 2 ^ 32) (hhi : hi ≤ n)
    (hexec : exec i s = stored (memWriteMasked s (BitVec.ofNat 32 unit) n w mask) seq)
    (hnames : MaskNames mask n lo hi) (hvalue : ∀ j, lo ≤ j → j < hi → byteAt n w j = value j)
    (hwhole : hi - lo = n → ∃ u, memWrite s (BitVec.ofNat 32 unit) n w = .ok u ∧
      memWrite s (BitVec.ofNat 32 unit) n v = .ok u) :
    storesPart i n unit lo hi v value s := by
  obtain ⟨hmask, hfull⟩ := hnames
  have hpa : (BitVec.ofNat 32 unit).toNat = unit := by rw [BitVec.toNat_ofNat, Nat.mod_eq_of_lt hunit]
  unfold memWriteMasked at hexec
  rw [hpa] at hexec
  unfold storesPart
  split
  case h_1 h =>
    rw [h] at hexec
    refine ⟨_, hexec, fun j hlo hj => ?_, ⟨fun a ha => ?_, rfl⟩, rfl, rfl, rfl⟩
    · exact (Memory.byte_writeMasked_inside _ _ _ _ (by omega)).trans
        ((if_pos (by rw [hmask j (by omega)]; simp [hlo, hj])).trans (hvalue j hlo hj))
    · by_cases hin : unit ≤ a ∧ a < unit + n
      · obtain ⟨j, rfl⟩ := Nat.exists_eq_add_of_le hin.1
        refine (Memory.byte_writeMasked_inside _ _ _ _ (by omega)).trans (if_neg ?_)
        rw [hmask j (by omega)]
        simp only [within, not_and_or, decide_eq_true_eq] at ha ⊢
        omega
      · exact Memory.byte_writeMasked_outside _ _ _ _ _ _ (by omega)
  case h_2 h | h_3 h | h_4 h =>
    rw [h] at hexec
    exact hasNoEffect_of_exec_eq_seq hexec
  case h_5 h =>
    rw [h] at hexec
    refine ⟨fun hn => ?_, fun hn => ?_⟩
    · obtain ⟨u, hw, hv⟩ := hwhole hn
      refine ⟨u, hv, hexec.trans ?_⟩
      dsimp only
      rw [if_pos (hfull.mpr hn), hw]
      rfl
    · refine hexec.trans ?_
      dsimp only
      rw [if_neg (mt hfull.mp hn)]
      rfl

end MaskedStores

section UnalignedValues

variable {v : Dword} {j k : Nat}

theorem maskNames_swl : ∀ k < 4, MaskNames (0x0F >>> k) 4 k 4 := by
  unfold MaskNames
  decide

theorem maskNames_swr : ∀ k < 4, MaskNames ((0x0F <<< (3 - k)) &&& 0x0F) 4 0 (k + 1) := by
  unfold MaskNames
  decide

theorem maskNames_sdl : ∀ k < 8, MaskNames (0xFF >>> k) 8 k 8 := by
  unfold MaskNames
  decide

theorem maskNames_sdr : ∀ k < 8, MaskNames (0xFF <<< (7 - k)) 8 0 (k + 1) := by
  unfold MaskNames
  decide

theorem byteAt_swl (hk : k ≤ j) (hj : j < 4) : byteAt 4 (zext32 (lo32 v >>> (8 * k))) j = byteAt 4 v (j - k) := by
  apply BitVec.eq_of_getLsbD_eq
  intro b hb
  rw [getLsbD_byteAt _ hb, getLsbD_byteAt _ hb, getLsbD_zext32 _ (by omega), BitVec.getLsbD_ushiftRight,
    getLsbD_lo32 _ (by omega), show 8 * k + (8 * (4 - 1 - j) + b) = 8 * (4 - 1 - (j - k)) + b by omega]

theorem byteAt_swr (hk : k < 4) (hj : j < k + 1) :
    byteAt 4 (zext32 (lo32 v <<< (8 * (3 - k)))) j = byteAt 4 v (j + (3 - k)) := by
  apply BitVec.eq_of_getLsbD_eq
  intro b hb
  rw [getLsbD_byteAt _ hb, getLsbD_byteAt _ hb, getLsbD_zext32 _ (by omega), BitVec.getLsbD_shiftLeft,
    getLsbD_lo32 _ (by omega), show 8 * (4 - 1 - j) + b - 8 * (3 - k) = 8 * (4 - 1 - (j + (3 - k))) + b by omega]
  simp [show 8 * (4 - 1 - j) + b < 32 by omega, show ¬8 * (4 - 1 - j) + b < 8 * (3 - k) by omega]

theorem byteAt_sdl (hk : k ≤ j) (hj : j < 8) : byteAt 8 (v >>> (8 * k)) j = byteAt 8 v (j - k) := by
  rw [byteAt, byteAt, ← BitVec.shiftRight_add, show 8 * k + 8 * (8 - 1 - j) = 8 * (8 - 1 - (j - k)) by omega]

theorem byteAt_sdr (hk : k < 8) (hj : j < k + 1) : byteAt 8 (v <<< (8 * (7 - k))) j = byteAt 8 v (j + (7 - k)) := by
  apply BitVec.eq_of_getLsbD_eq
  intro b hb
  rw [getLsbD_byteAt _ hb, getLsbD_byteAt _ hb, BitVec.getLsbD_shiftLeft,
    show 8 * (8 - 1 - j) + b - 8 * (7 - k) = 8 * (8 - 1 - (j + (7 - k))) + b by omega]
  simp [show 8 * (8 - 1 - j) + b < 64 by omega, show ¬8 * (8 - 1 - j) + b < 8 * (7 - k) by omega]

end UnalignedValues

/-- A word store that gives the low word of `v` stores it as `v` itself would be. -/
theorem memWrite_zext32 (s : State) (pa : Word) {v : Dword} {w : Word} (hw : w = lo32 v) :
    ∃ u, memWrite s pa 4 (zext32 w) = .ok u ∧ memWrite s pa 4 v = .ok u :=
  ⟨_, (memWrite_word ..).trans (congrArg _ (hw ▸ memWriteWord_zext32 ..)), memWrite_word ..⟩

theorem memWrite_dword_ok (s : State) (pa : Word) {v w : Dword} (hw : w = v) :
    ∃ u, memWrite s pa 8 w = .ok u ∧ memWrite s pa 8 v = .ok u := by
  subst hw
  have h : ∃ u, memWrite s pa 8 w = .ok u := by
    unfold memWrite
    split <;> exact ⟨_, rfl⟩
  obtain ⟨u, hu⟩ := h
  exact ⟨u, hu, hu⟩

/-- Settles O28. -/
theorem unalignedStores : Obligations.UnalignedStores := by
  intro rt base offset pa s h v storesBytes k d
  have hpa := pa.isLt
  have hk : k < 4 := Nat.mod_lt _ (by decide)
  have hd : d < 8 := Nat.mod_lt _ (by decide)
  have hgo := translated_of_physical h
  refine ⟨storesPart_of_exec (v := v) (by omega) (by omega) (hgo _) (maskNames_swl k hk) (fun j => byteAt_swl) fun hn => ?_,
    storesPart_of_exec (v := v) (by omega) (by omega) (hgo _) (maskNames_swr k hk) (fun j _ => byteAt_swr hk) fun hn => ?_,
    storesPart_of_exec (v := v) (by omega) (by omega) (hgo _) (maskNames_sdl d hd) (fun j => byteAt_sdl) fun hn => ?_,
    storesPart_of_exec (v := v) (by omega) (by omega) (hgo _) (maskNames_sdr d hd) (fun j _ => byteAt_sdr hd) fun hn => ?_⟩
  · refine memWrite_zext32 s _ ?_
    change lo32 v >>> (8 * k) = _
    rw [show k = 0 by omega]
    exact BitVec.ushiftRight_zero _
  · refine memWrite_zext32 s _ ?_
    change lo32 v <<< (8 * (3 - k)) = _
    rw [show k = 3 by omega]
    exact BitVec.shiftLeft_zero _
  · refine memWrite_dword_ok s _ ?_
    change v >>> (8 * d) = _
    rw [show d = 0 by omega]
    exact BitVec.ushiftRight_zero _
  · refine memWrite_dword_ok s _ ?_
    change v <<< (8 * (7 - d)) = _
    rw [show d = 7 by omega]
    exact BitVec.shiftLeft_zero _

/-! ## Load-linked and store-conditional -/

/-- Settles O29. -/
theorem loadLinkedStoreConditional : Obligations.LoadLinkedStoreConditional := by
  intro rt base offset pa s va links stores
  have hlink {i : Instr} {n : Nat} {v : Dword} (h : exec i s = seq (link (setGpr (memRead s pa n).2 rt v) pa)) :
      links i n v := by
    refine ⟨_, h, gpr_setGpr_same .., fun r hr => gpr_setGpr_ne _ _ hr, rfl, rfl, rfl, fun _ => rfl, ?_, rfl, rfl⟩
    rw [← memRead_cpu s pa n]
    rfl
  have hstore {i : Instr} {n : Nat} (hva : va.toNat % n = 0) (htranslate : translateVa s .store va = .physical pa)
      (hexec : exec i s = storeConditional n va rt s) : stores i n := by
    have hgo := hexec.trans (storeAt_of_physical hva htranslate _)
    refine ⟨fun hll => writesGpr_of_exec (hgo.trans (if_neg (by simp [hll]))) rfl, fun hll => ?_⟩
    have hwrite := hgo.trans (if_pos hll)
    refine ⟨fun u hu => ?_, fun hmem => ?_⟩
    · rw [hu] at hwrite
      exact writesGprFrom_of_exec hwrite rfl (memWrite_cpu hu)
    · rw [memWrite_of_memory hmem] at hwrite
      refine ⟨_, hwrite, gpr_setGpr_same .., hll, fun j hj => Memory.byteAt_of_write s.mem pa.toNat (gpr s rt) hj,
        fun a ha => Memory.byte_write_outside _ _ _ _ _ ?_⟩
      simp only [within, not_and_or] at ha
      omega
  refine ⟨fun h => ⟨fun h4 => hlink (loadAt_of_physical h4 h fun pa v s' => seq (link (setGpr s' rt (sext32 (lo32 v))) pa)),
      fun h8 => hlink (loadAt_of_physical h8 h fun pa v s' => seq (link (setGpr s' rt v) pa))⟩,
    fun h => ⟨fun h4 => hstore h4 h rfl, fun h8 => hstore h8 h rfl⟩⟩

end Sys2Proof.Machine
end

section
/-! PROOFS. CP0 moves, and the FPU's moves, compares and refusals (spec/44_system_cp0.md section 3,
spec/45_fpu.md). -/

namespace Sys2Proof.Machine

/-! ## CP0 -/

section Cp0

variable {s u : State} {rt rd : Reg} {v : Dword}

theorem cp0Modelled_of_not_mem (h : rd ∉ ([8, 9, 11, 12, 13, 14, 15, 16, 17, 18, 19, 30] : List Reg)) :
    cp0Modelled s rd = none := by
  simp only [List.mem_cons, List.not_mem_nil, or_false, not_or] at h
  simp only [cp0Modelled, h, if_false]

theorem cp0Read_of_modelled (h : cp0Modelled s rd = some v) : cp0Read s rd = (v, s) := by
  rw [cp0Read, h]

/-- A register that is not modelled reads a draw (R534). -/
theorem cp0Read_of_not_modelled (h : cp0Modelled s rd = none) :
    cp0Read s rd = (Config.cp0Draw rd s.draws, { s with draws := s.draws + 1 }) := by
  rw [cp0Read, h]

theorem writesGprFrom_mfc0 (h : cp0Read s rd = (v, u)) (hcpu : u.cpu = s.cpu) :
    writesGprFrom u (.mfc0 rt rd) rt (sext32 (lo32 v)) s :=
  writesGprFrom_of_exec (show exec (.mfc0 rt rd) s = _ by rw [exec, execMfc0, h]) rfl hcpu

theorem writesGprFrom_dmfc0 (h64 : cp0Is64 rd = true) (h : cp0Read s rd = (v, u)) (hcpu : u.cpu = s.cpu) :
    writesGprFrom u (.dmfc0 rt rd) rt v s :=
  writesGprFrom_of_exec (show exec (.dmfc0 rt rd) s = _ by rw [exec, execDmfc0, if_pos h64, h]) rfl hcpu

theorem stops_dmfc0 (h : cp0Is64 rd = false) : stops (.dmfc0 rt rd) .dmfc0Of32Bit s := by
  rw [stops, exec, execDmfc0, h]
  rfl

/-- The numbers of no 64-bit register (R536). -/
theorem cp0Is64_eq_false
    (h : rd ≠ 2 ∧ rd ≠ 3 ∧ rd ≠ 4 ∧ rd ≠ 8 ∧ rd ≠ 10 ∧ rd ≠ 14 ∧ rd ≠ 20 ∧ rd ≠ 30) : cp0Is64 rd = false := by
  simpa [cp0Is64, and_assoc] using h

/-- Settles O30. -/
theorem cp0Reads : Obligations.Cp0Reads := by
  intro rt rd s mf dmf drawn
  have hmf (n : Reg) {v : Dword} (h : cp0Modelled s n = some v) : mf n v :=
    writesGprFrom_mfc0 (cp0Read_of_modelled h) rfl
  have hdmf (n : Reg) {v : Dword} (h64 : cp0Is64 n = true) (h : cp0Modelled s n = some v) : dmf n v :=
    writesGprFrom_dmfc0 h64 (cp0Read_of_modelled h) rfl
  have hfree : ∀ n : Reg, (n.toNat ≤ 7 ∨ n = 10 ∨ (20 ≤ n.toNat ∧ n.toNat ≤ 29) ∨ n = 31) →
      n ∉ ([8, 9, 11, 12, 13, 14, 15, 16, 17, 18, 19, 30] : List Reg) := by decide
  have hfree64 : ∀ n : Reg, (n = 2 ∨ n = 3 ∨ n = 4 ∨ n = 10 ∨ n = 20) →
      cp0Is64 n = true ∧ n ∉ ([8, 9, 11, 12, 13, 14, 15, 16, 17, 18, 19, 30] : List Reg) := by decide
  refine ⟨hmf 8 rfl, hmf 9 rfl, hmf 11 rfl, hmf 12 rfl, hmf 13 rfl, hmf 14 rfl, hmf 15 rfl, hmf 16 rfl, hmf 17 rfl,
    hmf 18 rfl, hmf 19 rfl, hmf 30 rfl, fun h => ?_, hdmf 8 rfl rfl, hdmf 14 rfl rfl, hdmf 30 rfl rfl, fun h => ?_,
    fun h => stops_dmfc0 (cp0Is64_eq_false h)⟩
  · exact writesGprFrom_mfc0 (cp0Read_of_not_modelled (cp0Modelled_of_not_mem (hfree rd h))) rfl
  · obtain ⟨h64, hnot⟩ := hfree64 rd h
    exact writesGprFrom_dmfc0 h64 (cp0Read_of_not_modelled (cp0Modelled_of_not_mem hnot)) rfl

/-- A read-only or unmodelled register ignores a write (R539). -/
theorem cp0Write_of_not_mem (h : rd ∉ ([9, 11, 12, 13, 14, 16, 17, 18, 19, 30] : List Reg)) : cp0Write s rd v = .ok s := by
  simp only [List.mem_cons, List.not_mem_nil, or_false, not_or] at h
  simp only [cp0Write, h, if_false]

theorem exec_mtc0_of_32 (h : cp0Is64 rd = false) :
    exec (.mtc0 rt rd) s = stored (cp0Write s rd (zext32 (lo32 (gpr s rt)))) seq := by
  rw [exec, execMtc0, h]
  rfl

theorem exec_mtc0_of_64 (h : cp0Is64 rd = true) :
    exec (.mtc0 rt rd) s = stored (cp0Write s rd (sext32 (lo32 (gpr s rt)))) seq := by
  rw [exec, execMtc0, if_pos h]

theorem exec_dmtc0_of_64 (h : cp0Is64 rd = true) : exec (.dmtc0 rt rd) s = stored (cp0Write s rd (gpr s rt)) seq := by
  rw [exec, execDmtc0, if_pos h]

theorem stops_dmtc0 (h : cp0Is64 rd = false) : stops (.dmtc0 rt rd) .dmtc0Of32Bit s := by
  rw [stops, exec, execDmtc0, h]
  rfl

/-- Kernel mode, by the bits of Status (R870). -/
theorem kernelMode_iff :
    kernelMode s = true ↔
      s.cp0.status.extractLsb' 3 2 = 0 ∨ s.cp0.status.getLsbD 1 = true ∨ s.cp0.status.getLsbD 2 = true := by
  simp [kernelMode, statusKsu, statusExl, statusErl, statusBit, or_assoc]

/-- The mask of Status keeps the bits of the mode. -/
theorem kernelMode_setStatus (w : Word) :
    kernelMode (setStatus s w) = true ↔ w.extractLsb' 3 2 = 0 ∨ w.getLsbD 1 = true ∨ w.getLsbD 2 = true := by
  have hksu : (w &&& statusMask).extractLsb' 3 2 = w.extractLsb' 3 2 := by
    ext k hk
    have : k = 0 ∨ k = 1 := by omega
    rcases this with rfl | rfl <;> simp [statusMask]
  rw [kernelMode_iff, setStatus]
  dsimp only
  rw [hksu]
  simp [statusMask]

theorem watch_bits (w : Word) : ((zext32 w).getLsbD 1 || (zext32 w).getLsbD 0) = true ↔ w.extractLsb' 0 2 ≠ 0 := by
  have hzero : w.extractLsb' 0 2 = 0 ↔ w.getLsbD 0 = false ∧ w.getLsbD 1 = false := by
    rw [BitVec.eq_of_getLsbD_eq_iff]
    constructor
    · intro h
      exact ⟨by simpa using h 0 (by decide), by simpa using h 1 (by decide)⟩
    · rintro ⟨h0, h1⟩ k hk
      have : k = 0 ∨ k = 1 := by omega
      rcases this with rfl | rfl
      · simpa using h0
      · simpa using h1
  rw [ne_eq, hzero, getLsbD_zext32 w (by decide), getLsbD_zext32 w (by decide)]
  cases w.getLsbD 0 <;> cases w.getLsbD 1 <;> simp

/-- Settles O31. -/
theorem cp0Writes : Obligations.Cp0Writes := by
  intro rt rd s v w mtc0 dmtc0
  have hlow : lo32 (zext32 w) = w := lo32_zext32 w
  have hsign : lo32 (sext32 w) = w := lo32_sext32 w
  have hmt (n : Reg) {u : State} (h : cp0Is64 n = false) (hu : cp0Write s n (zext32 w) = .ok u)
      (hcpu : u.cpu = s.cpu) : mtc0 n u :=
    movesTo_of_exec ((exec_mtc0_of_32 h).trans (congrArg (stored · seq) hu)) hcpu
  have hmt64 (n : Reg) {u : State} (h : cp0Is64 n = true) (hu : cp0Write s n (sext32 w) = .ok u)
      (hcpu : u.cpu = s.cpu) : mtc0 n u :=
    movesTo_of_exec ((exec_mtc0_of_64 h).trans (congrArg (stored · seq) hu)) hcpu
  have hdmt (n : Reg) {u : State} (h : cp0Is64 n = true) (hu : cp0Write s n v = .ok u) (hcpu : u.cpu = s.cpu) :
      dmtc0 n u := movesTo_of_exec ((exec_dmtc0_of_64 h).trans (congrArg (stored · seq) hu)) hcpu
  have hstatus : cp0Write s 12 (zext32 w) = modeCheck (setStatus s w) := congrArg (modeCheck <| setStatus s ·) hlow
  have hwatch : cp0Write s 18 (zext32 w) = if ((zext32 w).getLsbD 1 || (zext32 w).getLsbD 0) = true then
      .error .watchEnabled else .ok { s with cp0.watchLo := lo32 (zext32 w) &&& 0xFFFFFFFB } := rfl
  rw [hlow] at hwatch
  have hignored : ∀ n : Reg, (n.toNat ≤ 8 ∨ n = 10 ∨ n = 15 ∨ (20 ≤ n.toNat ∧ n.toNat ≤ 29) ∨ n = 31) →
      n ∉ ([9, 11, 12, 13, 14, 16, 17, 18, 19, 30] : List Reg) := by decide
  have hignored64 : ∀ n : Reg, (n = 2 ∨ n = 3 ∨ n = 4 ∨ n = 8 ∨ n = 10 ∨ n = 20) →
      cp0Is64 n = true ∧ n ∉ ([9, 11, 12, 13, 14, 16, 17, 18, 19, 30] : List Reg) := by decide
  refine ⟨hmt 9 rfl (by simp [cp0Write, hlow]) rfl, hmt 11 rfl (by simp [cp0Write, hlow, setBit]) rfl, fun h => ?_,
    fun h => ?_, hmt 13 rfl (by simp [cp0Write, hlow]) rfl, hmt64 14 rfl rfl rfl,
    hmt 16 rfl (by simp [cp0Write, hlow]) rfl, hmt 17 rfl (by simp [cp0Write, hlow]) rfl, fun h => ?_, fun h => ?_,
    hmt 19 rfl (by simp [cp0Write, hlow]) rfl, hmt64 30 rfl rfl rfl, fun h => ?_, hdmt 14 rfl rfl rfl,
    hdmt 30 rfl rfl rfl, fun h => ?_, fun h => stops_dmtc0 (cp0Is64_eq_false h)⟩
  · exact hmt 12 rfl (hstatus.trans (if_pos ((kernelMode_setStatus w).mpr h))) rfl
  · exact (exec_mtc0_of_32 rfl).trans
      (congrArg (stored · seq) (hstatus.trans (if_neg (mt (kernelMode_setStatus w).mp h))))
  · exact hmt 18 rfl (hwatch.trans (if_neg (mt (watch_bits w).mp (not_not.mpr h)))) rfl
  · exact (exec_mtc0_of_32 rfl).trans (congrArg (stored · seq) (hwatch.trans (if_pos ((watch_bits w).mpr h))))
  · cases h64 : cp0Is64 rd with
    | false => exact hmt rd h64 (cp0Write_of_not_mem (hignored rd h)) rfl
    | true => exact hmt64 rd h64 (cp0Write_of_not_mem (hignored rd h)) rfl
  · obtain ⟨h64, hnot⟩ := hignored64 rd h
    exact hdmt rd h64 (cp0Write_of_not_mem hnot) rfl

end Cp0

/-! ## FPU registers -/

section Fpr

variable {i : Instr} {s u : State} {f : Fmt} {fd : Reg} {v : Dword} {x : Word}

theorem readFpr_eq_fprOperand (f : Fmt) (s : State) (i : Reg) : readFpr f s i = fprOperand s f i := by
  cases f <;> rfl

theorem fprHome_of_usable (h : fprUsable s .d fd) : fprHome s fd = fd :=
  if_pos (by simpa [fprUsable] using h)

/-- A register write, as the 64 bits that it leaves and where (R571). -/
theorem writeFpr_eq_setFpr (h : fprUsable s f fd) :
    writeFpr f s fd v = setFpr s (fprHome s fd) (if f = .s ∨ f = .w then fprWord s fd (lo32 v) else v) := by
  cases f with
  | s | w =>
    rw [if_pos (by simp)]
    by_cases hfr : (statusFr s || !fd.getLsbD 0) = true
    · rw [fprHome, fprWord, if_pos hfr, if_pos hfr]
      exact if_pos hfr
    · rw [fprHome, fprWord, if_neg hfr, if_neg hfr]
      exact if_neg hfr
  | d | l =>
    rw [fprHome_of_usable (by simpa [fprUsable] using h), if_neg (by simp)]
    simp only [writeFpr, writeFpr64]

/-- A meaning that writes FCR31 and an FPU register, and retires. -/
theorem wroteFpr_of_exec (h : exec i s = seq (writeFpr f (setFcr31 u x) fd v)) (hok : fprUsable u f fd)
    (hcpu : u.cpu = s.cpu) : completes i s fun t => wroteFpr s u t f fd v ∧ t.fpu.fcr31 = x := by
  have hok' : fprUsable (setFcr31 u x) f fd := hok
  rw [writeFpr_eq_setFpr hok'] at h
  refine ⟨_, h, ⟨?_, ⟨fun r hr => ?_, rfl, fun _ => rfl⟩, ?_, rfl, rfl⟩, rfl⟩
  · exact (fpr_retireSeq ..).trans (fpr_setFpr_same ..)
  · exact (fpr_retireSeq ..).trans (fpr_setFpr_ne _ _ hr)
  · rw [← hcpu]
    rfl

/-- A coprocessor-1 instruction that stops or goes on by its registers' formats (R571). -/
theorem onFprs_stops {l : List (Fmt × Reg)} {r : Result} (hcp1 : statusCu1 s = true) (h : exec i s = onFprs s l r)
    (hl : ¬∀ p ∈ l, fprUsable s p.1 p.2) : stops i .oddFprAsDword s := by
  push Not at hl
  obtain ⟨p, hp, hbad⟩ := hl
  exact h.trans (onFprs_of_not_usable hcp1 hp hbad r)

end Fpr

/-- Settles O33. -/
theorem fpuMovesLoadsAndStores : Obligations.FpuMovesLoadsAndStores := by
  intro rt fs base offset pa s hcu1 v f raises va
  have hraises : fcrRaises f = true ↔ raises := by
    have hE : (fcrCause f).getLsbD 5 = f.getLsbD 17 := by simp [fcrCause]
    have hcause : (fcrCause f).setWidth 5 = f.extractLsb' 12 5 := by
      ext k hk
      simp [fcrCause, show k < 6 by omega]
    rw [fcrRaises, hE, hcause]
    simp [raises, fcrEnable]
  have hcp1 (r : Result) : withCp1 s r = r := withCp1_of_usable hcu1 r
  have hodd {l : List (Fmt × Reg)} {i : Instr} {r : Result} (h : exec i s = onFprs s l r) (hl : l = [(.d, fs)])
      (hbad : ¬fprUsable s .d fs) : stops i .oddFprAsDword s :=
    onFprs_stops hcu1 h (by simpa [hl] using hbad)
  have heven (h : fprUsable s .d fs) (r : Result) : onFprs s [(.d, fs)] r = r :=
    onFprs_of_usable hcu1 (by simpa using h) r
  have hword : fprUsable s .w fs := .inr (.inl rfl)
  refine ⟨writesGpr_of_exec (hcp1 _) ?_, writesGpr_of_exec (hcp1 _) rfl, fun h0 h31 => ?_, fun h => ?_, fun h => ?_,
    fun h => ?_, writesGpr_of_exec (hcp1 _) rfl, wroteFpr_of_exec (u := s) (hcp1 _) hword rfl, fun h => ⟨?_, ?_⟩,
    fun h => ⟨hodd rfl rfl h, hodd rfl rfl h, hodd rfl rfl h, hodd rfl rfl h⟩, fun h => ⟨fun h4 => ?_, fun h8 hok => ?_⟩,
    fun h => ⟨fun h4 => ?_, fun h8 hok => ?_⟩⟩
  · rfl
  · have hread : fcrRead s fs = (Config.fcrDraw fs s.draws, { s with draws := s.draws + 1 }) :=
      (if_neg h0).trans (if_neg h31)
    exact writesGprFrom_of_exec ((hcp1 _).trans (by rw [hread])) rfl rfl
  · exact movesTo_of_exec ((hcp1 _).trans ((if_pos rfl).trans (if_neg (mt hraises.mp h)))) rfl
  · exact (hcp1 _).trans ((if_pos rfl).trans (if_pos (hraises.mpr h)))
  · exact hasNoEffect_of_exec_eq_seq ((hcp1 _).trans (if_neg h))
  · exact writesGpr_of_exec (heven h _) rfl
  · exact wroteFpr_of_exec (u := s) (heven h _) h rfl
  · rw [← memRead_fpu s pa 4]
    exact wroteFpr_of_exec ((hcp1 _).trans (loadAt_of_physical h4 h _)) (.inr (.inl rfl)) (memRead_cpu s pa 4)
  · rw [← memRead_fpu s pa 8]
    exact wroteFpr_of_exec ((heven hok _).trans (loadAt_of_physical h8 h _)) 
      (by simpa [fprUsable, statusFr, statusBit] using hok) (memRead_cpu s pa 8)
  · exact storesTo_of_storeTo h4 h (hcp1 _)
  · exact storesTo_of_storeTo h8 h (heven hok _)

/-! ## The exception procedure (R574) -/

section Fp

variable {i : Instr} {s : State}

theorem fcrEnable_fcrWithCause (f : Word) (c : BitVec 6) : fcrEnable (fcrWithCause f c) = fcrEnable f := by
  ext k hk
  interval_cases k <;> simp [fcrEnable, fcrWithCause]

/-- What `fp_arith` and the compare share (R574): an enabled cause raises, with nothing but Cause written. -/
theorem fpFinish_of_enabled {flags : BitVec 5} (h : flags &&& fcrEnable s.fpu.fcr31 ≠ 0) (write : State → State) :
    fpFinish s flags write = raise .floatingPoint (setFcr31 s (fcrWithCause s.fpu.fcr31 (flags.setWidth 6))) :=
  if_pos (by rw [fcrEnable_fcrWithCause]; exact bne_iff_ne.mpr h)

/-- Otherwise Cause is written, Flags accumulate, and the result is written (R574). -/
theorem fpFinish_of_not_enabled {flags : BitVec 5} (h : ¬flags &&& fcrEnable s.fpu.fcr31 ≠ 0)
    (write : State → State) :
    fpFinish s flags write =
      seq (write (setFcr31 s (fcrWithCause s.fpu.fcr31 (flags.setWidth 6) ||| (flags.setWidth 32 <<< 2)))) :=
  if_neg (by rw [fcrEnable_fcrWithCause]; exact mt bne_iff_ne.mp h)

/-- An arithmetic meaning ends as R574 has it. -/
theorem fpEnds_of_exec {op : FpOp} {fin fout : Fmt} {rm : BitVec 2} {a b : Dword} {fd : Reg}
    (h : exec i s = fpArith op fin fout rm a b fd s) (hok : fprUsable s fout fd) :
    fpEnds i op fin fout rm fd a b s := by
  unfold fpArith at h
  unfold fpEnds
  cases hfpop : fpop s op fin fout rm a b with
  | none =>
    rw [hfpop] at h
    exact h
  | some r =>
    obtain ⟨v, flags⟩ := r
    rw [hfpop] at h
    dsimp only at h ⊢
    by_cases hunimpl : fpuUnimpl s op fin fout rm a b = true
    · rw [if_pos hunimpl] at h ⊢
      exact h
    · rw [if_neg hunimpl] at h ⊢
      by_cases hflags : flags &&& fcrEnable s.fpu.fcr31 ≠ 0
      · rw [if_pos hflags]
        exact h.trans (fpFinish_of_enabled hflags _)
      · rw [if_neg hflags]
        obtain ⟨t, ht, hwrote, hfcr31⟩ :=
          wroteFpr_of_exec (u := s) (h.trans (fpFinish_of_not_enabled hflags _)) hok rfl
        exact ⟨t, ht, hfcr31, hwrote⟩

/-- A compare ends as R610 has it. -/
theorem fpCompareEnds_of_exec {f : Fmt} {cond : BitVec 4} {fs ft : Reg} (hcp1 : statusCu1 s = true)
    (h : exec i s = fpCompare f cond fs ft s) (hfs : fprUsable s f fs) (hft : fprUsable s f ft) :
    fpCompareEnds i f cond (fprOperand s f fs) (fprOperand s f ft) s := by
  rw [fpCompare, onFprs_of_usable hcp1 (by simp [hfs, hft]), readFpr_eq_fprOperand, readFpr_eq_fprOperand] at h
  unfold fpCompareEnds
  cases hfpop : fpCompareOp s f cond (fprOperand s f fs) (fprOperand s f ft) with
  | none =>
    rw [hfpop] at h
    exact h
  | some r =>
    obtain ⟨less, equal, unordered, flags⟩ := r
    rw [hfpop] at h
    dsimp only at h ⊢
    by_cases hunimpl :
      fpuUnimpl s .compare f f (fcrRm s.fpu.fcr31) (fprOperand s f fs) (fprOperand s f ft) = true
    · rw [if_pos hunimpl] at h ⊢
      exact h
    · rw [if_neg hunimpl] at h ⊢
      by_cases hflags : flags &&& fcrEnable s.fpu.fcr31 ≠ 0
      · rw [if_pos hflags]
        exact h.trans (fpFinish_of_enabled hflags _)
      · rw [if_neg hflags]
        exact ⟨_, h.trans (fpFinish_of_not_enabled hflags _), rfl, rfl, fun _ => rfl, rfl, rfl, rfl⟩

end Fp

/-- Settles O35. -/
theorem fpuComparesAndMov : Obligations.FpuComparesAndMov := by
  intro fd fs ft s hcu1 compares moves
  have hcompare {i : Instr} {f : Fmt} {cond : BitVec 4} (h : exec i s = fpCompare f cond fs ft s) :
      compares i f cond :=
    ⟨fun ⟨hfs, hft⟩ => fpCompareEnds_of_exec hcu1 h hfs hft, fun hbad => onFprs_stops hcu1 h (by simpa using hbad)⟩
  have hmove {i : Instr} {f : Fmt} (h : exec i s = fpMove f fd fs s) : moves i f := by
    refine ⟨fun ⟨hfd, hfs⟩ => ?_, fun hbad => onFprs_stops hcu1 h (by simpa using hbad)⟩
    rw [fpMove, onFprs_of_usable hcu1 (by simp [hfd, hfs]), readFpr_eq_fprOperand] at h
    exact wroteFpr_of_exec (u := s) h hfd rfl
  refine ⟨hcompare rfl, hcompare rfl, hcompare rfl, hcompare rfl, hcompare rfl, hcompare rfl, hcompare rfl,
    hcompare rfl, hcompare rfl, hcompare rfl, hcompare rfl, hcompare rfl, hcompare rfl, hcompare rfl, hcompare rfl,
    hcompare rfl, hcompare rfl, hcompare rfl, hcompare rfl, hcompare rfl, hcompare rfl, hcompare rfl, hcompare rfl,
    hcompare rfl, hcompare rfl, hcompare rfl, hcompare rfl, hcompare rfl, hcompare rfl, hcompare rfl, hcompare rfl,
    hcompare rfl, hmove rfl, hmove rfl, fun h f cond a b => ?_⟩
  rw [fpCompareOp, h]

/-- Settles O38. -/
theorem coprocessor1NeedsCu1 : Obligations.Coprocessor1NeedsCu1 := by
  intro i s h hcu1
  cases i with
  | cfc1 | ctc1 | mfc1 | dmfc1 | mtc1 | dmtc1 | lwc1 | ldc1 | swc1 | sdc1 | bc1f | bc1t | bc1fl | bc1tl | addS | subS
  | mulS | divS | sqrtS | absS | movS | negS | addD | subD | mulD | divD | sqrtD | absD | movD | negD | roundLS | roundLD
  | truncLS | truncLD | ceilLS | ceilLD | floorLS | floorLD | roundWS | roundWD | truncWS | truncWD | ceilWS | ceilWD
  | floorWS | floorWD | cvtSD | cvtSW | cvtSL | cvtDS | cvtDW | cvtDL | cvtWS | cvtWD | cvtLS | cvtLD | cFS | cUnS | cEqS
  | cUeqS | cOltS | cUltS | cOleS | cUleS | cSfS | cNgleS | cSeqS | cNglS | cLtS | cNgeS | cLeS | cNgtS | cFD | cUnD
  | cEqD | cUeqD | cOltD | cUltD | cOleD | cUleD | cSfD | cNgleD | cSeqD | cNglD | cLtD | cNgeD | cLeD | cNgtD =>
    exact withCp1_of_unusable hcu1 _
  | _ => simp [isCp1, encode] at h

end Sys2Proof.Machine
end

section
/-! PROOFS. The VectorUnit's scalar instructions, moves and transfers (spec/46_vector_unit.md). -/

namespace Sys2Proof.Machine

/-! ## Arithmetic -/

theorem vuAmount_eq (s : State) (rs : Reg) : vuAmount s rs = (sr s rs).toNat % 32 := BitVec.toNat_setWidth ..

theorem vuTruth_eq {b : Bool} {p : Prop} [Decidable p] (h : b = true ↔ p) : vuTruth b = if p then 1 else 0 := by
  rw [vuTruth, if_congr h rfl rfl]

theorem append_zero16_eq_ofNat (imm : BitVec 16) : imm ++ (0 : BitVec 16) = BitVec.ofNat 32 (imm.toNat * 65536) := by
  apply BitVec.eq_of_toNat_eq
  have h := imm.isLt
  rw [BitVec.toNat_append, BitVec.toNat_ofNat, Nat.shiftLeft_eq, Nat.mod_eq_of_lt (by omega)]
  exact Nat.or_zero _

/-- Settles O39. -/
theorem vectorUnitScalarAlu : Obligations.VectorUnitScalarAlu := by
  intro rd rs rt sa imm s a b n m z x
  have hm : vuAmount s rs = m := vuAmount_eq s rs
  have himm : (sext16To32 imm).toInt = imm.toInt := BitVec.toInt_signExtend_of_le (by decide)
  refine ⟨writesSr_of_exec rfl (shiftLeft_eq_ofNat ..), writesSr_of_exec rfl (ushiftRight_eq_ofNat ..),
    writesSr_of_exec rfl (sshiftRight_eq_ofInt ..), writesSr_of_exec rfl (hm ▸ shiftLeft_eq_ofNat ..),
    writesSr_of_exec rfl (hm ▸ ushiftRight_eq_ofNat ..), writesSr_of_exec rfl (hm ▸ sshiftRight_eq_ofInt ..),
    writesSr_of_exec rfl (add_eq_ofInt ..), writesSr_of_exec rfl (add_eq_ofInt ..),
    writesSr_of_exec rfl (sub_eq_ofInt ..), writesSr_of_exec rfl (sub_eq_ofInt ..), writesSr_of_exec rfl rfl,
    writesSr_of_exec rfl rfl, writesSr_of_exec rfl rfl, writesSr_of_exec rfl rfl,
    writesSr_of_exec rfl (vuTruth_eq BitVec.slt_iff_toInt_lt), writesSr_of_exec rfl (vuTruth_eq BitVec.ult_iff_lt),
    writesSr_of_exec rfl (add_signExtend_eq_ofInt ..), writesSr_of_exec rfl (add_signExtend_eq_ofInt ..),
    writesSr_of_exec rfl (vuTruth_eq (himm ▸ BitVec.slt_iff_toInt_lt)),
    writesSr_of_exec rfl (vuTruth_eq BitVec.ult_iff_lt), writesSr_of_exec rfl rfl, writesSr_of_exec rfl rfl,
    writesSr_of_exec rfl rfl, writesSr_of_exec rfl (append_zero16_eq_ofNat imm)⟩

/-! ## Branches and jumps -/

theorem vuBranchTarget_eq (pc : BitVec 12) (imm : BitVec 16) :
    vuBranchTarget pc imm = pc + 4 + BitVec.ofInt 12 (4 * imm.toInt) := by
  have h : imm.setWidth 12 <<< 2 = BitVec.ofInt 12 (4 * imm.toInt) := by
    have himm : imm.setWidth 12 = BitVec.ofInt 12 imm.toInt := by
      apply BitVec.eq_of_toInt_eq
      rw [BitVec.toInt_ofInt, BitVec.toInt_setWidth, BitVec.toInt_eq_toNat_bmod]
      exact (Int.bmod_bmod_of_dvd (by decide)).symm
    rw [BitVec.ofInt_mul, BitVec.shiftLeft_eq_mul_twoPow, mul_comm, himm]
    rfl
  rw [vuBranchTarget, h]
  rfl

theorem vuJumpTarget_eq (index : BitVec 26) : vuJumpTarget index = BitVec.ofNat 12 (4 * index.toNat) := by
  apply BitVec.eq_of_toNat_eq
  rw [vuJumpTarget, BitVec.toNat_shiftLeft, BitVec.toNat_setWidth, BitVec.toNat_ofNat, Nat.shiftLeft_eq]
  omega

theorem vuRegisterTarget_eq (v : Word) : vuRegisterTarget v = (v &&& 0xFFC).setWidth 12 := by
  rw [BitVec.setWidth_and]
  rfl

theorem vuNegative_iff (s : State) (i : Reg) : vuNegative s i = true ↔ (sr s i).toInt < 0 := by
  rw [← BitVec.toInt_zero (w := 32), ← BitVec.slt_iff_toInt_lt, BitVec.slt_zero_eq_msb, BitVec.msb_eq_getLsbD_last]
  rfl

theorem vuNegative_or_vuZero_iff (s : State) (i : Reg) : (vuNegative s i || vuZero s i) = true ↔ (sr s i).toInt ≤ 0 := by
  have hzero : vuZero s i = true ↔ (sr s i).toInt = 0 := by
    rw [← BitVec.toInt_zero (w := 32), BitVec.toInt_inj]
    exact beq_iff_eq
  rw [Bool.or_eq_true, vuNegative_iff, hzero]
  exact le_iff_lt_or_eq.symm

section Branches

variable {i : Instr} {s : State} {c taken : Bool} {imm : BitVec 16}

theorem vuBranches_of_vuBranchOn (hds : s.vu.ds = false) (h : exec i s = vuBranchOn taken imm s) (hc : taken = c) :
    vuBranches i c (s.vu.pc + 4 + BitVec.ofInt 12 (4 * imm.toInt)) none s :=
  hc ▸ vuBranches_of_exec (h.trans (vuControlTransfer_of_not_ds hds _)) (vuBranchTarget_eq ..)

theorem vuBranches_of_vuBranchLinkOn {rs : Reg} (hds : s.vu.ds = false) (hrs : rs ≠ 31)
    (h : exec i s = vuBranchLinkOn taken rs imm s) (hc : taken = c) :
    vuBranches i c (s.vu.pc + 4 + BitVec.ofInt 12 (4 * imm.toInt)) (some 31) s :=
  hc ▸ vuBranches_link_of_exec (h.trans ((vuControlTransfer_of_not_ds hds _).trans (if_neg (by simpa using hrs))))
    (vuBranchTarget_eq ..)

end Branches

/-- Settles O40. -/
theorem vectorUnitBranches : Obligations.VectorUnitBranches := by
  intro rd rs rt imm index s hds a b target direct indirect
  have hgo := vuControlTransfer_of_not_ds hds
  refine ⟨vuBranches_of_exec (hgo _) (vuJumpTarget_eq _), vuBranches_link_of_exec (hgo _) (vuJumpTarget_eq _),
    vuBranches_of_exec (hgo _) (vuRegisterTarget_eq _), fun h => ?_, fun c hc => ?_, fun c hc => ?_, fun c hc => ?_⟩
  · exact vuBranches_link_of_exec ((hgo _).trans (if_neg (by simpa using h))) (vuRegisterTarget_eq _)
  · have h : (a == b) = c := Bool.eq_iff_iff.mpr (beq_iff_eq.trans hc.symm)
    exact ⟨vuBranches_of_vuBranchOn hds rfl h, vuBranches_of_vuBranchOn hds rfl (congrArg _ h)⟩
  · have h : (vuNegative s rs || vuZero s rs) = c :=
      Bool.eq_iff_iff.mpr ((vuNegative_or_vuZero_iff ..).trans hc.symm)
    exact ⟨vuBranches_of_vuBranchOn hds rfl h, vuBranches_of_vuBranchOn hds rfl (congrArg _ h)⟩
  · have h : vuNegative s rs = c := Bool.eq_iff_iff.mpr ((vuNegative_iff ..).trans hc.symm)
    exact ⟨vuBranches_of_vuBranchOn hds rfl h, vuBranches_of_vuBranchOn hds rfl (congrArg _ h), fun h31 =>
      ⟨vuBranches_of_vuBranchLinkOn hds h31 rfl h, vuBranches_of_vuBranchLinkOn hds h31 rfl (congrArg _ h)⟩⟩

/-! ## DMEM -/

section Dmem

variable {i : Instr} {s : State} {a : Word}

/-- A byte below a value, as the value one byte longer. -/
theorem shiftLeft_or_byte {w : Nat} (x : BitVec w) (b : Byte) :
    (x.setWidth 32 <<< 8) ||| b.setWidth 32 = (x ++ b).setWidth 32 := by
  ext k hk
  by_cases h8 : k < 8
  · simp [BitVec.getElem_or, BitVec.getElem_setWidth, BitVec.getLsbD_append, h8]
  · have hb : b.getLsbD k = false := BitVec.getLsbD_of_ge _ _ (by omega)
    simp [BitVec.getElem_or, BitVec.getElem_setWidth, BitVec.getLsbD_append, h8, hb]

theorem dmemRead_succ {w : Nat} {x : BitVec w} {n : Nat} (h : dmemRead s a n = x.setWidth 32) :
    dmemRead s a (n + 1) = (x ++ dmemByte s a n).setWidth 32 := by
  rw [dmemRead, h]
  exact shiftLeft_or_byte x _

theorem dmemRead_one (s : State) (a : Word) : dmemRead s a 1 = (dmemByte s a 0).setWidth 32 :=
  BitVec.zero_or

theorem dmemRead_two (s : State) (a : Word) : dmemRead s a 2 = (dmemByte s a 0 ++ dmemByte s a 1).setWidth 32 :=
  dmemRead_succ (dmemRead_one s a)

theorem dmemRead_four (s : State) (a : Word) :
    dmemRead s a 4 = dmemByte s a 0 ++ dmemByte s a 1 ++ dmemByte s a 2 ++ dmemByte s a 3 :=
  (dmemRead_succ (dmemRead_succ (dmemRead_two s a))).trans (BitVec.setWidth_eq _)

theorem dmemKey_ne {j k : Nat} (hj : j < 4096) (hk : k < 4096) (h : j ≠ k) : dmemKey a j ≠ dmemKey a k := by
  simp only [dmemKey, ne_eq]
  omega

theorem byte_setDmemByte_same (s : State) (a : Word) (k : Nat) (b : Byte) :
    Memory.byte (setDmemByte s (a.toNat + k) b).mem (dmemKey a k) = b := Memory.byte_setByte_same ..

theorem byte_setDmemByte_ne {x k : Nat} (h : x ≠ dmemKey a k) (b : Byte) :
    Memory.byte (setDmemByte s (a.toNat + k) b).mem x = Memory.byte s.mem x := Memory.byte_setByte_ne _ _ h

theorem byte_dmemWrite_outside {n x : Nat} (v : Word) (h : ∀ k < n, x ≠ dmemKey a k) :
    Memory.byte (dmemWrite s a v n).mem x = Memory.byte s.mem x := by
  induction n generalizing s v with
  | zero => rfl
  | succ n ih =>
    rw [dmemWrite, ih _ fun k hk => h k (by omega)]
    exact byte_setDmemByte_ne (h n (by omega)) _

theorem byte_dmemWrite_inside {n k : Nat} (v : Word) (hn : n ≤ 4096) (hk : k < n) :
    Memory.byte (dmemWrite s a v n).mem (dmemKey a k) = (v >>> (8 * (n - 1 - k))).setWidth 8 := by
  induction n generalizing s v with
  | zero => omega
  | succ n ih =>
    rw [dmemWrite]
    by_cases hkn : k = n
    · subst hkn
      rw [byte_dmemWrite_outside _ fun j hj => dmemKey_ne (by omega) (by omega) (by omega), byte_setDmemByte_same]
      simp
    · rw [ih _ (by omega) (by omega), ← BitVec.shiftRight_add]
      congr 2
      omega

theorem byte_storeImage_outside {n x : Nat} (e : Nat) (v : Vector Half 8) (h : ∀ k < n, x ≠ dmemKey a k) :
    Memory.byte (storeImage s a e v n).mem x = Memory.byte s.mem x := by
  induction n with
  | zero => rfl
  | succ n ih =>
    rw [storeImage, byte_setDmemByte_ne (h n (by omega))]
    exact ih fun k hk => h k (by omega)

theorem byte_storeImage_inside {n k : Nat} (e : Nat) (v : Vector Half 8) (hn : n ≤ 4096) (hk : k < n) :
    Memory.byte (storeImage s a e v n).mem (dmemKey a k) = imgByte v (e + k) := by
  induction n with
  | zero => omega
  | succ n ih =>
    rw [storeImage]
    by_cases hkn : k = n
    · subst hkn
      exact byte_setDmemByte_same ..
    · rw [byte_setDmemByte_ne (dmemKey_ne (by omega) (by omega) hkn)]
      exact ih (by omega) (by omega)

/-- A meaning that changes memory alone, at DMEM bytes `a` to `a + n - 1`, and retires. -/
theorem vuStores_of_exec {t : State} {n : Nat} {value : Nat → Byte} {m : List Host.Cell} (h : exec i s = vuSeq t)
    (ht : t = { s with mem := m })
    (hin : ∀ k < n, Memory.byte t.mem (dmemKey a k) = value k)
    (hout : ∀ x, (∀ k < n, x ≠ dmemKey a k) → Memory.byte t.mem x = Memory.byte s.mem x) : vuStores i a n value s := by
  refine ⟨_, h, hin, ⟨fun x hx => hout x fun k hk hxk => hx ⟨k, hk, hxk⟩, ?_⟩, ?_⟩
  · rw [ht]
    rfl
  · rw [ht]
    exact ⟨rfl, rfl, rfl⟩

theorem vuStores_of_dmemWrite {n : Nat} {v : Word} (hn : n ≤ 4) (h : exec i s = vuSeq (dmemWrite s a v n)) :
    vuStores i a n (byteAt n (zext32 v)) s := by
  obtain ⟨m, hm, -⟩ := dmemWrite_eq s a v n
  refine vuStores_of_exec h hm (fun k hk => ?_) fun x hx => byte_dmemWrite_outside v hx
  rw [byte_dmemWrite_inside v (by omega) hk]
  ext j hj
  simp [byteAt, zext32, BitVec.getElem_setWidth, show 8 * (n - 1 - k) + j < 64 by omega]

end Dmem

/-- Settles O41. -/
theorem vectorUnitLoadsStoresAndBreak : Obligations.VectorUnitLoadsStoresAndBreak := by
  intro rt base offset code s a b v
  have h8 (x : Byte) : (x.setWidth 32).setWidth 8 = x := by simp
  have h16 (x : Half) : (x.setWidth 32).setWidth 16 = x := by simp
  refine ⟨writesSr_of_exec rfl ?_, writesSr_of_exec rfl ?_, writesSr_of_exec rfl (dmemRead_four s a),
    writesSr_of_exec rfl (dmemRead_one s a), writesSr_of_exec rfl (dmemRead_two s a),
    writesSr_of_exec rfl (dmemRead_four s a), vuStores_of_dmemWrite (by decide) rfl,
    vuStores_of_dmemWrite (by decide) rfl, vuStores_of_dmemWrite (by decide) rfl, ?_⟩
  · exact (congrArg (fun w : Word => (w.setWidth 8).signExtend 32) (dmemRead_one s a)).trans
      (congrArg (·.signExtend 32) (h8 _))
  · exact (congrArg (fun w : Word => (w.setWidth 16).signExtend 32) (dmemRead_two s a)).trans
      (congrArg (·.signExtend 32) (h16 _))
  · cases hintr : s.sp.intrOnBreak with
    | true => exact ⟨_, congrArg Host.Outcome.next (if_pos hintr), rfl, rfl, rfl, rfl, fun _ => rfl, rfl, rfl, rfl⟩
    | false =>
      exact ⟨_, congrArg Host.Outcome.next (if_neg (by simp [hintr])), rfl, rfl, rfl, rfl, fun _ => rfl, rfl, rfl, rfl⟩

/-! ## Vector registers by byte -/

section Image

variable {i : Instr} {s : State}

theorem imgByte_mod (v : Vector Half 8) (b : Nat) : imgByte v (b % 16) = imgByte v b := by
  simp only [imgByte, Nat.mod_mod, Nat.mod_mod_of_dvd b (show 2 ∣ 16 by decide)]

/-- One lane with its high or its low byte set, read by its high or its low byte. -/
theorem byte_setByte (lane : Half) (x : Byte) (p q : Prop) [Decidable p] [Decidable q] :
    (let l := if p then x ++ lane.extractLsb' 0 8 else lane.extractLsb' 8 8 ++ x
      if q then l.extractLsb' 8 8 else l.extractLsb' 0 8) =
      if p ↔ q then x else if q then lane.extractLsb' 8 8 else lane.extractLsb' 0 8 := by
  have hhigh (a b : Byte) : (a ++ b).extractLsb' 8 8 = a := BitVec.extractLsb'_append_eq_left
  have hlow (a b : Byte) : (a ++ b).extractLsb' 0 8 = b := BitVec.extractLsb'_append_eq_right
  by_cases hp : p <;> by_cases hq : q <;> simp [hp, hq, hhigh, hlow]

theorem imgByte_setImgByte {b c : Nat} (v : Vector Half 8) (x : Byte) (hb : b < 16) (hc : c < 16) :
    imgByte (setImgByte v b x) c = if c = b then x else imgByte v c := by
  have hb16 : b % 16 = b := Nat.mod_eq_of_lt hb
  have hc16 : c % 16 = c := Nat.mod_eq_of_lt hc
  simp only [imgByte, setImgByte, hb16, hc16, Vector.getElem_set]
  by_cases hlane : b / 2 = c / 2
  · have hget : v[b / 2]'(by omega) = v[c / 2]'(by omega) := by simp only [hlane]
    rw [if_pos hlane, hget]
    refine (byte_setByte ..).trans (if_congr ?_ rfl rfl)
    omega
  · rw [if_neg hlane, if_neg (show c ≠ b by omega)]

/-- Which bytes of the image a load fills (R696). -/
theorem imgByte_loadImage (a : Word) (e : Nat) (v : Vector Half 8) (n : Nat) {b : Nat} (hb : b < 16) :
    imgByte (loadImage s a e v n) b = if e ≤ b ∧ b < e + n then dmemByte s a (b - e) else imgByte v b := by
  induction n with
  | zero => exact (if_neg (by omega)).symm
  | succ n ih =>
    rw [loadImage]
    by_cases hn : e + n < 16
    · rw [if_pos hn, imgByte_setImgByte _ _ hn hb, ih]
      by_cases hbn : b = e + n
      · rw [if_pos hbn, if_pos (by omega), hbn, Nat.add_sub_cancel_left]
        rfl
      · rw [if_neg hbn]
        exact if_congr (by omega) rfl rfl
    · rw [if_neg hn, ih]
      exact if_congr (by omega) rfl rfl

/-- A meaning that writes one vector register, and retires. -/
theorem wroteVr_of_exec {vd : Reg} {v : Vector Half 8} (h : exec i s = vuSeq (setVr s vd v)) :
    completes i s fun t => vr t vd = v ∧ frameVr vd s t ∧ pastVuInstruction s t := by
  refine ⟨_, h, ?_, ⟨fun r hr => ?_, rfl, fun _ => rfl⟩, rfl, rfl, rfl⟩
  · rw [vr_vuRetireSeq, vr_setVr_same]
  · rw [vr_vuRetireSeq, vr_setVr_ne _ _ hr]

theorem vectorLoads_of_exec {a : Word} {n : Nat} {vt : Reg} {e : BitVec 4} (h : exec i s = vectorLoad n a vt e s) :
    vectorLoads i a n vt e s := by
  obtain ⟨t, ht, hvr, hframe⟩ := wroteVr_of_exec h
  refine ⟨t, ht, fun b hb => ?_, hframe⟩
  rw [hvr]
  exact imgByte_loadImage _ _ _ _ hb

theorem vectorStores_of_exec {a : Word} {n : Nat} {vt : Reg} {e : BitVec 4} (hn : n ≤ 16)
    (h : exec i s = vectorStore n a vt e s) : vectorStores i a n vt e s := by
  obtain ⟨m, hm, -⟩ := storeImage_eq s a e.toNat (vr s vt) n
  refine vuStores_of_exec h hm (fun k hk => ?_) fun x hx => byte_storeImage_outside _ _ hx
  rw [byte_storeImage_inside _ _ (by omega) hk, imgByte_mod]

theorem vectorAddress_eq (s : State) (base : Reg) (offset : BitVec 7) (size : Nat) :
    vectorAddress s base offset size = sr s base + BitVec.ofInt 32 (offset.toInt * size) := by
  rw [vectorAddress, BitVec.ofInt_mul, BitVec.signExtend]
  congr 2

end Image

/-- Settles O43. -/
theorem vectorLoadsAndStores : Obligations.VectorLoadsAndStores := by
  intro vt base e offset s a block
  have haddress (size : Nat) : vectorAddress s base offset size = a size := vectorAddress_eq ..
  have hload {i : Instr} (n size : Nat) (h : exec i s = vectorLoad n (vectorAddress s base offset size) vt e s) :
      vectorLoads i (a size) n vt e s := vectorLoads_of_exec (haddress size ▸ h)
  have hstore {i : Instr} (n size : Nat) (hn : n ≤ 16)
      (h : exec i s = vectorStore n (vectorAddress s base offset size) vt e s) :
      vectorStores i (a size) n vt e s := vectorStores_of_exec hn (haddress size ▸ h)
  have hquad : quadCount (vectorAddress s base offset 16) = block := congrArg quadCount (haddress 16)
  have hblock : block ≤ 16 := Nat.sub_le ..
  exact ⟨hload 1 1 rfl, hload 2 2 rfl, hload 4 4 rfl, hload 8 8 rfl, hload block 16 (hquad ▸ rfl),
    hstore 1 1 (by decide) rfl, hstore 2 2 (by decide) rfl, hstore 4 4 (by decide) rfl, hstore 8 8 (by decide) rfl,
    hstore block 16 hblock (hquad ▸ rfl)⟩

end Sys2Proof.Machine
end

section
/-! PROOFS. The VectorUnit's moves and its lane-wise operations (spec/46_vector_unit.md sections 6 and 7,
spec/47_vector_ops.md). -/

namespace Sys2Proof.Machine

/-! ## Moves -/

theorem vuCop0Address_of_lt : ∀ rd : Reg, rd.toNat < 16 →
    vuCop0Address rd = some (if rd.toNat < 8 then BitVec.ofNat 32 (0x04040000 + 4 * rd.toNat)
      else BitVec.ofNat 32 (0x04100000 + 4 * (rd.toNat - 8))) := by decide

theorem vuCop0Address_of_ge : ∀ rd : Reg, 16 ≤ rd.toNat → vuCop0Address rd = none := by decide

/-- Reading SP_SEMAPHORE takes it (R174). -/
theorem memRead_semaphore (s : State) :
    memRead s 0x0404001C 4 = (if s.sp.semaphore then 1 else 0, { s with sp.semaphore := true }) := by
  have hregion : region s.cfg.rdramSize (0x0404001C : Word).toNat = .registers .sp 0x1C := by
    cases s.cfg.rdramSize <;> rfl
  rw [memRead_of_registers hregion (by decide)]
  cases hsem : s.sp.semaphore <;> simp [subWord, regValue, spRead, regReadEffect, hsem, bit, zext32]

theorem imgByte_mtc2Image (v : Vector Half 8) (x : Word) {e b : Nat} (he : e < 16) (hb : b < 16) :
    imgByte (mtc2Image v e x) b =
      if b = e then x.extractLsb' 8 8 else if b = e + 1 then x.extractLsb' 0 8 else imgByte v b := by
  unfold mtc2Image
  split
  · rw [imgByte_setImgByte _ _ (by omega) hb, imgByte_setImgByte _ _ he hb]
    by_cases h : b = e
    · rw [if_neg (by omega), if_pos h, if_pos h]
    · rw [if_neg h, if_neg h]
  · rw [imgByte_setImgByte _ _ he hb, if_neg (show b ≠ e + 1 by omega)]

/-- Settles O42. -/
theorem vectorUnitMoves : Obligations.VectorUnitMoves := by
  intro rt rd e s pa img x
  have hcontrol {i : Instr} {u : State} (h : exec i s = vuSeq u) (hmem : u.mem = s.mem)
      (hpast : pastVuInstruction s (vuRetireSeq u)) :
      completes i s fun t => backVuPipeline u t = u ∧ sameMemory s t ∧ pastVuInstruction s t :=
    ⟨_, h, rfl, fun a => congrArg (Memory.byte · a) hmem, hpast⟩
  refine ⟨fun h => ⟨?_, ?_⟩, fun h => ?_, fun h => ⟨?_, ?_⟩, writesSr_of_exec rfl ?_, ?_, writesSr_of_exec rfl rfl,
    writesSr_of_exec rfl rfl, writesSr_of_exec rfl rfl, ?_, fun h => ⟨?_, ?_⟩⟩
  · have hexec : exec (.rspMfc0 rt rd) s = vuWrite rt (lo32 (memRead s pa 4).1) (memRead s pa 4).2 := by
      rw [exec, execRspMfc0, vuCop0Address_of_lt rd h]
    exact writesSrFrom_of_exec hexec rfl (memRead_vu s pa 4)
  · rw [exec, execRspMtc0, vuCop0Address_of_lt rd h]
    dsimp only
    rw [memWrite_word]
    rfl
  · subst h
    exact ⟨congrArg Prod.fst (memRead_semaphore s), congrArg Prod.snd (memRead_semaphore s)⟩
  · rw [stops, exec, execRspMfc0, vuCop0Address_of_ge rd h]
  · rw [stops, exec, execRspMtc0, vuCop0Address_of_ge rd h]
  · exact congrArg (fun b : Byte => (img e.toNat ++ b).signExtend 32) (imgByte_mod (vr s rd) (e.toNat + 1)).symm
  · obtain ⟨t, ht, hvr, hframe⟩ := wroteVr_of_exec (i := .rspMtc2 rt rd e) (s := s) rfl
    refine ⟨t, ht, fun b hb => ?_, hframe⟩
    rw [hvr]
    exact imgByte_mtc2Image _ _ e.isLt hb
  · rintro c u (⟨rfl, rfl⟩ | ⟨rfl, rfl⟩ | ⟨rfl, rfl⟩)
    · exact hcontrol rfl rfl ⟨rfl, rfl, rfl⟩
    · exact hcontrol rfl rfl ⟨rfl, rfl, rfl⟩
    · exact hcontrol rfl rfl ⟨rfl, rfl, rfl⟩
  all_goals
    have h0 : rd ≠ 0 := by rintro rfl; exact absurd h (by decide)
    have h1 : rd ≠ 1 := by rintro rfl; exact absurd h (by decide)
    have h2 : rd ≠ 2 := by rintro rfl; exact absurd h (by decide)
    exact (if_neg h0).trans ((if_neg h1).trans (if_neg h2))

/-! ## Lanes -/

section Lanes

variable {i : Instr} {s : State} {vd vs vt : Reg} {e : BitVec 4}

theorem getElem_lanes {α : Type} (f : Nat → α) (l : Fin 8) : (lanes f)[l.val] = f l := by
  fin_cases l <;> rfl

/-- The flags of eight lanes, lane 7's the leftmost. -/
theorem getLsbD_flags : ∀ b₇ b₆ b₅ b₄ b₃ b₂ b₁ b₀ : Bool, ∀ l : Fin 8,
    (bit 1 b₇ ++ bit 1 b₆ ++ bit 1 b₅ ++ bit 1 b₄ ++ bit 1 b₃ ++ bit 1 b₂ ++ bit 1 b₁ ++ bit 1 b₀ : BitVec 8).getLsbD l =
      ![b₀, b₁, b₂, b₃, b₄, b₅, b₆, b₇] l := by decide

theorem getLsbD_laneBits (f : Nat → Bool) (l : Fin 8) : (laneBits f).getLsbD l = f l := by
  rw [laneBits, getLsbD_flags]
  fin_cases l <;> rfl

theorem toInt_clamp16 (n : Int) : (clamp16 n).toInt = max (-32768) (min 32767 n) := by
  rw [clamp16, BitVec.toInt_ofInt_eq_self (by decide) (by simp only [clamp]; omega) (by simp only [clamp]; omega), clamp]
  omega

theorem toInt_sat48 {n : Int} (h : -2 ^ 46 ≤ n ∧ n < 2 ^ 46) : (sat48 n).toInt = n := by
  rw [sat48, BitVec.toInt_ofInt_eq_self (by decide) (by simp only [clamp]; omega) (by simp only [clamp]; omega), clamp]
  omega

theorem half_bounds (a : Half) : -32768 ≤ a.toInt ∧ a.toInt < 32768 :=
  ⟨BitVec.le_toInt a, BitVec.toInt_lt⟩

theorem laneOperands_eq (s : State) (vs vt : Reg) (e : BitVec 4) (l : Fin 8) :
    laneOperands s vs vt e l = (vrLane s vs l, vtLane s vt e l) := by
  have hselect : element e l = selected e l := by
    have he := e.isLt
    unfold element selected
    split_ifs <;> omega
  simp only [laneOperands, lane, vrLane, vtLane, hselect, Nat.mod_eq_of_lt l.isLt]

/-- The lane pattern (R722), whatever else the meaning writes to the flags. -/
theorem laneWise_of_exec {full : Fin 8 → Int} {f : Nat → Int} {post : State → Prop} {vcc vco : BitVec 8}
    (h : exec i s = vuSeq { laneResults f vd s with vu.vcc := vcc, vu.vco := vco }) (hf : ∀ l : Fin 8, f l = full l)
    (hfull : ∀ l, -2 ^ 46 ≤ full l ∧ full l < 2 ^ 46) (hpost : ∀ t : State, t.vu.vcc = vcc → t.vu.vco = vco → post t) :
    laneWise i vd full post s := by
  refine ⟨_, h, fun l => ⟨?_, ?_⟩, hpost _ rfl rfl, ⟨fun r hr => ?_, rfl, fun _ => rfl⟩, rfl, rfl, rfl⟩
  · rw [← hf, ← toInt_clamp16]
    exact congrArg BitVec.toInt ((congrArg (fun v : Vector Half 8 => v[l.val])
      (vr_setVr_same s vd (lanes fun l => clamp16 (f l)))).trans (getElem_lanes _ l))
  · exact (congrArg BitVec.toInt (getElem_lanes _ l)).trans ((hf l).symm ▸ toInt_sat48 (hfull l))
  · exact vr_setVr_ne _ _ hr

end Lanes

/-- Settles O44. -/
theorem vectorLaneOperations : Obligations.VectorLaneOperations := by
  intro vd vs vt e s a b flags noFlags outside adds bits picks
  have hoperands (l : Fin 8) : laneOperands s vs vt e l = (a l, b l) := laneOperands_eq ..
  have hop {i : Instr} {full : Fin 8 → Int} (f : Half → Half → Int) (h : exec i s = vuSeq (vectorOp f vd vs vt e s))
      (hf : ∀ l, f (a l) (b l) = full l) (hfull : ∀ l, -2 ^ 46 ≤ full l ∧ full l < 2 ^ 46) :
      laneWise i vd full noFlags s :=
    laneWise_of_exec (vcc := s.vu.vcc) (vco := s.vu.vco) h (fun l => by rw [hoperands, hf]) hfull
      fun t hvcc hvco => ⟨hvcc, hvco⟩
  have hflags {i : Instr} {full : Fin 8 → Int} {c : Fin 8 → Bool} (f : Half → Half → Int) (g : Half → Half → Bool)
      (h : exec i s = vuSeq (vectorOpFlags f g vd vs vt e s)) (hf : ∀ l, f (a l) (b l) = full l)
      (hg : ∀ l, g (a l) (b l) = c l) (hfull : ∀ l, -2 ^ 46 ≤ full l ∧ full l < 2 ^ 46) :
      laneWise i vd full (flags c) s :=
    laneWise_of_exec h (fun l => by rw [hoperands, hf]) hfull fun t hvcc hvco =>
      ⟨fun l => by rw [hvcc, getLsbD_laneBits, hoperands, hg], hvco⟩
  have hbits {i : Instr} {r : Fin 8 → Half} (f : Half → Half → Half)
      (h : exec i s = vuSeq (vectorOp (fun a b => (f a b).toInt) vd vs vt e s)) (hf : ∀ l, f (a l) (b l) = r l) :
      bits i r :=
    hop _ h (fun l => congrArg BitVec.toInt (hf l)) fun l => by have := half_bounds (r l); omega
  have hpicks {i : Instr} {c : Fin 8 → Bool} (g : Half → Half → Bool)
      (h : exec i s = vectorCompare g vd vs vt e s) (hg : ∀ l, g (a l) (b l) = c l) : picks i c :=
    hflags _ g h (fun l => by rw [hg]) hg fun l => by
      have ha := half_bounds (a l)
      have hb := half_bounds (b l)
      split <;> omega
  have hsaturates (r : Int) : saturates r = outside r := by simp [saturates, outside]
  have hsums (l : Fin 8) : -2 ^ 46 ≤ (a l).toInt + (b l).toInt ∧ (a l).toInt + (b l).toInt < 2 ^ 46 := by
    have ha := half_bounds (a l)
    have hb := half_bounds (b l)
    omega
  have hdifferences (l : Fin 8) : -2 ^ 46 ≤ (a l).toInt - (b l).toInt ∧ (a l).toInt - (b l).toInt < 2 ^ 46 := by
    have ha := half_bounds (a l)
    have hb := half_bounds (b l)
    omega
  have habs (l : Fin 8) : vabsFull (a l) (b l) = (a l).toInt.sign * (b l).toInt := by
    unfold vabsFull
    split_ifs with hneg hpos
    · rw [Int.sign_eq_neg_one_of_neg hneg, neg_one_mul]
    · rw [Int.sign_eq_one_of_pos hpos, one_mul]
    · rw [show (a l).toInt = 0 by omega, Int.sign_zero, zero_mul]
  refine ⟨hflags _ _ rfl (fun _ => rfl) (fun l => hsaturates _) hsums,
    hflags _ _ rfl (fun _ => rfl) (fun l => hsaturates _) hdifferences, hop _ rfl habs fun l => ?_,
    hbits _ rfl fun _ => rfl, hbits _ rfl fun _ => rfl, hbits _ rfl fun _ => rfl, hbits _ rfl fun _ => rfl,
    hbits _ rfl fun _ => rfl, hbits _ rfl fun _ => rfl, hpicks _ rfl fun l => BitVec.slt_eq_decide,
    hpicks _ rfl fun l => beq_eq_decide _ _, hpicks _ rfl fun l => ?_, hpicks _ rfl fun l => ?_, ?_, ?_, ?_⟩
  · have ha := half_bounds (a l)
    have hb := half_bounds (b l)
    rw [← habs, vabsFull]
    split_ifs <;> omega
  · by_cases h : a l = b l <;> simp [h]
  · simp only [BitVec.slt_eq_decide, ← decide_not, not_lt]
  · refine laneWise_of_exec (vcc := s.vu.vcc) (vco := s.vu.vco) rfl (fun l => ?_) (fun l => ?_)
      fun t hvcc hvco => ⟨hvcc, hvco⟩
    · rw [hoperands]
    · have ha := half_bounds (a l)
      have hb := half_bounds (b l)
      split <;> omega
  · obtain ⟨t, ht, hvr, hframe⟩ := wroteVr_of_exec (i := .rspVsar vd e) (s := s) rfl
    refine ⟨t, ht, fun l => ?_, hframe⟩
    simp only [vrLane, hvr, Vector.getElem_map, accSlice]
    rfl
  · exact ⟨_, rfl, ⟨rfl, fun _ => rfl⟩, rfl, rfl, rfl⟩

end Sys2Proof.Machine
end

section
/-! PROOFS. The DisplayProcessor: the fill, the triangles, and the flush that cuts the stream
(spec/48_rasterizer.md). -/

namespace Sys2Proof.Machine

/-! ## Places in a buffer -/

/-- Two pixels of one width share a place only if they are one pixel. -/
theorem place_inj {w x y x' y' : Nat} (hx : x < w) (hx' : x' < w) (h : y * w + x = y' * w + x') : y = y' ∧ x = x' := by
  have hy : y = y' := by
    have hdiv := congrArg (· / w) h
    simpa [Nat.add_comm, Nat.add_mul_div_right _ _ (Nat.zero_lt_of_lt hx), Nat.div_eq_of_lt hx, Nat.div_eq_of_lt hx']
      using hdiv
  subst hy
  exact ⟨rfl, by omega⟩

/-- A place in a row below the height is in the buffer. -/
theorem place_lt {w h x y : Nat} (hx : x ≤ w) (hy : y < h) : y * w + x ≤ w * h :=
  calc y * w + x ≤ y * w + w := by omega
    _ = w * (y + 1) := by rw [Nat.mul_succ, Nat.mul_comm]
    _ ≤ w * h := Nat.mul_le_mul_left _ hy

/-! ## The fill -/

/-- The first `n` rows of a fill, from row `y0` on. -/
def fillRows (x0 x1 y0 : Nat) (c : Word) (s : State) (n : Nat) : State :=
  (List.range n).foldl (fun s' k => fillRow x0 x1 c (y0 + k) s') s

theorem fillRows_succ (x0 x1 y0 : Nat) (c : Word) (s : State) (n : Nat) :
    fillRows x0 x1 y0 c s (n + 1) = fillRow x0 x1 c (y0 + n) (fillRows x0 x1 y0 c s n) := by
  rw [fillRows, List.range_succ, List.foldl_append]
  rfl

section Fill

variable {x0 x1 y0 n : Nat} {c : Word} {s : State}

/-- A fill changes pixels alone. -/
theorem fillRows_outside : { fillRows x0 x1 y0 c s n with rdp.fb := s.rdp.fb } = s := by
  induction n with
  | zero => rfl
  | succ n ih =>
    rw [fillRows_succ]
    exact ih

theorem fbWidth_fillRows : (fillRows x0 x1 y0 c s n).rdp.fbWidth = s.rdp.fbWidth :=
  (congrArg (·.rdp.fbWidth) (fillRows_outside (x0 := x0) (x1 := x1) (y0 := y0) (c := c) (n := n)) :)

theorem get_fillRows {k : Nat} :
    Store.get 0 (fillRows x0 x1 y0 c s n).rdp.fb k =
      if ∃ j < n, (y0 + j) * s.rdp.fbWidth + x0 ≤ k ∧
        k < (y0 + j) * s.rdp.fbWidth + x0 + (min x1 s.rdp.fbWidth - x0) then c else Store.get 0 s.rdp.fb k := by
  induction n with
  | zero => exact (if_neg (by simp)).symm
  | succ n ih =>
    rw [fillRows_succ, fillRow, fbWidth_fillRows]
    dsimp only
    rw [Store.get_fill, ih, ← ite_or]
    refine if_congr ?_ rfl rfl
    rw [Nat.exists_lt_succ_right, or_comm]

end Fill

/-- Settles O48. -/
theorem fillRectangleFillsExactly : Obligations.FillRectangle := by
  intro xl yl xh yh s
  set x0 := pixels xh with hx0
  refine ⟨fillRows x0 (pixels xl) (pixels yh) s.rdp.fillColor s (min (pixels yl) s.rdp.fbHeight - pixels yh), rfl,
    fun x y hx hy => ?_, fun k hk => ?_, fillRows_outside, fun a => ?_⟩
  · rw [pixel, pixel, fbWidth_fillRows, get_fillRows]
    refine if_congr ⟨?_, ?_⟩ rfl rfl
    · rintro ⟨j, hj, hlo, hhi⟩
      obtain ⟨d, hd⟩ := Nat.exists_eq_add_of_le hlo
      obtain ⟨rfl, rfl⟩ := place_inj (y := pixels yh + j) (x := x0 + d) (y' := y) (by omega) hx (by omega)
      simp only [pixels] at *
      omega
    · rintro ⟨hxlo, hxhi, hylo, hyhi⟩
      refine ⟨y - pixels yh, by simp only [pixels]; omega, ?_⟩
      rw [Nat.add_sub_cancel' (show pixels yh ≤ y from hylo)]
      simp only [pixels, hx0]
      omega
  · rw [get_fillRows, if_neg]
    rintro ⟨j, hj, hlo, hhi⟩
    have := place_lt (w := s.rdp.fbWidth) (h := s.rdp.fbHeight) (x := x0 + (min (pixels xl) s.rdp.fbWidth - x0))
      (y := pixels yh + j) (by omega) (by omega)
    omega
  · exact (congrArg (Memory.byte ·.mem a) (fillRows_outside (x0 := x0) (c := s.rdp.fillColor)) :)

/-! ## The triangles -/

/-- The vertex `i` is drawn before the vertex `j`: it is above it, or as high and earlier (R1012). -/
def drawnBefore (v : Fin 3 → Vertex) (i j : Fin 3) : Prop := (v i).y < (v j).y ∨ ((v i).y = (v j).y ∧ i < j)

theorem drawnBefore_of_le {v : Fin 3 → Vertex} {i j : Fin 3} (h : (v i).y ≤ (v j).y) (hij : i < j) : drawnBefore v i j :=
  h.lt_or_eq.imp_right (⟨·, hij⟩)

theorem sortsByY_of_drawnBefore {v : Fin 3 → Vertex} {i j k : Fin 3} (hij : drawnBefore v i j) (hjk : drawnBefore v j k)
    (hik : drawnBefore v i k) : sortsByY v ![i, j, k] := by
  intro a b hab
  obtain ⟨rfl, rfl⟩ | ⟨rfl, rfl⟩ | ⟨rfl, rfl⟩ : (a = 0 ∧ b = 1) ∨ (a = 0 ∧ b = 2) ∨ (a = 1 ∧ b = 2) := by
    revert a b
    decide
  · exact hij
  · exact hik
  · exact hjk

/-- The model's sort is a sort (R1012). -/
theorem exists_sortsByY (v : Fin 3 → Vertex) :
    ∃ order, sortsByY v order ∧ sortByY (v 0) (v 1) (v 2) = (v (order 0), v (order 1), v (order 2)) := by
  unfold sortByY
  by_cases h01 : (v 0).y ≤ (v 1).y
  · simp only [if_pos h01]
    by_cases h12 : (v 1).y ≤ (v 2).y
    · exact ⟨![0, 1, 2], sortsByY_of_drawnBefore (drawnBefore_of_le h01 (by decide)) (drawnBefore_of_le h12 (by decide))
        (drawnBefore_of_le (h01.trans h12) (by decide)), if_pos h12⟩
    · have h21 := not_le.mp h12
      rw [if_neg h12]
      by_cases h02 : (v 0).y ≤ (v 2).y
      · exact ⟨![0, 2, 1], sortsByY_of_drawnBefore (drawnBefore_of_le h02 (by decide)) (.inl h21)
          (drawnBefore_of_le h01 (by decide)), if_pos h02⟩
      · exact ⟨![2, 0, 1], sortsByY_of_drawnBefore (.inl (not_le.mp h02)) (drawnBefore_of_le h01 (by decide)) (.inl h21),
          if_neg h02⟩
  · have h10 := not_le.mp h01
    simp only [if_neg h01]
    by_cases h02 : (v 0).y ≤ (v 2).y
    · exact ⟨![1, 0, 2], sortsByY_of_drawnBefore (.inl h10) (drawnBefore_of_le h02 (by decide)) (.inl (h10.trans_le h02)),
        if_pos h02⟩
    · have h20 := not_le.mp h02
      rw [if_neg h02]
      by_cases h12 : (v 1).y ≤ (v 2).y
      · exact ⟨![1, 2, 0], sortsByY_of_drawnBefore (drawnBefore_of_le h12 (by decide)) (.inl h20) (.inl h10), if_pos h12⟩
      · exact ⟨![2, 1, 0], sortsByY_of_drawnBefore (.inl (not_le.mp h12)) (.inl h10) (.inl h20), if_neg h12⟩

/-- A pixel and its depth. -/
def cellAt (s : State) (x y : Nat) : Word × Word := (pixel s x y, depthAt s x y)

/-- What `plot` makes of the point's pixel and its depth (R1013). -/
def plotted (s : State) (op : BitVec 8) (p : Vertex) (c : Word × Word) : Word × Word :=
  if op.getLsbD 0 then
    (if BitVec.ofInt 32 (clampFloor p.z 0xFFFFFFFF) < c.2 then
      (triShade s op p, BitVec.ofInt 32 (clampFloor p.z 0xFFFFFFFF)) else c)
  else (triShade s op p, c.2)

/-- `t` is `s` with buffers that agree with it at the places where `p` does not hold; the depth too where `op` tests none. -/
structure Plots (op : BitVec 8) (p : Nat → Prop) (s t : State) : Prop where
  outside : { t with rdp.fb := s.rdp.fb, rdp.depth := s.rdp.depth } = s
  elsewhere : ∀ k, ¬p k → Store.get 0 t.rdp.fb k = Store.get 0 s.rdp.fb k ∧
    Store.get depthFar t.rdp.depth k = Store.get depthFar s.rdp.depth k
  depth : op.getLsbD 0 = false → t.rdp.depth = s.rdp.depth

namespace Plots

variable {op : BitVec 8} {p q : Nat → Prop} {s t u : State}

theorem refl (op : BitVec 8) (p : Nat → Prop) (s : State) : Plots op p s s := ⟨rfl, fun _ _ => ⟨rfl, rfl⟩, fun _ => rfl⟩

theorem fbWidth (h : Plots op p s t) : t.rdp.fbWidth = s.rdp.fbWidth := (congrArg (·.rdp.fbWidth) h.outside :)

theorem cfg (h : Plots op p s t) : t.cfg = s.cfg := (congrArg (·.cfg) h.outside :)

theorem dpState (h : Plots op p s t) : t.rdp.dpState = s.rdp.dpState := (congrArg (·.rdp.dpState) h.outside :)

theorem trans (h : Plots op p s t) (h' : Plots op p t u) : Plots op p s u where
  outside := by
    have h1 := h.outside
    have h2 := h'.outside
    rw [← h1, ← h2]
  elsewhere k hk := ⟨(h'.elsewhere k hk).1.trans (h.elsewhere k hk).1, (h'.elsewhere k hk).2.trans (h.elsewhere k hk).2⟩
  depth hop := (h'.depth hop).trans (h.depth hop)

theorem mono (h : Plots op p s t) (hpq : ∀ k, p k → q k) : Plots op q s t :=
  ⟨h.outside, fun k hk => h.elsewhere k (mt (hpq k) hk), h.depth⟩

/-- The colour does not depend on the buffers. -/
theorem plotted (h : Plots op p s t) : plotted t op = plotted s op := by
  have hshade : triShade t op = triShade s op := by
    funext v
    rw [triShade, triShade, h.cfg, h.dpState]
  unfold Sys2Proof.Machine.plotted
  rw [hshade]

theorem plot (op : BitVec 8) (px py : Nat) (v : Vertex) (s : State) :
    Plots op (· = py * s.rdp.fbWidth + px) s (plot op px py v s) := by
  unfold Machine.plot
  split
  · next hop =>
    dsimp only
    split
    · exact ⟨rfl, fun k hk => ⟨Store.get_set_ne _ _ _ hk, Store.get_set_ne _ _ _ hk⟩, by simp [hop]⟩
    · exact refl ..
  · exact ⟨rfl, fun k hk => ⟨Store.get_set_ne _ _ _ hk, rfl⟩, fun _ => rfl⟩

theorem cellAt {x y : Nat} (h : Plots op p s t) (hk : ¬p (y * s.rdp.fbWidth + x)) : cellAt t x y = cellAt s x y := by
  obtain ⟨hpixel, hdepth⟩ := h.elsewhere _ hk
  unfold Machine.cellAt pixel depthAt
  rw [h.fbWidth, hpixel, hdepth]

theorem scanPixel {w height px py : Nat} (op : BitVec 8) (l r : Vertex) (s : State) (hw : s.rdp.fbWidth = w) (hx : px < w)
    (hy : py < height) : Plots op (· < w * height) s (scanPixel op l r py px s) := by
  unfold Machine.scanPixel
  split
  · refine (plot op px py _ s).mono fun k hk => ?_
    rw [hk, hw]
    exact place_lt (x := px + 1) hx hy
  · exact refl ..

end Plots

theorem cellAt_plot (op : BitVec 8) (px py : Nat) (v : Vertex) (s : State) :
    cellAt (plot op px py v s) px py = plotted s op v (cellAt s px py) := by
  unfold plot plotted
  split
  · dsimp only
    split
    · next h => exact (Prod.ext (Store.get_set_same ..) (Store.get_set_same ..)).trans (if_pos h).symm
    · next h => exact (if_neg h).symm
  · exact Prod.ext (Store.get_set_same ..) rfl

/-- What `scanPixel` makes of its pixel and its depth (R1012). -/
def scanned (s : State) (op : BitVec 8) (l r : Vertex) (x : Nat) (c : Word × Word) : Word × Word :=
  if l.x ≤ (x : Rat) ∧ (x : Rat) < r.x then plotted s op (between l r (((x : Rat) - l.x) / (r.x - l.x))) c else c

section Rows

variable {op : BitVec 8} {a b c : Vertex} {s t : State} {w height x y : Nat}

theorem Plots.scanned {p : Nat → Prop} {l r : Vertex} (h : Plots op p s t) : scanned t op l r = scanned s op l r := by
  unfold Machine.scanned
  rw [h.plotted]

theorem cellAt_scanPixel {l r : Vertex} {px py : Nat} (hw : s.rdp.fbWidth = w) (hpx : px < w) (hx : x < w) :
    cellAt (scanPixel op l r py px s) x y = if y = py ∧ x = px then scanned s op l r px (cellAt s x y) else cellAt s x y := by
  unfold scanPixel Machine.scanned
  by_cases hxy : y = py ∧ x = px
  · rw [if_pos hxy]
    obtain ⟨rfl, rfl⟩ := hxy
    split
    · exact cellAt_plot ..
    · rfl
  · rw [if_neg hxy]
    split
    · exact (Plots.plot ..).cellAt fun h => hxy (place_inj hx hpx (hw ▸ h))
    · rfl

/-- The first `n` pixels of a scanline (R1012). -/
def scanPixels (op : BitVec 8) (l r : Vertex) (py : Nat) (s : State) (n : Nat) : State :=
  (List.range n).foldl (fun s' px => scanPixel op l r py px s') s

theorem scanPixels_succ (op : BitVec 8) (l r : Vertex) (py : Nat) (s : State) (n : Nat) :
    scanPixels op l r py s (n + 1) = scanPixel op l r py n (scanPixels op l r py s n) := by
  rw [scanPixels, List.range_succ, List.foldl_append]
  rfl

theorem plots_scanPixels {l r : Vertex} {py n : Nat} (hw : s.rdp.fbWidth = w) (hn : n ≤ w) (hy : py < height) :
    Plots op (· < w * height) s (scanPixels op l r py s n) := by
  induction n with
  | zero => exact .refl ..
  | succ n ih =>
    rw [scanPixels_succ]
    have h := ih (by omega)
    exact h.trans (.scanPixel op l r _ (h.fbWidth.trans hw) hn hy)

theorem cellAt_scanPixels {l r : Vertex} {py n : Nat} (hw : s.rdp.fbWidth = w) (hn : n ≤ w) (hx : x < w) :
    cellAt (scanPixels op l r py s n) x y =
      if y = py ∧ x < n then scanned s op l r x (cellAt s x y) else cellAt s x y := by
  induction n with
  | zero => exact (if_neg (by simp)).symm
  | succ n ih =>
    have h := plots_scanPixels (op := op) (l := l) (r := r) (n := n) hw (by omega) (Nat.lt_succ_self py)
    rw [scanPixels_succ, cellAt_scanPixel (h.fbWidth.trans hw) hn hx, h.scanned, ih (by omega)]
    by_cases hxn : y = py ∧ x = n
    · obtain ⟨rfl, rfl⟩ := hxn
      rw [if_pos ⟨rfl, rfl⟩, if_neg (by simp), if_pos ⟨rfl, Nat.lt_succ_self x⟩]
    · rw [if_neg hxn]
      exact if_congr (by omega) rfl rfl

/-- What a triangle makes of a pixel and its depth. -/
def painted (s : State) (op : BitVec 8) (a b c : Vertex) (x y : Nat) (cell : Word × Word) : Word × Word :=
  match coveringPoint a b c x y with
  | none => cell
  | some p => plotted s op p cell

theorem Plots.painted {p : Nat → Prop} (h : Plots op p s t) : painted t op a b c = painted s op a b c := by
  unfold Machine.painted
  rw [h.plotted]

/-- The point of the long edge and the point of the short edges on the scanline `py` (R1012). -/
def edges (a b c : Vertex) (py : Nat) : Vertex × Vertex :=
  (between a c (((py : Rat) - a.y) / (c.y - a.y)),
    if (py : Rat) < b.y then between a b (((py : Rat) - a.y) / (b.y - a.y))
    else between b c (((py : Rat) - b.y) / (c.y - b.y)))

/-- The left one of the two edges' points. -/
def leftEdge (a b c : Vertex) (py : Nat) : Vertex :=
  if (edges a b c py).1.x ≤ (edges a b c py).2.x then (edges a b c py).1 else (edges a b c py).2

/-- The right one. -/
def rightEdge (a b c : Vertex) (py : Nat) : Vertex :=
  if (edges a b c py).1.x ≤ (edges a b c py).2.x then (edges a b c py).2 else (edges a b c py).1

theorem scanLine_of_mem (op : BitVec 8) (s : State) {py : Nat} (h : a.y ≤ (py : Rat) ∧ (py : Rat) < c.y) :
    scanLine op a b c py s = scanPixels op (leftEdge a b c py) (rightEdge a b c py) py s s.rdp.fbWidth := if_pos h

theorem scanned_edges {py : Nat} (h : a.y ≤ (py : Rat) ∧ (py : Rat) < c.y) (x : Nat) :
    scanned s op (leftEdge a b c py) (rightEdge a b c py) x = painted s op a b c x py := by
  funext cell
  obtain ⟨htop, hbottom⟩ := h
  by_cases hx : (leftEdge a b c py).x ≤ (x : Rat) ∧ (x : Rat) < (rightEdge a b c py).x
  · rw [painted, show coveringPoint a b c x py = some _ from if_pos ⟨htop, hbottom, hx⟩]
    exact if_pos hx
  · rw [painted, show coveringPoint a b c x py = none from if_neg fun h => hx h.2.2]
    exact if_neg hx

theorem painted_of_not {py : Nat} (h : ¬(a.y ≤ (py : Rat) ∧ (py : Rat) < c.y)) (x : Nat) (cell : Word × Word) :
    painted s op a b c x py cell = cell := by
  rw [painted, show coveringPoint a b c x py = none from if_neg fun hc => h ⟨hc.1, hc.2.1⟩]

theorem scanLine_of_not (op : BitVec 8) (b : Vertex) (s : State) {py : Nat} (h : ¬(a.y ≤ (py : Rat) ∧ (py : Rat) < c.y)) :
    scanLine op a b c py s = s := if_neg h

theorem plots_scanLine {py : Nat} (hw : s.rdp.fbWidth = w) (hy : py < height) :
    Plots op (· < w * height) s (scanLine op a b c py s) := by
  by_cases h : a.y ≤ (py : Rat) ∧ (py : Rat) < c.y
  · rw [scanLine_of_mem op s h]
    exact plots_scanPixels hw hw.le hy
  · rw [scanLine_of_not op b s h]
    exact .refl ..

theorem cellAt_scanLine {py : Nat} (hx : x < s.rdp.fbWidth) :
    cellAt (scanLine op a b c py s) x y =
      if y = py then painted s op a b c x y (cellAt s x y) else cellAt s x y := by
  by_cases h : a.y ≤ (py : Rat) ∧ (py : Rat) < c.y
  · rw [scanLine_of_mem op s h, cellAt_scanPixels rfl le_rfl hx]
    rw [if_congr (and_iff_left hx) rfl rfl]
    by_cases hy : y = py
    · subst hy
      rw [if_pos rfl, if_pos rfl, scanned_edges h]
    · rw [if_neg hy, if_neg hy]
  · rw [scanLine_of_not op b s h]
    by_cases hy : y = py
    · subst hy
      rw [if_pos rfl, painted_of_not h]
    · rw [if_neg hy]

/-- The first `n` scanlines of a triangle. -/
def scanLines (op : BitVec 8) (a b c : Vertex) (s : State) (n : Nat) : State :=
  (List.range n).foldl (fun s' py => scanLine op a b c py s') s

theorem scanLines_succ (op : BitVec 8) (a b c : Vertex) (s : State) (n : Nat) :
    scanLines op a b c s (n + 1) = scanLine op a b c n (scanLines op a b c s n) := by
  rw [scanLines, List.range_succ, List.foldl_append]
  rfl

theorem plots_scanLines {n : Nat} (hn : n ≤ height) :
    Plots op (· < s.rdp.fbWidth * height) s (scanLines op a b c s n) := by
  induction n with
  | zero => exact .refl ..
  | succ n ih =>
    rw [scanLines_succ]
    have h := ih (by omega)
    exact h.trans (plots_scanLine h.fbWidth hn)

theorem cellAt_scanLines {n : Nat} (hx : x < s.rdp.fbWidth) :
    cellAt (scanLines op a b c s n) x y =
      if y < n then painted s op a b c x y (cellAt s x y) else cellAt s x y := by
  induction n with
  | zero => rfl
  | succ n ih =>
    have h := plots_scanLines (op := op) (a := a) (b := b) (c := c) (s := s) (le_refl n)
    rw [scanLines_succ, cellAt_scanLine (h.fbWidth.symm ▸ hx), h.painted, ih]
    by_cases hy : y = n
    · subst hy
      rw [if_pos rfl, if_neg (Nat.lt_irrefl y), if_pos (Nat.lt_succ_self y)]
    · rw [if_neg hy]
      exact if_congr (by omega) rfl rfl

end Rows

theorem clamp_eq_max_min (hi i : Int) (h : 0 ≤ hi) : clamp 0 hi i = max 0 (min hi i) := by
  rw [clamp]
  omega

/-- A triangle's depth, floored and clamped, as the bits that the buffer holds. -/
theorem toNat_depth (p : Vertex) :
    ((BitVec.ofInt 32 (clampFloor p.z 0xFFFFFFFF)).toNat : Int) = max 0 (min 0xFFFFFFFF p.z.floor) := by
  rw [clampFloor, clamp_eq_max_min _ _ (by decide), BitVec.toNat_ofInt]
  omega

theorem triShade_eq (s : State) (op : BitVec 8) (p : Vertex) :
    triShade s op p = match s.cfg.triShade with
      | .supplied => Config.triShadeSupplied op p s.rdp.dpState
      | .vertexColour => colourByte p.r ++ colourByte p.g ++ colourByte p.b ++ colourByte p.a := by
  have hbyte (r : Rat) : BitVec.ofInt 8 (clampFloor r 255) = colourByte r := by
    rw [clampFloor, clamp_eq_max_min _ _ (by decide), colourByte]
  unfold triShade
  simp only [hbyte]
  cases s.cfg.triShade <;> rfl

/-- What a covered pixel takes: its colour, and its depth where the op tests it (R1013). -/
theorem plotted_cases (s : State) (op : BitVec 8) (p : Vertex) (c : Word × Word) :
    let z := max 0 (min 0xFFFFFFFF p.z.floor)
    (op.getLsbD 0 = false → plotted s op p c = (triShade s op p, c.2)) ∧
    (op.getLsbD 0 = true → z < c.2.toNat →
      (plotted s op p c).1 = triShade s op p ∧ ((plotted s op p c).2.toNat : Int) = z) ∧
    (op.getLsbD 0 = true → ¬z < c.2.toNat → plotted s op p c = c) := by
  intro z
  have hz : BitVec.ofInt 32 (clampFloor p.z 0xFFFFFFFF) < c.2 ↔ z < c.2.toNat := by
    rw [BitVec.lt_def, ← Int.ofNat_lt, toNat_depth]
  unfold plotted
  refine ⟨fun hop => if_neg (Bool.eq_false_iff.mp hop), fun hop hlt => ?_, fun hop hge => ?_⟩
  · rw [if_pos hop, if_pos (hz.mpr hlt)]
    exact ⟨rfl, toNat_depth p⟩
  · rw [if_pos hop, if_neg (mt hz.mp hge)]

/-- A triangle, pixel by pixel: what it paints, from its vertices sorted. -/
theorem drawTriangle_cells (op : BitVec 8) (v : Fin 3 → Vertex) (s : State) :
    ∃ order, sortsByY v order ∧ Plots op (· < s.rdp.fbWidth * s.rdp.fbHeight) s (drawTriangle op (v 0, v 1, v 2) s) ∧
      ∀ x y, x < s.rdp.fbWidth → y < s.rdp.fbHeight → cellAt (drawTriangle op (v 0, v 1, v 2) s) x y =
        painted s op (v (order 0)) (v (order 1)) (v (order 2)) x y (cellAt s x y) := by
  obtain ⟨order, hsorts, hsort⟩ := exists_sortsByY v
  have hdraw : drawTriangle op (v 0, v 1, v 2) s =
      scanLines op (v (order 0)) (v (order 1)) (v (order 2)) s s.rdp.fbHeight := by
    rw [drawTriangle, hsort]
    rfl
  rw [hdraw]
  exact ⟨order, hsorts, plots_scanLines le_rfl, fun x y hx hy => (cellAt_scanLines hx).trans (if_pos hy)⟩

theorem painted_of_none {s : State} {op : BitVec 8} {a b c : Vertex} {x y : Nat} (h : coveringPoint a b c x y = none)
    (cell : Word × Word) : painted s op a b c x y cell = cell := by
  rw [painted, h]

theorem painted_of_some {s : State} {op : BitVec 8} {a b c p : Vertex} {x y : Nat}
    (h : coveringPoint a b c x y = some p) (cell : Word × Word) :
    painted s op a b c x y cell = plotted s op p cell := by
  rw [painted, h]

/-- Settles O50. -/
theorem triangles : Obligations.Triangles := by
  intro payload rest s draws
  have hdraws {i : BitVec 56 → List Dword → Instr} {op : BitVec 8}
      (h : exec (i payload rest) s = triangle op payload rest s) : draws i op := by
    unfold triangle at h
    refine ⟨fun hrefuse => by rw [stops, h, hrefuse], fun hsupplied => ?_⟩
    rw [hsupplied] at h
    obtain ⟨order, hsorts, hplots, hcells⟩ := drawTriangle_cells op (fun k : Fin 3 =>
      if k = 0 then (Config.triDecodeSupplied op ((op ++ payload) :: rest)).1
      else if k = 1 then (Config.triDecodeSupplied op ((op ++ payload) :: rest)).2.1
      else (Config.triDecodeSupplied op ((op ++ payload) :: rest)).2.2) s
    refine ⟨order, hsorts, _, h, fun x y hx hy => ?_, hplots.depth, fun k hk => hplots.elsewhere k (Nat.not_lt.mpr hk),
      hplots.outside, fun a => (congrArg (Memory.byte ·.mem a) hplots.outside :)⟩
    have hcell := hcells x y hx hy
    split
    · next hnone =>
      rw [painted_of_none hnone] at hcell
      exact Prod.ext_iff.mp hcell
    · next p hsome =>
      rw [painted_of_some hsome] at hcell
      obtain ⟨hdraw, hpass, hfail⟩ := plotted_cases s op p (cellAt s x y)
      refine ⟨fun htest => ?_, fun htest hz => ?_, fun htest hz => ?_⟩
      · obtain ⟨hpixel, hdepth⟩ := Prod.ext_iff.mp (hcell.trans (hdraw htest))
        exact ⟨hpixel.trans (triShade_eq s op p), hdepth⟩
      · obtain ⟨hpixel, hdepth⟩ := hpass htest hz
        rw [← hcell] at hpixel hdepth
        exact ⟨hpixel.trans (triShade_eq s op p), hdepth⟩
      · exact Prod.ext_iff.mp (hcell.trans (hfail htest hz))
  exact ⟨hdraws rfl, hdraws rfl, hdraws rfl, hdraws rfl, hdraws rfl, hdraws rfl, hdraws rfl, hdraws rfl⟩

/-! ## The flush -/

theorem commandLength_pos (op : BitVec 8) : 1 ≤ commandLength op := by
  unfold commandLength
  split <;> decide

/-- The cut of a stream (R1003), given enough steps. -/
theorem cutCommands_spec (n : Nat) (ws : List Dword) (hn : ws.length ≤ n) :
    ∃ dropped, (cutCommands n ws).flatten ++ dropped = ws ∧
      (∀ c ∈ cutCommands n ws, ∃ w rest, c = w :: rest ∧ c.length = commandLength (commandOp w)) ∧
      ∀ w rest, dropped = w :: rest → dropped.length < commandLength (commandOp w) := by
  induction n generalizing ws with
  | zero =>
    obtain rfl := List.length_eq_zero_iff.mp (Nat.le_zero.mp hn)
    exact ⟨[], rfl, by simp [cutCommands], by simp⟩
  | succ n ih =>
    cases ws with
    | nil => exact ⟨[], rfl, by simp [cutCommands], by simp⟩
    | cons w rest =>
      have hpos := commandLength_pos (commandOp w)
      rw [cutCommands]
      by_cases hk : commandLength (commandOp w) ≤ rest.length + 1
      · rw [if_pos hk]
        obtain ⟨dropped, hcut, hall, hdropped⟩ := ih ((w :: rest).drop (commandLength (commandOp w))) (by
          rw [List.length_drop]
          simp only [List.length_cons] at hn ⊢
          omega)
        refine ⟨dropped, ?_, fun c hc => ?_, hdropped⟩
        · rw [List.flatten_cons, List.append_assoc, hcut, List.take_append_drop]
        · rcases List.mem_cons.mp hc with rfl | hc
          · obtain ⟨k, hlength⟩ := Nat.exists_eq_add_of_le' hpos
            refine ⟨w, rest.take k, by rw [hlength, List.take_succ_cons], ?_⟩
            rw [List.length_take, List.length_cons, Nat.min_eq_left hk]
          · exact hall c hc
      · rw [if_neg hk]
        refine ⟨w :: rest, rfl, by simp, fun w' rest' h => ?_⟩
        obtain ⟨rfl, rfl⟩ := List.cons.inj h
        exact Nat.lt_of_not_le hk

/-- Settles O51. -/
theorem flushCutsTheStream : Obligations.FlushCutsTheStream := by
  intro s hrefused hphase
  obtain ⟨dropped, hcut, hall, hdropped⟩ := cutCommands_spec s.rdp.stream.length s.rdp.stream le_rfl
  refine ⟨streamCommands s, dropped, ?_, hcut, hall, hdropped⟩
  have hclear : (streamCommands s).any (isClearDirective s.cfg) =
      (streamCommands s).any fun ws => (ws.headD 0).extractLsb' 56 8 == s.cfg.clearDirective := by
    have hop (ws) (hws : ws ∈ streamCommands s) :
        isClearDirective s.cfg ws = ((ws.headD 0).extractLsb' 56 8 == s.cfg.clearDirective) := by
      obtain ⟨w, rest, rfl, -⟩ := hall ws hws
      rfl
    rw [Bool.eq_iff_iff, List.any_eq_true, List.any_eq_true]
    exact exists_congr fun ws => and_congr_right fun hws => by rw [hop ws hws]
  rw [step_flush hrefused hphase, ← hclear]
  rfl

end Sys2Proof.Machine
end

section
/-! PROOFS. Reset and boot (spec/70_reset_and_hazards.md section 1). -/

namespace Sys2Proof.Machine

/-! ## The boot copy (R903) -/

/-- `m` with the bytes `f 0` to `f (n - 1)` set from `base` on. -/
def setBytes (base : Nat) (f : Nat → Byte) (m : List Host.Cell) (n : Nat) : List Host.Cell :=
  (List.range n).foldl (fun m' k => Memory.setByte m' (base + k) (f k)) m

section SetBytes

variable {base : Nat} {f : Nat → Byte} {m : List Host.Cell}

theorem setBytes_succ (base : Nat) (f : Nat → Byte) (m : List Host.Cell) (n : Nat) :
    setBytes base f m (n + 1) = Memory.setByte (setBytes base f m n) (base + n) (f n) := by
  rw [setBytes, List.range_succ, List.foldl_append]
  rfl

theorem byte_setBytes (n a : Nat) :
    Memory.byte (setBytes base f m n) a = if base ≤ a ∧ a < base + n then f (a - base) else Memory.byte m a := by
  induction n with
  | zero => exact (if_neg (by omega)).symm
  | succ n ih =>
    rw [setBytes_succ]
    by_cases ha : a = base + n
    · subst ha
      rw [Memory.byte_setByte_same, if_pos (by omega), Nat.add_sub_cancel_left]
    · rw [Memory.byte_setByte_ne _ _ ha, ih]
      exact if_congr (by omega) rfl rfl

theorem wf_setBytes (h : Memory.wf m = true) (n : Nat) : Memory.wf (setBytes base f m n) = true := by
  induction n with
  | zero => exact h
  | succ n ih =>
    rw [setBytes_succ]
    exact Memory.wf_setByte _ _ ih

/-- Zero bytes set in an empty store leave it empty. -/
theorem setBytes_of_zero (h : ∀ k, f k = 0) (n : Nat) : setBytes base f [] n = [] := by
  induction n with
  | zero => rfl
  | succ n ih =>
    rw [setBytes_succ, ih, h]
    rfl

end SetBytes

theorem romByte_default (k : Nat) : romByte defaultConfig k = 0 := ite_self _

/-! ## The state after reset -/

section Boot

variable {c : Config}

theorem boot_of_valid (hcopy : c.bootCopyLen ≤ c.romSize) (hrom : 0x40 ≤ c.romSize) : boot c = .next (bootState c) :=
  if_pos (by simp [romValid, hcopy, hrom])

theorem boot_of_invalid (h : c.romSize < c.bootCopyLen ∨ c.romSize < 0x40) : boot c = .fault .invalidRomImage :=
  if_neg (by
    simp only [romValid, Bool.and_eq_true, decide_eq_true_eq]
    omega)

/-- Reset under the default configuration is the state that the model names. -/
theorem bootState_default : bootState defaultConfig = State.reset := by
  have hmem : bootMemory defaultConfig = [] := setBytes_of_zero romByte_default _
  rw [bootState, hmem]
  rfl

theorem canonical_bootState (c : Config) : Canonical (bootState c) := ⟨wf_setBytes rfl _, rfl, rfl, rfl⟩

theorem busyMatches_bootState (c : Config) : BusyMatches (bootState c) := by
  intro o
  cases o <;> rfl

theorem sane_bootState (hcount : 1 ≤ c.countDiv) (hframe : 1 ≤ c.ticksPerFrame)
    (hmode : kernelMode (bootState c) = true) : Sane (bootState c) where
  status := by
    show c.statusReset &&& statusMask &&& 0x00A80000 = 0
    rw [BitVec.and_assoc]
    exact BitVec.and_zero
  mode := hmode
  cause := BitVec.zero_and
  config := by
    show (c.configReset ^^^ c.configReset) &&& 0xFFFFFFF0 = 0
    rw [BitVec.xor_self]
    exact BitVec.zero_and
  watchLo := BitVec.zero_and
  watchHi := BitVec.zero_and
  fcr31 := BitVec.zero_and
  pending h := absurd rfl h
  vuPending h := absurd rfl h
  vuPc := rfl
  vuTarget _ h := nomatch h
  countPhase := hcount
  framePhase := hframe

end Boot

/-- Settles O60. -/
theorem resetAndBoot : Obligations.ResetAndBoot := by
  unfold Obligations.ResetAndBoot
  intro r
  have hboot : boot r.cfg = .next r := (boot_of_valid (by decide) (by decide)).trans (congrArg _ bootState_default)
  have hcanonical := canonical_bootState defaultConfig
  have hbusy := busyMatches_bootState defaultConfig
  have hsane := sane_bootState (c := defaultConfig) (by decide) (by decide) rfl
  rw [bootState_default] at hcanonical hbusy hsane
  have hzero {α : Type} (x : α) (i : Reg) : Regs.get (Vector.replicate 32 x) i = x := Vector.getElem_replicate _
  refine ⟨hcanonical, hsane, hbusy, hboot, fun i => ?_, rfl, rfl, rfl, rfl, rfl, rfl, rfl, rfl, hzero _, rfl, fun i => ?_,
    rfl, rfl, rfl, fun i l => ⟨?_, ?_⟩, rfl, rfl, rfl, rfl, rfl, rfl, rfl, fun _ _ => ⟨rfl, rfl⟩, rfl, fun _ => rfl, rfl,
    rfl, rfl, rfl, rfl, rfl, rfl, rfl, rfl, rfl, rfl, rfl, rfl, rfl, rfl, rfl, rfl, fun _ => rfl, rfl, fun c hlo hhi =>
    ⟨boot_of_invalid, fun hcopy hrom => ⟨bootState c, boot_of_valid hcopy hrom, rfl, fun i => rfl, rfl, rfl, rfl, rfl, rfl,
      fun a => ?_, rfl, canonical_bootState c, busyMatches_bootState c, sane_bootState⟩⟩⟩
  · exact (congrArg (if i = 0 then 0 else ·) (hzero (0 : Dword) i)).trans (ite_self _)
  · exact (congrArg (if i = 0 then 0 else ·) (hzero (0 : Word) i)).trans (ite_self _)
  · exact (congrArg (·[l.val]) (hzero (Vector.replicate 8 (0 : Half)) i)).trans (Vector.getElem_replicate _)
  · exact Vector.getElem_replicate _
  · refine (byte_setBytes c.bootCopyLen a).trans ?_
    by_cases ha : 0x04000000 ≤ a ∧ a < 0x04000000 + c.bootCopyLen
    · exact (if_pos ha).trans ((if_pos (by simp only [dmemBase]; omega)).trans (if_pos ha).symm)
    · exact (if_neg ha).trans (if_neg ha).symm

end Sys2Proof.Machine
end

section
/-! PROOFS. The device registers, through the bus (spec/20_memory.md sections 4 and 5, spec/60_exceptions.md
section 3). -/

namespace Sys2Proof.Machine

section Registers

variable {s : State} {pa : Word} {g : RegGroup} {off : Nat}

/-- Where a register group lies, whatever RDRAM_SIZE is. -/
theorem region_of_registers (h : region .mib4 pa.toNat = .registers g off ∧ region .mib8 pa.toNat = .registers g off) :
    region s.cfg.rdramSize pa.toNat = .registers g off := by
  cases s.cfg.rdramSize
  · exact h.1
  · exact h.2

theorem memRead_of_register (h : region .mib4 pa.toNat = .registers g off ∧ region .mib8 pa.toNat = .registers g off)
    (hoff : off % 4 = 0) (hsem : ¬(g = .sp ∧ off = 0x1C)) : memRead s pa 4 = (zext32 (regValue s g off), s) := by
  rw [memRead_of_registers (region_of_registers h) (by decide), Nat.div_mul_cancel (Nat.dvd_of_mod_eq_zero hoff)]
  exact Prod.ext rfl (if_neg hsem)

theorem memWrite_of_register (h : region .mib4 pa.toNat = .registers g off ∧ region .mib8 pa.toNat = .registers g off)
    (v : Word) : memWrite s pa 4 (zext32 v) = .ok (regWrite s g off v) := by
  rw [memWrite_word_of_registers (region_of_registers h), lo32_zext32]

end Registers

theorem spStatus_bits (s : State) :
    (spStatus s).getLsbD 0 = s.sp.halt ∧ (spStatus s).getLsbD 1 = s.sp.broke ∧ (spStatus s).getLsbD 2 = s.busy.sp ∧
      (spStatus s).getLsbD 5 = s.sp.sstep ∧ (spStatus s).getLsbD 6 = s.sp.intrOnBreak ∧
      (∀ k < 8, (spStatus s).getLsbD (7 + k) = s.sp.signal.getLsbD k) ∧
      ∀ k, (k = 3 ∨ k = 4 ∨ 15 ≤ k) → (spStatus s).getLsbD k = false := by
  have hbit (b : Bool) : (bit 1 b).getLsbD 0 = b := by cases b <;> rfl
  simp only [spStatus, BitVec.getLsbD_append]
  refine ⟨hbit _, hbit _, hbit _, hbit _, hbit _, fun k hk => ?_, fun k hk => ?_⟩
  · rw [if_neg (by omega), if_neg (by omega), if_neg (by omega), if_neg (by omega), if_neg (by omega), if_neg (by omega),
      if_pos (by omega), show 7 + k - 1 - 1 - 1 - 2 - 1 - 1 = k by omega]
  · rcases hk with rfl | rfl | hk
    · rfl
    · rfl
    · rw [if_neg (by omega), if_neg (by omega), if_neg (by omega), if_neg (by omega), if_neg (by omega),
        if_neg (by omega), if_neg (by omega)]
      exact BitVec.getLsbD_zero

theorem miInitMode_bits (s : State) :
    let w := regValue s .mi 0
    w.extractLsb' 0 7 = s.mi.initLength ∧ w.getLsbD 7 = s.mi.initMode ∧ w.getLsbD 8 = s.mi.ebusTest ∧
      w.getLsbD 9 = s.mi.rdramReg ∧ ∀ k, 10 ≤ k → w.getLsbD k = false := by
  have hbit (b : Bool) : (bit 1 b).getLsbD 0 = b := by cases b <;> rfl
  intro w
  have hw (k : Nat) : w.getLsbD k =
      if k < 7 then s.mi.initLength.getLsbD k else if k - 7 < 1 then (bit 1 s.mi.initMode).getLsbD (k - 7)
      else if k - 7 - 1 < 1 then (bit 1 s.mi.ebusTest).getLsbD (k - 7 - 1)
      else if k - 7 - 1 - 1 < 1 then (bit 1 s.mi.rdramReg).getLsbD (k - 7 - 1 - 1)
      else (0 : BitVec 22).getLsbD (k - 7 - 1 - 1 - 1) := by
    simp only [w, regValue, miRead, BitVec.getLsbD_append]
  refine ⟨?_, (hw 7).trans (hbit _), (hw 8).trans (hbit _), (hw 9).trans (hbit _), fun k hk => ?_⟩
  · apply BitVec.eq_of_getLsbD_eq
    intro k hk
    rw [BitVec.getLsbD_extractLsb', Nat.zero_add, hw, if_pos hk]
    simp [hk]
  · rw [hw, if_neg (by omega), if_neg (by omega), if_neg (by omega), if_neg (by omega)]
    exact BitVec.getLsbD_zero

/-- A write of SP_STATUS, bit by bit (R174). -/
theorem spStatusWrite_bits (s : State) (v : Word) :
    let pair := fun (old : Bool) (k : Nat) => if v.getLsbD k = v.getLsbD (k + 1) then old else v.getLsbD (k + 1)
    let t := spStatusWrite s v
    t.sp.halt = pair s.sp.halt 0 ∧ t.sp.broke = (s.sp.broke && !v.getLsbD 2) ∧ t.sp.sstep = pair s.sp.sstep 5 ∧
      t.sp.intrOnBreak = pair s.sp.intrOnBreak 7 ∧
      (∀ k < 8, t.sp.signal.getLsbD k = pair (s.sp.signal.getLsbD k) (9 + 2 * k)) ∧
      (∀ k < 6, t.mi.intr.getLsbD k = if k = 0 then pair (s.mi.intr.getLsbD 0) 3 else s.mi.intr.getLsbD k) ∧
      { t with
        sp.halt := s.sp.halt, sp.broke := s.sp.broke, sp.sstep := s.sp.sstep, sp.intrOnBreak := s.sp.intrOnBreak,
        sp.signal := s.sp.signal, mi.intr := s.mi.intr } = s := by
  intro pair t
  refine ⟨clearSet_eq_ite .., rfl, clearSet_eq_ite .., clearSet_eq_ite .., fun k hk => ?_, fun k hk => ?_, rfl⟩
  · exact (getLsbD_clearSetBits _ _ _ _ hk).trans ((if_pos hk).trans (clearSet_eq_ite ..))
  · refine (getLsbD_setBit _ _ _ _).trans (if_congr Iff.rfl ?_ rfl)
    exact clearSet_eq_ite ..

/-! ## The submission (R177) -/

/-- A byte of the word that DPC_END takes from the address `a`. -/
theorem byteAt_commandWord {s : State} {a j : Nat} (ha : a < 2 ^ 24) (hj : j < 8) :
    byteAt 8 (commandWord s a) j =
      if s.rdp.xbus then Memory.byte s.mem (0x04000000 + a % 4096 / 8 * 8 + j)
      else if a < rdramBytes s.cfg.rdramSize then Memory.byte s.mem (a + j) else 0 := by
  have hread (b : Nat) : byteAt 8 (Memory.read s.mem b 8) j = Memory.byte s.mem (b + j) := by
    rw [Memory.read_eq_bigEndian, byteAt_bigEndian _ (by decide) hj]
  have hpa : (BitVec.ofNat 32 a).toNat = a := by
    rw [BitVec.toNat_ofNat, Nat.mod_eq_of_lt (by omega)]
  unfold commandWord
  cases s.rdp.xbus with
  | true => exact hread _
  | false =>
    by_cases hram : a < rdramBytes s.cfg.rdramSize
    · have hregion : region s.cfg.rdramSize (BitVec.ofNat 32 a).toNat = .memory := by
        rw [hpa]
        exact if_pos hram
      rw [if_neg (by simp), if_neg (by simp), if_pos hram, memRead_of_memory hregion, hpa]
      exact hread a
    · have hregion : region s.cfg.rdramSize (BitVec.ofNat 32 a).toNat = .unmapped := by
        rw [hpa, region, if_neg hram, if_neg (by omega), if_neg (by omega), if_neg (by omega), if_neg (by omega),
          if_neg (by omega), if_neg (by omega), if_neg (by omega), if_neg (by omega), if_neg (by omega),
          if_neg (by omega), if_neg (by omega), if_neg (by omega), if_neg (by omega)]
      rw [if_neg (by simp), if_neg (by simp), if_neg hram, memRead_of_hole (.inr hregion)]
      simp [byteAt]

/-! ## AI_LEN (R182) -/

theorem aiLength_of_none {s : State} (h : ∀ q ∈ s.dma, q.owner ≠ .ai) : aiLength s = 0 := by
  have hfind : s.dma.find? (fun r => r.owner == .ai) = none := List.find?_eq_none.mpr fun q hq => by simp [h q hq]
  rw [aiLength, hfind]

theorem aiLength_of_first {s : State} {before after : List DmaRequest} {q : DmaRequest}
    (hdma : s.dma = before ++ q :: after) (hbefore : ∀ r ∈ before, r.owner ≠ .ai) (hq : q.owner = .ai) :
    aiLength s = q.len := by
  have hnone : before.find? (fun r => r.owner == .ai) = none := List.find?_eq_none.mpr fun r hr => by simp [hbefore r hr]
  have hfind : s.dma.find? (fun r => r.owner == .ai) = some q := by
    rw [hdma, List.find?_append, hnone, Option.none_or, List.find?_cons_of_pos (by simp [hq])]
  rw [aiLength, hfind]

/-- Settles O53. -/
theorem deviceRegisters : Obligations.DeviceRegisters := by
  intro s v reads writes register silent pair address flag acknowledged
  have hreads {pa : Word} (g : RegGroup) (off : Nat) {value : Word}
      (h : region .mib4 pa.toNat = .registers g off ∧ region .mib8 pa.toNat = .registers g off)
      (hoff : off % 4 = 0 ∧ ¬(g = .sp ∧ off = 0x1C)) (hvalue : regValue s g off = value) : reads pa value :=
    hvalue ▸ memRead_of_register h hoff.1 hoff.2
  have hwrites {pa : Word} (g : RegGroup) (off : Nat) {t : State}
      (h : region .mib4 pa.toNat = .registers g off ∧ region .mib8 pa.toNat = .registers g off)
      (ht : regWrite s g off v = t) : writes pa t := ht ▸ memWrite_of_register h v
  have hreg {pa : Word} (g : RegGroup) (off : Nat) {value : Word} {t : State}
      (h : region .mib4 pa.toNat = .registers g off ∧ region .mib8 pa.toNat = .registers g off)
      (hoff : off % 4 = 0 ∧ ¬(g = .sp ∧ off = 0x1C)) (hvalue : regValue s g off = value) (ht : regWrite s g off v = t) :
      register pa value t := ⟨hreads g off h hoff hvalue, hwrites g off h ht⟩
  have hpair (old : Bool) (k : Nat) : clearSet old (v.getLsbD k) (v.getLsbD (k + 1)) = pair old k := clearSet_eq_ite ..
  have haddress : (address.setWidth 24).toNat = address.toNat := by
    have hle : address.toNat ≤ 0x00FFFFF8 := Nat.and_le_right
    rw [BitVec.toNat_setWidth, Nat.mod_eq_of_lt (by omega)]
  refine ⟨hreg .sp 0x00 ⟨rfl, rfl⟩ (by decide) rfl rfl, hreg .sp 0x04 ⟨rfl, rfl⟩ (by decide) rfl rfl,
    hreads .sp 0x08 ⟨rfl, rfl⟩ (by decide) rfl, hreads .sp 0x0C ⟨rfl, rfl⟩ (by decide) rfl,
    ⟨_, hreads .sp 0x10 ⟨rfl, rfl⟩ (by decide) rfl, spStatus_bits s⟩,
    ⟨_, hwrites .sp 0x10 ⟨rfl, rfl⟩ rfl, spStatusWrite_bits s v⟩, hreg .sp 0x14 ⟨rfl, rfl⟩ (by decide) rfl rfl,
    hreg .sp 0x18 ⟨rfl, rfl⟩ (by decide) rfl rfl, ?_, hwrites .sp 0x1C ⟨rfl, rfl⟩ rfl,
    hreg .spPc 0x00 ⟨rfl, rfl⟩ (by decide) rfl rfl, hreg .spPc 0x04 ⟨rfl, rfl⟩ (by decide) rfl rfl,
    hreg .dp 0x00 ⟨rfl, rfl⟩ (by decide) rfl rfl, hreads .dp 0x04 ⟨rfl, rfl⟩ (by decide) rfl, ?_,
    hreg .dp 0x08 ⟨rfl, rfl⟩ (by decide) rfl rfl, hreg .dp 0x0C ⟨rfl, rfl⟩ (by decide) ?_ ?_,
    hreg .dp 0x10 ⟨rfl, rfl⟩ (by decide) rfl rfl, hreg .dp 0x14 ⟨rfl, rfl⟩ (by decide) rfl rfl,
    hreg .dp 0x18 ⟨rfl, rfl⟩ (by decide) rfl rfl, hreg .dp 0x1C ⟨rfl, rfl⟩ (by decide) rfl rfl,
    ⟨_, hreads .mi 0x00 ⟨rfl, rfl⟩ (by decide) rfl, miInitMode_bits s⟩, hwrites .mi 0x00 ⟨rfl, rfl⟩ ?_,
    hreg .mi 0x04 ⟨rfl, rfl⟩ (by decide) rfl rfl, hreg .mi 0x08 ⟨rfl, rfl⟩ (by decide) rfl rfl,
    hreads .mi 0x0C ⟨rfl, rfl⟩ (by decide) rfl, ⟨_, hwrites .mi 0x0C ⟨rfl, rfl⟩ rfl, fun k hk => ?_, rfl⟩,
    hreg .vi 0x00 ⟨rfl, rfl⟩ (by decide) rfl rfl, hreg .vi 0x04 ⟨rfl, rfl⟩ (by decide) rfl rfl,
    hreg .vi 0x08 ⟨rfl, rfl⟩ (by decide) rfl rfl, hreg .vi 0x0C ⟨rfl, rfl⟩ (by decide) rfl rfl,
    hreg .vi 0x10 ⟨rfl, rfl⟩ (by decide) rfl rfl, hreg .vi 0x14 ⟨rfl, rfl⟩ (by decide) rfl rfl,
    hreg .vi 0x18 ⟨rfl, rfl⟩ (by decide) rfl rfl, hreg .vi 0x1C ⟨rfl, rfl⟩ (by decide) rfl rfl,
    hreg .vi 0x20 ⟨rfl, rfl⟩ (by decide) rfl rfl, hreg .vi 0x24 ⟨rfl, rfl⟩ (by decide) rfl rfl,
    hreg .vi 0x28 ⟨rfl, rfl⟩ (by decide) rfl rfl, hreg .vi 0x2C ⟨rfl, rfl⟩ (by decide) rfl rfl,
    hreg .vi 0x30 ⟨rfl, rfl⟩ (by decide) rfl rfl, hreg .vi 0x34 ⟨rfl, rfl⟩ (by decide) rfl rfl,
    hreg .ai 0x00 ⟨rfl, rfl⟩ (by decide) rfl rfl, fun h => hreads .ai 0x04 ⟨rfl, rfl⟩ (by decide) ?_,
    fun before q after hdma hbefore hq => hreads .ai 0x04 ⟨rfl, rfl⟩ (by decide) ?_,
    hreg .ai 0x08 ⟨rfl, rfl⟩ (by decide) rfl rfl, hreg .ai 0x0C ⟨rfl, rfl⟩ (by decide) ?_ rfl,
    hreg .ai 0x10 ⟨rfl, rfl⟩ (by decide) rfl rfl, hreg .ai 0x14 ⟨rfl, rfl⟩ (by decide) rfl rfl,
    hreg .pi 0x00 ⟨rfl, rfl⟩ (by decide) rfl rfl, hreg .pi 0x04 ⟨rfl, rfl⟩ (by decide) rfl rfl,
    hreads .pi 0x08 ⟨rfl, rfl⟩ (by decide) rfl, hreads .pi 0x0C ⟨rfl, rfl⟩ (by decide) rfl,
    hreg .pi 0x10 ⟨rfl, rfl⟩ (by decide) ?_ rfl, hreg .pi 0x14 ⟨rfl, rfl⟩ (by decide) rfl rfl,
    hreg .pi 0x18 ⟨rfl, rfl⟩ (by decide) rfl rfl, hreg .pi 0x1C ⟨rfl, rfl⟩ (by decide) rfl rfl,
    hreg .pi 0x20 ⟨rfl, rfl⟩ (by decide) rfl rfl, hreg .pi 0x24 ⟨rfl, rfl⟩ (by decide) rfl rfl,
    hreg .pi 0x28 ⟨rfl, rfl⟩ (by decide) rfl rfl, hreg .pi 0x2C ⟨rfl, rfl⟩ (by decide) rfl rfl,
    hreg .pi 0x30 ⟨rfl, rfl⟩ (by decide) rfl rfl, hreg .ri 0x00 ⟨rfl, rfl⟩ (by decide) rfl rfl,
    hreg .ri 0x04 ⟨rfl, rfl⟩ (by decide) rfl rfl, hreg .ri 0x08 ⟨rfl, rfl⟩ (by decide) rfl rfl,
    hreg .ri 0x0C ⟨rfl, rfl⟩ (by decide) rfl rfl, hreg .ri 0x10 ⟨rfl, rfl⟩ (by decide) rfl rfl,
    hreg .ri 0x14 ⟨rfl, rfl⟩ (by decide) rfl rfl, hreg .ri 0x18 ⟨rfl, rfl⟩ (by decide) rfl rfl,
    hreg .ri 0x1C ⟨rfl, rfl⟩ (by decide) rfl rfl, hreg .si 0x00 ⟨rfl, rfl⟩ (by decide) rfl rfl,
    hreads .si 0x04 ⟨rfl, rfl⟩ (by decide) rfl, hreads .si 0x10 ⟨rfl, rfl⟩ (by decide) rfl,
    hreg .si 0x08 ⟨rfl, rfl⟩ (by decide) rfl rfl, hreg .si 0x0C ⟨rfl, rfl⟩ (by decide) rfl rfl,
    hreg .si 0x14 ⟨rfl, rfl⟩ (by decide) rfl rfl, hreg .si 0x18 ⟨rfl, rfl⟩ (by decide) ?_ rfl⟩
  · rw [memRead_semaphore]
    cases s.sp.semaphore <;> rfl
  · refine ⟨commandWords s s.rdp.dpcCurrent.toNat (address.setWidth 24).toNat, hwrites .dp 0x04 ⟨rfl, rfl⟩ rfl, ?_, ?_⟩
    · rw [commandWords, List.length_map, List.length_range, haddress]
    · intro k hk
      rw [commandWords, List.length_map, List.length_range, haddress] at hk
      have hlt : address.toNat < 2 ^ 24 := haddress ▸ (address.setWidth 24).isLt
      refine ⟨commandWord s (s.rdp.dpcCurrent.toNat + 8 * k), ?_, fun j hj => byteAt_commandWord (by omega) hj⟩
      simp [commandWords, haddress, hk]
  · cases hxbus : s.rdp.xbus <;> simp [regValue, dpRead, hxbus, bit]
  · show dpWrite s 0x0C v = _
    rw [← hpair]
    rfl
  · show miWrite s 0x00 v = _
    rw [miWrite, hpair, hpair, hpair]
    cases v.getLsbD 11 <;> rfl
  · exact (getLsbD_clearSetBits _ _ _ _ hk).trans ((if_pos hk).trans (by rw [Nat.zero_add, hpair]))
  · show BitVec.ofNat 32 (aiLength s) = 0
    rw [aiLength_of_none h]
    rfl
  · show BitVec.ofNat 32 (aiLength s) = _
    rw [aiLength_of_first hdma hbefore hq]
  · cases hbusy : s.busy.ai <;> simp [regValue, aiRead, hbusy, bit]
  · cases hbusy : s.busy.pi <;> cases hintr : s.mi.intr.getLsbD 4 <;>
      simp only [regValue, piRead, hbusy, hintr, bit, flag] <;> rfl
  · cases hbusy : s.busy.si <;> cases hintr : s.mi.intr.getLsbD 1 <;>
      simp only [regValue, siRead, hbusy, hintr, bit, flag] <;> rfl

end Sys2Proof.Machine
end

section
/-! PROOFS. DMA: the requests that trigger writes make, and their completion (spec/20_memory.md sections 5 and 6). -/

namespace Sys2Proof.Machine

/-! ## Requests (R201 to R203) -/

section Requests

variable {s : State} {o : DmaOwner} {src dst : DmaPlace} {len rows skip : Nat}

theorem startDma_of_busy (h : busy s o = true) : startDma s o src dst len rows skip = s := if_pos h

theorem startDma_of_idle (h : busy s o = false) :
    startDma s o src dst len rows skip =
      { setBusy s o true with
        dma := s.dma ++ [{
          owner := o, src := src, dst := dst, len := len, rows := rows, skip := skip,
          deadline := s.clock.tick + s.cfg.dmaDelayTicks }] } := by
  rw [startDma, if_neg (by simp [h])]
  cases o <;> rfl

end Requests

theorem spDmaLen_eq (v : Word) : spDmaLen v = (v.toNat % 4096 ||| 7) + 1 := by
  rw [spDmaLen, BitVec.toNat_setWidth]

theorem spDmaRows_eq (v : Word) : spDmaRows v = v.toNat / 4096 % 256 + 1 := by
  rw [spDmaRows, BitVec.extractLsb'_toNat, Nat.shiftRight_eq_div_pow]

theorem spDmaSkip_eq (v : Word) : spDmaSkip v = v.toNat / 1048576 := by
  rw [spDmaSkip, BitVec.extractLsb'_toNat, Nat.shiftRight_eq_div_pow]
  have := v.isLt
  omega

theorem piDmaLen_eq (v : Word) : piDmaLen v = v.toNat % 16777216 + 1 := by
  rw [piDmaLen, BitVec.toNat_setWidth]

/-! ## Completion (R204, R206) -/

theorem byte_pifProcess (s : State) (a : Nat) :
    Memory.byte (pifProcess s).mem a =
      if pifBase ≤ a ∧ a < pifBase + 64 then Config.pifProcess (pifRam s) s.controllerLatch (a - pifBase)
      else Memory.byte s.mem a := byte_setBytes 64 a

theorem byte_dmaEnd (q : DmaRequest) (queue : List DmaRequest) (s : State) (a : Nat) :
    Memory.byte (dmaEnd q queue s).mem a =
      if q.owner = .si ∧ q.dst = .pif ∧ pifBase ≤ a ∧ a < pifBase + 64 then
        Config.pifProcess (pifRam s) s.controllerLatch (a - pifBase)
      else Memory.byte s.mem a := by
  have hmem : (dmaEnd q queue s).mem = (if q.owner = .si ∧ q.dst = .pif then pifProcess s else s).mem := by
    unfold dmaEnd
    cases q.owner <;> rfl
  rw [hmem]
  by_cases hpif : q.owner = .si ∧ q.dst = .pif
  · rw [if_pos hpif, byte_pifProcess]
    exact if_congr (by simp [hpif]) rfl rfl
  · rw [if_neg hpif, if_neg fun h => hpif ⟨h.1, h.2.1⟩]

/-- The queue, the busy bit and the interrupt are all that a completion changes but PIF RAM. -/
theorem dmaEnd_outside (q : DmaRequest) (queue : List DmaRequest) (s : State) :
    { dmaEnd q queue s with mem := s.mem } = { setBusy s q.owner false with
      dma := queue
      mi.intr := match dmaSource q.owner with
        | some m => setBit s.mi.intr (miBit m) true
        | none => s.mi.intr } := by
  unfold dmaEnd
  split
  · cases q.owner <;> rfl
  · cases q.owner <;> rfl

/-- The oldest due request is the one that completes. -/
theorem dmaStep_of_due {s : State} {before after : List DmaRequest} {q : DmaRequest} (hdma : s.dma = before ++ q :: after)
    (hbefore : ∀ r ∈ before, s.clock.tick < r.deadline) (hq : q.deadline ≤ s.clock.tick) :
    dmaStep s = stored (dmaCopy q s) fun u => .next (dmaEnd q (before ++ after) u) := by
  have hnot (r) (hr : r ∈ before) : ¬dmaDue s r = true := by
    simp only [dmaDue, decide_eq_true_eq, not_le]
    exact hbefore r hr
  have hdue : dmaDue s q = true := decide_eq_true hq
  have hfind : s.dma.find? (dmaDue s) = some q := by
    rw [hdma, List.find?_append, List.find?_eq_none.mpr hnot, Option.none_or, List.find?_cons_of_pos hdue]
  have herase : s.dma.eraseP (dmaDue s) = before ++ after := by
    rw [hdma, List.eraseP_append_right _ hnot, List.eraseP_cons_of_pos hdue]
  rw [dmaStep, hfind]
  dsimp only
  rw [herase]

/-- Settles O54. -/
theorem dmaRequests : Obligations.DmaRequests := by
  intro s v creates sp spDram spLen spRows spSkip piDram piLen siDram aiLen
  have hcreates {t stored : State} {o : DmaOwner} {marked : Busy} {src dst : DmaPlace} {len rows skip : Nat}
      (ht : t = startDma stored o src dst len rows skip) (hbusy : busy stored o = busy s o)
      (hmarked : setBusy stored o true = { stored with busy := marked }) (hdma : stored.dma = s.dma)
      (hclock : stored.clock.tick = s.clock.tick) (hcfg : stored.cfg = s.cfg) :
      creates t stored o marked src dst len rows skip := by
    refine ⟨fun h => ht.trans (startDma_of_busy (hbusy.trans h)), fun h => ?_⟩
    rw [ht, startDma_of_idle (hbusy.trans h), hmarked, hdma, hclock, hcfg]
  have haiLen : (aiLen.setWidth 18).toNat = aiLen.toNat := by
    have hle : aiLen.toNat ≤ 0x3FFF8 := Nat.and_le_right
    rw [BitVec.toNat_setWidth, Nat.mod_eq_of_lt (by omega)]
  have haiZero : aiLen.setWidth 18 = 0 ↔ aiLen = 0 := by
    rw [← BitVec.toNat_inj, haiLen, ← BitVec.toNat_inj]
    rfl
  refine ⟨fun h => ⟨?_, ?_, ?_, ?_⟩, fun h => ⟨if_pos h, if_pos h, if_pos h, if_pos h⟩, hcreates rfl rfl rfl rfl rfl rfl,
    hcreates rfl rfl rfl rfl rfl rfl, fun h => ?_, fun h => if_pos (haiZero.mpr h),
    fun before q after hrefused hphase hdma hbefore hq => ⟨fun why hwhy => ?_, fun u hu => ?_⟩⟩
  · exact hcreates ((if_neg h).trans (by rw [piDmaLen_eq])) rfl rfl rfl rfl rfl
  · exact hcreates ((if_neg h).trans (by rw [piDmaLen_eq])) rfl rfl rfl rfl rfl
  · exact hcreates ((if_neg h).trans (by rw [spDmaLen_eq, spDmaRows_eq, spDmaSkip_eq]; rfl)) rfl rfl rfl rfl rfl
  · exact hcreates ((if_neg h).trans (by rw [spDmaLen_eq, spDmaRows_eq, spDmaSkip_eq]; rfl)) rfl rfl rfl rfl rfl
  · exact hcreates ((if_neg (mt haiZero.mp h)).trans (by rw [← haiLen])) rfl rfl rfl rfl rfl
  · rw [step_dma hrefused hphase, dmaStep_of_due hdma hbefore hq, hwhy]
    rfl
  · rw [step_dma hrefused hphase, dmaStep_of_due hdma hbefore hq, hu]
    have hlatch : u.controllerLatch = s.controllerLatch := by
      obtain ⟨m, a, b, rfl, -⟩ := Copied.dmaCopy hu
      rfl
    refine ⟨_, rfl, fun a => ?_, (dmaEnd_outside q _ u).trans ?_⟩
    · rw [← hlatch]
      exact byte_dmaEnd q _ u a
    · cases q.owner <;> rfl

end Sys2Proof.Machine
end

section
/-! PROOFS. DMA: what a completing request copies (spec/20_memory.md R205). -/

namespace Sys2Proof.Machine

/-! ## The copy as one loop -/

/-- A loop whose body is another's on every element it meets. -/
theorem foldlM_congr_mem {α β : Type} {f g : β → α → Except Refusal β} {l : List α} (h : ∀ b, ∀ a ∈ l, f b a = g b a)
    (b : β) : l.foldlM f b = l.foldlM g b := by
  induction l generalizing b with
  | nil => rfl
  | cons a l ih =>
    rw [List.foldlM_cons, List.foldlM_cons, h b a (by simp)]
    exact congrArg _ (funext fun b' => ih (fun b'' a' ha' => h b'' a' (by simp [ha'])) b')

/-- The first `n` bytes of a request, rows counted. -/
def dmaBytes (q : DmaRequest) (n : Nat) (s : State) : Except Refusal State :=
  (List.range n).foldlM (fun s' k => dmaByte q (k / q.len) (k % q.len) s') s

theorem dmaBytes_succ (q : DmaRequest) (n : Nat) (s : State) :
    dmaBytes q (n + 1) s = dmaBytes q n s >>= dmaByte q (n / q.len) (n % q.len) := by
  rw [dmaBytes, List.range_succ, List.foldlM_append, dmaBytes]
  refine congrArg _ (funext fun t => ?_)
  rw [List.foldlM_cons]
  exact bind_pure _

/-- One row is the next `len` bytes. -/
theorem dmaBytes_add_row (q : DmaRequest) (rows : Nat) (s : State) :
    dmaBytes q (rows * q.len + q.len) s =
      dmaBytes q (rows * q.len) s >>= fun t => (List.range q.len).foldlM (fun t' i => dmaByte q rows i t') t := by
  rw [dmaBytes, List.range_add, List.foldlM_append, dmaBytes]
  refine congrArg _ (funext fun t => ?_)
  rw [List.foldlM_map]
  refine foldlM_congr_mem (fun u i hi => ?_) t
  have hi := List.mem_range.mp hi
  rw [Nat.mul_comm, Nat.mul_add_div (by omega), Nat.div_eq_of_lt hi, Nat.mul_add_mod, Nat.mod_eq_of_lt hi, Nat.add_zero]

theorem dmaCopy_eq_dmaBytes (q : DmaRequest) (s : State) : dmaCopy q s = dmaBytes q (q.rows * q.len) s := by
  have hrows (rows : Nat) : (List.range rows).foldlM
      (fun s' row => (List.range q.len).foldlM (fun s'' i => dmaByte q row i s'') s') s = dmaBytes q (rows * q.len) s := by
    induction rows with
    | zero => rw [Nat.zero_mul]; rfl
    | succ rows ih =>
      rw [List.range_succ, List.foldlM_append, ih, Nat.succ_mul, dmaBytes_add_row]
      refine congrArg _ (funext fun t => ?_)
      rw [List.foldlM_cons]
      exact bind_pure _
  exact hrows q.rows

/-- A request that copies bytes of `s` into memory: byte n, if it lands, is `source n` at `key n`, later ones over earlier
ones. Reading it may rely on the bytes outside all keys. -/
theorem dmaBytes_copies {q : DmaRequest} {s : State} {total : Nat} {key : Nat → Nat} {source : Nat → Byte}
    {lands : Nat → Prop} [DecidablePred lands]
    (hstep : ∀ n < total, ∀ m, (∀ a, (∀ k < total, lands k → a ≠ key k) → Memory.byte m a = Memory.byte s.mem a) →
      dmaByte q (n / q.len) (n % q.len) { s with mem := m } =
        .ok { s with mem := if lands n then Memory.setByte m (key n) (source n) else m })
    {n : Nat} (hn : n ≤ total) :
    ∃ m, dmaBytes q n s = .ok { s with mem := m } ∧
      (∀ a, (∀ k < n, lands k → a ≠ key k) → Memory.byte m a = Memory.byte s.mem a) ∧
      ∀ k < n, lands k → (∀ j < n, k < j → key k ≠ key j) → Memory.byte m (key k) = source k := by
  induction n with
  | zero => exact ⟨s.mem, rfl, fun _ _ => rfl, fun k hk => absurd hk (Nat.not_lt_zero k)⟩
  | succ n ih =>
    obtain ⟨m, hm, hout, hin⟩ := ih (by omega)
    refine ⟨if lands n then Memory.setByte m (key n) (source n) else m, ?_, fun a ha => ?_, fun k hk hlands hlast => ?_⟩
    · rw [dmaBytes_succ, hm]
      exact hstep n hn m fun a ha => hout a fun k hk => ha k (by omega)
    · split
      · next hlands =>
        rw [Memory.byte_setByte_ne _ _ (ha n (by omega) hlands)]
        exact hout a fun k hk => ha k (by omega)
      · exact hout a fun k hk => ha k (by omega)
    · by_cases hkn : k = n
      · subst hkn
        rw [if_pos hlands, Memory.byte_setByte_same]
      · have hprev := hin k (by omega) hlands fun j hj hkj => hlast j (by omega) hkj
        split
        · rw [Memory.byte_setByte_ne _ _ (hlast n (by omega) (by omega)), hprev]
        · exact hprev

/-! ## One byte -/

section Byte

variable {q : DmaRequest} {s : State} {pa c : Word} {n a : Nat} {m : List Host.Cell}

/-- Where byte `n` of a request lies from the start of its side in RDRAM. -/
def dmaPlace (q : DmaRequest) (n : Nat) : Nat := n / q.len * (q.len + q.skip) + n % q.len

theorem len_pos (hn : n < q.rows * q.len) : 0 < q.len := Nat.pos_of_ne_zero fun h => by simp [h] at hn

theorem dmaPlace_lt (hn : n < q.rows * q.len) : dmaPlace q n < q.rows * (q.len + q.skip) := by
  have hmod := Nat.mod_lt n (len_pos hn)
  have hplace := place_lt (w := q.len + q.skip) (h := q.rows) (x := n % q.len + 1) (y := n / q.len) (by omega)
    (Nat.div_lt_of_lt_mul (by rwa [Nat.mul_comm]))
  rw [Nat.mul_comm (q.len + q.skip)] at hplace
  unfold dmaPlace
  omega

theorem dmaPlace_inj {k : Nat} (hn : n < q.rows * q.len) (h : dmaPlace q n = dmaPlace q k) : n = k := by
  have hlen := len_pos hn
  have hmod := Nat.mod_lt n hlen
  have hmod' := Nat.mod_lt k hlen
  obtain ⟨hdiv, hmod⟩ := place_inj (w := q.len + q.skip) (by omega) (by omega) h
  rw [← Nat.div_add_mod n q.len, ← Nat.div_add_mod k q.len, hdiv, hmod]

theorem toNat_rowAddress (hpa : pa.toNat + q.rows * (q.len + q.skip) ≤ 0x04000000) (hn : n < q.rows * q.len) :
    (rowAddress q pa (n / q.len) (n % q.len)).toNat = pa.toNat + dmaPlace q n := by
  have hlt := dmaPlace_lt hn
  rw [rowAddress, BitVec.toNat_add, BitVec.toNat_ofNat]
  change (pa.toNat + dmaPlace q n % 2 ^ 32) % 2 ^ 32 = _
  omega

theorem region_of_ram {size : RdramSize} (h : a < rdramBytes size) : region size a = .memory := if_pos h

/-- Past RDRAM and below SP's memories nothing is mapped (R150). -/
theorem region_of_gap {size : RdramSize} (h : ¬a < rdramBytes size) (ha : a < 0x04000000) :
    region size a = .unmapped := by
  rw [region, if_neg h, if_neg (by omega), if_neg (by omega), if_neg (by omega), if_neg (by omega), if_neg (by omega),
    if_neg (by omega), if_neg (by omega), if_neg (by omega), if_neg (by omega), if_neg (by omega), if_neg (by omega),
    if_neg (by omega), if_neg (by omega)]

theorem setWidth_read_one (m : List Host.Cell) (a : Nat) : (Memory.read m a 1).setWidth 8 = Memory.byte m a := by
  simp [Memory.read]

theorem setWidth_romRead_one (cfg : Config) (o : Nat) : (romRead cfg o 1).setWidth 8 = romByte cfg o := by
  simp [romRead]

/-- A byte stored below SP's memories lands in RDRAM or nowhere. -/
theorem memWrite_byte (u : State) (v : Dword) {addr : Word} (haddr : addr.toNat = a) (ha : a < 0x04000000) :
    memWrite u addr 1 v =
      .ok { u with mem := if a < rdramBytes u.cfg.rdramSize then Memory.setByte u.mem a (v.setWidth 8) else u.mem } := by
  subst haddr
  split
  · next h => exact memWrite_of_memory (region_of_ram h) 1 v
  · next h => exact memWrite_of_ignored (.inr (.inr (region_of_gap h ha))) 1 v

/-- A byte read below SP's memories is RDRAM's, or 0. -/
theorem memRead_byte (u : State) {addr : Word} (haddr : addr.toNat = a) (ha : a < 0x04000000) :
    ((memRead u addr 1).1.setWidth 8 = if a < rdramBytes u.cfg.rdramSize then Memory.byte u.mem a else 0) ∧
      (memRead u addr 1).2 = u := by
  subst haddr
  split
  · next h =>
    rw [memRead_of_memory (region_of_ram h)]
    exact ⟨setWidth_read_one .., rfl⟩
  · next h =>
    rw [memRead_of_hole (.inr (region_of_gap h ha))]
    exact ⟨rfl, rfl⟩

end Byte

/-! ## The copies -/

section Copies

variable {q : DmaRequest} {s u : State} {pa c : Word} {n : Nat} {b : Byte}

/-- A request that copies bytes of `s` into memory, as a whole. -/
theorem dmaCopy_copies {key : Nat → Nat} {source : Nat → Byte} {lands : Nat → Prop} [DecidablePred lands]
    (hstep : ∀ n < q.rows * q.len, ∀ m,
      (∀ a, (∀ k < q.rows * q.len, lands k → a ≠ key k) → Memory.byte m a = Memory.byte s.mem a) →
      dmaByte q (n / q.len) (n % q.len) { s with mem := m } =
        .ok { s with mem := if lands n then Memory.setByte m (key n) (source n) else m }) :
    ∃ t, dmaCopy q s = .ok t ∧ { t with mem := s.mem } = s ∧
      (∀ n < q.rows * q.len, lands n → (∀ j < q.rows * q.len, n < j → key n ≠ key j) →
        Memory.byte t.mem (key n) = source n) ∧
      (∀ a, (∀ n < q.rows * q.len, lands n → a ≠ key n) → Memory.byte t.mem a = Memory.byte s.mem a) := by
  obtain ⟨m, hm, hout, hin⟩ := dmaBytes_copies hstep le_rfl
  exact ⟨{ s with mem := m }, (dmaCopy_eq_dmaBytes q s).trans hm, rfl, hin, hout⟩

/-- One byte to RDRAM. -/
theorem dmaByte_to_ram (hpa : pa.toNat + q.rows * (q.len + q.skip) ≤ 0x04000000) (hdst : q.dst = .rdram pa)
    (hn : n < q.rows * q.len) (hread : dmaRead q (n / q.len) (n % q.len) u = (b, u)) :
    dmaByte q (n / q.len) (n % q.len) u = .ok { u with
      mem := if pa.toNat + dmaPlace q n < rdramBytes u.cfg.rdramSize then Memory.setByte u.mem (pa.toNat + dmaPlace q n) b
        else u.mem } := by
  have hlt := dmaPlace_lt hn
  have hb : (b.setWidth 64).setWidth 8 = b := by simp
  rw [dmaByte, hread, dmaWrite, hdst]
  refine (memWrite_byte u (b.setWidth 64) (toNat_rowAddress hpa hn) (by omega)).trans ?_
  rw [hb]

/-- One byte from RDRAM. -/
theorem dmaRead_ram (hpa : pa.toNat + q.rows * (q.len + q.skip) ≤ 0x04000000) (hsrc : q.src = .rdram pa)
    (hn : n < q.rows * q.len) :
    dmaRead q (n / q.len) (n % q.len) u =
      (if pa.toNat + dmaPlace q n < rdramBytes u.cfg.rdramSize then Memory.byte u.mem (pa.toNat + dmaPlace q n) else 0,
        u) := by
  have hlt := dmaPlace_lt hn
  obtain ⟨hbyte, hstate⟩ := memRead_byte u (toNat_rowAddress hpa hn) (by omega)
  rw [dmaRead, hsrc]
  exact Prod.ext hbyte hstate

/-- A copy to RDRAM from bytes that it does not overwrite. -/
theorem dmaCopy_to_ram {source : Nat → Byte} (hpa : pa.toNat + q.rows * (q.len + q.skip) ≤ 0x04000000)
    (hdst : q.dst = .rdram pa)
    (hread : ∀ n < q.rows * q.len, ∀ m, (∀ a, 0x04000000 ≤ a → Memory.byte m a = Memory.byte s.mem a) →
      dmaRead q (n / q.len) (n % q.len) { s with mem := m } = (source n, { s with mem := m })) :
    ∃ t, dmaCopy q s = .ok t ∧ { t with mem := s.mem } = s ∧
      (∀ n < q.rows * q.len, pa.toNat + dmaPlace q n < rdramBytes s.cfg.rdramSize →
        Memory.byte t.mem (pa.toNat + dmaPlace q n) = source n) ∧
      (∀ a, (∀ n < q.rows * q.len, pa.toNat + dmaPlace q n < rdramBytes s.cfg.rdramSize → a ≠ pa.toNat + dmaPlace q n) →
        Memory.byte t.mem a = Memory.byte s.mem a) := by
  obtain ⟨t, ht, hframe, hin, hout⟩ := dmaCopy_copies (q := q) (s := s) (key := fun n => pa.toNat + dmaPlace q n)
    (source := source) (lands := fun n => pa.toNat + dmaPlace q n < rdramBytes s.cfg.rdramSize) fun n hn m hm =>
      dmaByte_to_ram hpa hdst hn (hread n hn m fun a ha => hm a fun k hk _ => by
        have := dmaPlace_lt hk
        omega)
  refine ⟨t, ht, hframe, fun n hn hlands => hin n hn hlands fun j hj hnj heq => ?_, hout⟩
  exact hnj.ne (dmaPlace_inj hn (Nat.add_left_cancel heq))

/-- A copy from RDRAM to a memory of the processors. -/
theorem dmaCopy_from_ram {key : Nat → Nat} (hpa : pa.toNat + q.rows * (q.len + q.skip) ≤ 0x04000000)
    (hsrc : q.src = .rdram pa) (hkey : ∀ n, 0x04000000 ≤ key n)
    (hwrite : ∀ n < q.rows * q.len, ∀ m b, dmaWrite q (n / q.len) (n % q.len) b { s with mem := m } =
      .ok { s with mem := Memory.setByte m (key n) b }) :
    ∃ t, dmaCopy q s = .ok t ∧ { t with mem := s.mem } = s ∧
      (∀ n < q.rows * q.len, (∀ j < q.rows * q.len, n < j → key n ≠ key j) → Memory.byte t.mem (key n) =
        if pa.toNat + dmaPlace q n < rdramBytes s.cfg.rdramSize then Memory.byte s.mem (pa.toNat + dmaPlace q n) else 0) ∧
      (∀ a, (∀ n < q.rows * q.len, a ≠ key n) → Memory.byte t.mem a = Memory.byte s.mem a) := by
  obtain ⟨t, ht, hframe, hin, hout⟩ := dmaCopy_copies (q := q) (s := s) (key := key)
    (source := fun n =>
      if pa.toNat + dmaPlace q n < rdramBytes s.cfg.rdramSize then Memory.byte s.mem (pa.toNat + dmaPlace q n) else 0)
    (lands := fun _ => True) fun n hn m hm => by
      have hlt := dmaPlace_lt hn
      have hsame : Memory.byte m (pa.toNat + dmaPlace q n) = Memory.byte s.mem (pa.toNat + dmaPlace q n) :=
        hm _ fun k _ _ => by
          have := hkey k
          omega
      rw [dmaByte, dmaRead_ram hpa hsrc hn]
      dsimp only
      rw [hsame, if_pos trivial]
      exact hwrite n hn m _
  exact ⟨t, ht, hframe, fun n hn hlast => hin n hn trivial hlast, fun a ha => hout a fun n hn _ => ha n hn⟩

/-- A copy to RDRAM is never refused. -/
theorem dmaBytes_to_ram_ok (hpa : pa.toNat + q.rows * (q.len + q.skip) ≤ 0x04000000) (hdst : q.dst = .rdram pa)
    (hn : n ≤ q.rows * q.len) : ∃ t, dmaBytes q n s = .ok t := by
  induction n with
  | zero => exact ⟨s, rfl⟩
  | succ n ih =>
    obtain ⟨t, ht⟩ := ih (by omega)
    have hlt := dmaPlace_lt hn
    have hwrite (b : Byte) (u : State) : ∃ t, dmaWrite q (n / q.len) (n % q.len) b u = .ok t := by
      rw [dmaWrite, hdst]
      exact ⟨_, memWrite_byte _ _ (toNat_rowAddress hpa hn) (by omega)⟩
    rw [dmaBytes_succ, ht]
    exact hwrite _ _

/-- The state after the first `n` bytes of a copy that is not refused. -/
def dmaTrace (q : DmaRequest) (s : State) (n : Nat) : State :=
  match dmaBytes q n s with
  | .ok t => t
  | .error _ => s

theorem dmaBytes_eq_dmaTrace (hpa : pa.toNat + q.rows * (q.len + q.skip) ≤ 0x04000000) (hdst : q.dst = .rdram pa)
    (hn : n ≤ q.rows * q.len) : dmaBytes q n s = .ok (dmaTrace q s n) := by
  obtain ⟨t, ht⟩ := dmaBytes_to_ram_ok (s := s) hpa hdst hn
  rw [dmaTrace, ht]

/-- From the cartridge, byte after byte: each reads and writes the bus as the bytes before it left it. -/
theorem dmaTrace_succ (hpa : pa.toNat + q.rows * (q.len + q.skip) ≤ 0x04000000) (hdst : q.dst = .rdram pa)
    (hsrc : q.src = .cart c) (hn : n < q.rows * q.len) :
    let from_ := memRead (dmaTrace q s n) (c + BitVec.ofNat 32 (dmaPlace q n)) 1
    memWrite from_.2 (pa + BitVec.ofNat 32 (dmaPlace q n)) 1 from_.1 = .ok (dmaTrace q s (n + 1)) := by
  intro from_
  have hlt := dmaPlace_lt hn
  have haddress : (pa + BitVec.ofNat 32 (dmaPlace q n)).toNat = pa.toNat + dmaPlace q n := toNat_rowAddress hpa hn
  have hnext := dmaBytes_eq_dmaTrace (s := s) hpa hdst (Nat.succ_le_of_lt hn)
  rw [Nat.succ_eq_add_one, dmaBytes_succ, dmaBytes_eq_dmaTrace hpa hdst hn.le] at hnext
  change dmaByte q (n / q.len) (n % q.len) (dmaTrace q s n) = _ at hnext
  rw [dmaByte, dmaWrite, hdst, dmaRead, hsrc] at hnext
  rw [memWrite_byte _ _ haddress (by omega)]
  refine Eq.trans ?_ hnext
  change _ = memWrite from_.2 (pa + BitVec.ofNat 32 (dmaPlace q n)) 1 ((from_.1.setWidth 8).setWidth 64)
  rw [memWrite_byte _ _ haddress (by omega)]
  simp

/-- A copy to the cartridge writes nothing (R205). -/
theorem dmaBytes_to_cart (hpa : pa.toNat + q.rows * (q.len + q.skip) ≤ 0x04000000) (hsrc : q.src = .rdram pa)
    (hdst : q.dst = .cart c) (hn : n ≤ q.rows * q.len) : dmaBytes q n s = .ok s := by
  induction n with
  | zero => rfl
  | succ n ih =>
    rw [dmaBytes_succ, ih (by omega)]
    change dmaByte q (n / q.len) (n % q.len) s = _
    rw [dmaByte, dmaRead_ram hpa hsrc hn, dmaWrite, hdst]

/-- A copy to the audio output puts out its bytes in order (R205). -/
theorem dmaBytes_to_audio (hpa : pa.toNat + q.rows * (q.len + q.skip) ≤ 0x04000000) (hsrc : q.src = .rdram pa)
    (hdst : q.dst = .audio) (hn : n ≤ q.rows * q.len) :
    dmaBytes q n s = .ok { s with out.audio := s.out.audio ++ (List.range n).map (fun k =>
      if pa.toNat + dmaPlace q k < rdramBytes s.cfg.rdramSize then Memory.byte s.mem (pa.toNat + dmaPlace q k)
      else 0) } := by
  induction n with
  | zero => rw [List.range_zero, List.map_nil, List.append_nil]; rfl
  | succ n ih =>
    rw [dmaBytes_succ, ih (by omega)]
    change dmaByte q (n / q.len) (n % q.len) _ = _
    rw [dmaByte, dmaRead_ram hpa hsrc hn, dmaWrite, hdst, List.range_succ, List.map_append, ← List.append_assoc]
    rfl

end Copies

/-- Settles O55. -/
theorem dmaCopies : Obligations.DmaCopies := by
  intro q s pa hpa total place size ram spKey pifKey copies inRam
  have hcount (n : Nat) : n / q.len * q.len + n % q.len = n := Nat.div_add_mod' n q.len
  have hspKey (imem : Bool) (offset : BitVec 12) (n : Nat) :
      spMemKey q imem offset (n / q.len) (n % q.len) = spKey imem offset n := by
    rw [spMemKey, Nat.add_assoc, hcount]
    rfl
  have hspLow (imem : Bool) (offset : BitVec 12) (n : Nat) : 0x04000000 ≤ spKey imem offset n := by
    simp only [spKey]
    split <;> omega
  have hpif (hrows : q.rows = 1) {n : Nat} (hn : n < total) : n % q.len = n :=
    Nat.mod_eq_of_lt (by simpa [total, hrows] using hn)
  refine ⟨fun hdst => ⟨fun imem offset hsrc => ?_, fun hsrc hrows => ?_, fun c hsrc => ⟨?_, fun hrom => ?_⟩⟩,
    fun hsrc => ⟨fun imem offset hdst => ?_, fun hdst hrows => ?_, fun hdst => ?_, fun c hdst => ?_⟩⟩
  · refine dmaCopy_to_ram hpa hdst fun n hn m hm => ?_
    rw [dmaRead, hsrc]
    dsimp only
    rw [hspKey, hm _ (hspLow ..)]
  · refine dmaCopy_to_ram hpa hdst fun n hn m hm => ?_
    rw [dmaRead, hsrc]
    dsimp only
    rw [hpif hrows hn, hm _ (by simp only [pifBase]; omega)]
    rfl
  · exact ⟨dmaTrace q s, rfl, (dmaCopy_eq_dmaBytes q s).trans (dmaBytes_eq_dmaTrace hpa hdst le_rfl),
      fun n hn => dmaTrace_succ hpa hdst hsrc hn⟩
  · refine dmaCopy_to_ram hpa hdst fun n hn m hm => ?_
    rw [dmaRead, hsrc]
    obtain ⟨hbyte, hstate⟩ := Prod.ext_iff.mp (memRead_of_rom (s := { s with mem := m }) (hrom n hn) 1)
    exact Prod.ext ((congrArg (BitVec.setWidth 8) hbyte).trans (setWidth_romRead_one ..)) hstate
  · obtain ⟨t, ht, hframe, hin, hout⟩ := dmaCopy_from_ram (key := spKey imem offset) hpa hsrc (hspLow imem offset)
      fun n hn m b => by
        rw [dmaWrite, hdst]
        dsimp only
        rw [hspKey]
    refine ⟨t, ht, hframe, fun n hn hlast => hin n hn fun j hj hnj => ?_, hout⟩
    simp only [spKey]
    omega
  · obtain ⟨t, ht, hframe, hin, hout⟩ := dmaCopy_from_ram (key := pifKey) hpa hsrc
      (fun n => by simp only [pifKey]; omega) fun n hn m b => by
        rw [dmaWrite, hdst]
        dsimp only
        rw [hpif hrows hn]
        rfl
    refine ⟨t, ht, hframe, fun n hn hlast => hin n hn fun j hj hnj => ?_, hout⟩
    simp only [pifKey]
    omega
  · exact (dmaCopy_eq_dmaBytes q s).trans (dmaBytes_to_audio hpa hsrc hdst le_rfl)
  · exact (dmaCopy_eq_dmaBytes q s).trans (dmaBytes_to_cart hpa hsrc hdst le_rfl)

end Sys2Proof.Machine
end

section
/-! PROOFS. Words and their fields: a word is put together from its fields, format by format, and clearing the ignored
bits clears whole fields (spec/30_encoding.md R241, R243; spec/46_vector_unit.md R635, R694). -/

namespace Sys2Proof.Machine

/-! ## A word is what its fields make -/

section Fields

variable (w : Word)

theorem wordR_fields : wordR (fOp w) (fRs w) (fRt w) (fRd w) (fSa w) (fFunct w) = w := by
  apply BitVec.eq_of_toNat_eq
  simp only [wordR_toNat, fOp, fRs, fRt, fRd, fSa, fFunct, BitVec.extractLsb'_toNat, Nat.shiftRight_eq_div_pow]
  omega

theorem wordI_fields : wordI (fOp w) (fRs w) (fRt w) (fImm w) = w := by
  apply BitVec.eq_of_toNat_eq
  simp only [wordI_toNat, fOp, fRs, fRt, fImm, BitVec.extractLsb'_toNat, Nat.shiftRight_eq_div_pow]
  omega

theorem wordJ_fields : wordJ (fOp w) (fTarget w) = w := by
  apply BitVec.eq_of_toNat_eq
  simp only [wordJ_toNat, fOp, fTarget, BitVec.extractLsb'_toNat, Nat.shiftRight_eq_div_pow]
  omega

variable {w}

theorem wordSc_fields {funct : BitVec 6} (hop : fOp w = 0#6) (hfunct : fFunct w = funct) :
    wordSc (fCode20 w) funct = w := by
  subst hfunct
  have hop := congrArg BitVec.toNat hop
  apply BitVec.eq_of_toNat_eq
  simp only [wordSc_toNat, fOp, fCode20, fFunct, BitVec.extractLsb'_toNat, Nat.shiftRight_eq_div_pow,
    BitVec.toNat_ofNat] at hop ⊢
  omega

theorem wordTr_fields {funct : BitVec 6} (hop : fOp w = 0#6) (hfunct : fFunct w = funct) :
    wordTr (fRs w) (fRt w) (fCode10 w) funct = w := by
  subst hfunct
  have hop := congrArg BitVec.toNat hop
  apply BitVec.eq_of_toNat_eq
  simp only [wordTr_toNat, fOp, fRs, fRt, fCode10, fFunct, BitVec.extractLsb'_toNat, Nat.shiftRight_eq_div_pow,
    BitVec.toNat_ofNat] at hop ⊢
  omega

theorem wordVls_fields (w : Word) : wordVls (fOp w) (fRs w) (fRt w) (fRd w) (fElem w) (fOffset7 w) = w := by
  apply BitVec.eq_of_toNat_eq
  simp only [wordVls_toNat, fOp, fRs, fRt, fRd, fElem, fOffset7, BitVec.extractLsb'_toNat, Nat.shiftRight_eq_div_pow]
  omega

/-- The CO bit is bit 25. -/
theorem fCo_eq (w : Word) : fCo w = (w.extractLsb' 25 1).getLsbD 0 := by
  rw [BitVec.getLsbD_extractLsb']
  rfl

/-- The CO bit is the top bit of rs. -/
theorem fCo_iff : fCo w = true ↔ 16 ≤ (fRs w).toNat := by
  rw [← wordR_fields w, fCo_wordR, decide_eq_true_iff, fRs_wordR]

theorem wordVop_fields {funct : BitVec 6} (hop : fOp w = 18#6) (hco : fCo w = true) (hfunct : fFunct w = funct) :
    wordVop (fVElem w) (fRt w) (fRd w) (fSa w) funct = w := by
  subst hfunct
  have hop := congrArg BitVec.toNat hop
  have hco := fCo_iff.mp hco
  apply BitVec.eq_of_toNat_eq
  simp only [wordVop_toNat, fOp, fVElem, fRs, fRt, fRd, fSa, fFunct, BitVec.extractLsb'_toNat,
    Nat.shiftRight_eq_div_pow, BitVec.toNat_ofNat] at hop hco ⊢
  omega

/-- The element of a vector operation is the low bits of rs. -/
theorem fVElem_wordR (op : BitVec 6) (rs rt rd sa : BitVec 5) (funct : BitVec 6) :
    fVElem (wordR op rs rt rd sa funct) = rs.setWidth 4 := by
  apply BitVec.eq_of_toNat_eq
  simp only [fVElem, BitVec.extractLsb'_toNat, wordR_toNat, Nat.shiftRight_eq_div_pow, BitVec.toNat_setWidth]
  omega

end Fields

/-! ## Clearing bits -/

/-- Clearing bits of a word clears them field by field. -/
theorem and_wordR (w : Word) (op : BitVec 6) (rs rt rd sa : BitVec 5) (funct : BitVec 6) :
    w &&& wordR op rs rt rd sa funct =
      wordR (fOp w &&& op) (fRs w &&& rs) (fRt w &&& rt) (fRd w &&& rd) (fSa w &&& sa) (fFunct w &&& funct) := by
  conv_lhs => rw [← wordR_fields w]
  refine (BitVec.and_append (x₁ := fOp w ++ fRs w ++ fRt w ++ fRd w ++ fSa w) ..).trans (congrArg (· ++ _) ?_)
  simp only [BitVec.and_append]

theorem and_wordI (w : Word) (op : BitVec 6) (rs rt : BitVec 5) (imm : BitVec 16) :
    w &&& wordI op rs rt imm = wordI (fOp w &&& op) (fRs w &&& rs) (fRt w &&& rt) (fImm w &&& imm) := by
  conv_lhs => rw [← wordI_fields w]
  refine (BitVec.and_append (x₁ := fOp w ++ fRs w ++ fRt w) ..).trans (congrArg (· ++ _) ?_)
  simp only [BitVec.and_append]

theorem and_wordVls (w : Word) (op : BitVec 6) (rs rt rd : BitVec 5) (e : BitVec 4) (offset : BitVec 7) :
    w &&& wordVls op rs rt rd e offset =
      wordVls (fOp w &&& op) (fRs w &&& rs) (fRt w &&& rt) (fRd w &&& rd) (fElem w &&& e) (fOffset7 w &&& offset) := by
  conv_lhs => rw [← wordVls_fields w]
  refine (BitVec.and_append (x₁ := fOp w ++ fRs w ++ fRt w ++ fRd w ++ fElem w) ..).trans (congrArg (· ++ _) ?_)
  simp only [BitVec.and_append]

section Clear

variable (w : Word)

/-- A field that keeps all its bits. -/
theorem and_ones5 (x : BitVec 5) : x &&& 31 = x := BitVec.and_allOnes (w := 5)
theorem and_ones6 (x : BitVec 6) : x &&& 63 = x := BitVec.and_allOnes (w := 6)
theorem and_ones16 (x : BitVec 16) : x &&& 0xFFFF = x := BitVec.and_allOnes (w := 16)
/-- A field that keeps none. -/
theorem and_none {n : Nat} (x : BitVec n) : x &&& 0 = 0 := BitVec.and_zero

theorem clear_sa : w &&& ~~~(bitsOf 10 6) = wordR (fOp w) (fRs w) (fRt w) (fRd w) 0 (fFunct w) := by
  rw [show ~~~(bitsOf 10 6) = wordR 63 31 31 31 0 63 by decide, and_wordR]
  simp only [and_ones5, and_ones6, and_none]

theorem clear_rs : w &&& ~~~(bitsOf 25 21) = wordR (fOp w) 0 (fRt w) (fRd w) (fSa w) (fFunct w) := by
  rw [show ~~~(bitsOf 25 21) = wordR 63 0 31 31 31 63 by decide, and_wordR]
  simp only [and_ones5, and_ones6, and_none]

theorem clear_rt : w &&& ~~~(bitsOf 20 16) = wordR (fOp w) (fRs w) 0 (fRd w) (fSa w) (fFunct w) := by
  rw [show ~~~(bitsOf 20 16) = wordR 63 31 0 31 31 63 by decide, and_wordR]
  simp only [and_ones5, and_ones6, and_none]

theorem clear_rt_rd_sa : w &&& ~~~(bitsOf 20 6) = wordR (fOp w) (fRs w) 0 0 0 (fFunct w) := by
  rw [show ~~~(bitsOf 20 6) = wordR 63 31 0 0 0 63 by decide, and_wordR]
  simp only [and_ones5, and_ones6, and_none]

theorem clear_rt_sa : w &&& ~~~(bitsOf 20 16 ||| bitsOf 10 6) = wordR (fOp w) (fRs w) 0 (fRd w) 0 (fFunct w) := by
  rw [show ~~~(bitsOf 20 16 ||| bitsOf 10 6) = wordR 63 31 0 31 0 63 by decide, and_wordR]
  simp only [and_ones5, and_ones6, and_none]

theorem clear_rs_rt_sa : w &&& ~~~(bitsOf 25 16 ||| bitsOf 10 6) = wordR (fOp w) 0 0 (fRd w) 0 (fFunct w) := by
  rw [show ~~~(bitsOf 25 16 ||| bitsOf 10 6) = wordR 63 0 0 31 0 63 by decide, and_wordR]
  simp only [and_ones5, and_ones6, and_none]

theorem clear_allButFunct : w &&& ~~~(bitsOf 25 6) = wordR (fOp w) 0 0 0 0 (fFunct w) := by
  rw [show ~~~(bitsOf 25 6) = wordR 63 0 0 0 0 63 by decide, and_wordR]
  simp only [and_ones6, and_none]

theorem clear_rd_sa : w &&& ~~~(bitsOf 15 6) = wordR (fOp w) (fRs w) (fRt w) 0 0 (fFunct w) := by
  rw [show ~~~(bitsOf 15 6) = wordR 63 31 31 0 0 63 by decide, and_wordR]
  simp only [and_ones5, and_ones6, and_none]

theorem clear_belowRd : w &&& ~~~(bitsOf 10 0) = wordR (fOp w) (fRs w) (fRt w) (fRd w) 0 0 := by
  rw [show ~~~(bitsOf 10 0) = wordR 63 31 31 31 0 0 by decide, and_wordR]
  simp only [and_ones5, and_ones6, and_none]

theorem clearI_rs : w &&& ~~~(bitsOf 25 21) = wordI (fOp w) 0 (fRt w) (fImm w) := by
  rw [show ~~~(bitsOf 25 21) = wordI 63 0 31 0xFFFF by decide, and_wordI]
  simp only [and_ones5, and_ones6, and_none, and_ones16]

theorem clearI_rt : w &&& ~~~(bitsOf 20 16) = wordI (fOp w) (fRs w) 0 (fImm w) := by
  rw [show ~~~(bitsOf 20 16) = wordI 63 31 0 0xFFFF by decide, and_wordI]
  simp only [and_ones5, and_ones6, and_none, and_ones16]

theorem clear_rt_rd : w &&& ~~~(bitsOf 20 11) = wordR (fOp w) (fRs w) 0 0 (fSa w) (fFunct w) := by
  rw [show ~~~(bitsOf 20 11) = wordR 63 31 0 0 31 63 by decide, and_wordR]
  simp only [and_ones5, and_ones6, and_none]

/-- All but the opcode, the CO bit and the funct cleared. -/
theorem clear_belowCo {w : Word} (hco : fCo w = true) : w &&& ~~~(bitsOf 24 6) = wordR (fOp w) 16 0 0 0 (fFunct w) := by
  have hrs : fRs w &&& 16 = 16 := by
    have hle := fCo_iff.mp hco
    revert hle
    generalize fRs w = rs
    revert rs
    decide
  rw [show ~~~bitsOf 24 6 = wordR 63 16 0 0 0 63 by decide, and_wordR, hrs]
  simp only [and_ones6, and_none]

theorem clear_belowElem : w &&& ~~~(bitsOf 6 0) = wordVls (fOp w) (fRs w) (fRt w) (fRd w) (fElem w) 0 := by
  rw [show ~~~(bitsOf 6 0) = wordVls 63 31 31 31 15 0 by decide, and_wordVls,
    show fElem w &&& 15 = fElem w from BitVec.and_allOnes (w := 4)]
  simp only [and_ones5, and_ones6, and_none]

/-- No bit cleared. -/
theorem clear_none : w &&& ~~~(0 : Word) = w := BitVec.and_allOnes

end Clear

/-! ## Words that differ in cleared bits alone -/

/-- Two words that differ only where a mask is set agree in a field that the mask does not touch. -/
theorem extractLsb'_eq_of_ignored {n : Nat} {w v m : BitVec n} (h : (w ^^^ v) &&& ~~~m = 0) {start len : Nat}
    (hm : m.extractLsb' start len = 0) (hlen : start + len ≤ n) :
    v.extractLsb' start len = w.extractLsb' start len := by
  refine extractLsb'_eq_of_masked h start len fun k hk => ?_
  have hbit : (m.extractLsb' start len).getLsbD k = false := by rw [hm]; exact BitVec.getLsbD_zero
  rw [BitVec.getLsbD_extractLsb', decide_eq_true hk, Bool.true_and] at hbit
  rw [BitVec.getLsbD_not, hbit, decide_eq_true (by omega)]
  rfl

/-- Two words that differ only where a mask is set are the same once it is cleared. -/
theorem clear_eq_of_ignored {n : Nat} {w v m : BitVec n} (h : (w ^^^ v) &&& ~~~m = 0) : v &&& ~~~m = w &&& ~~~m := by
  apply BitVec.eq_of_getLsbD_eq
  intro k hk
  have hbit : ((w.getLsbD k ^^ v.getLsbD k) && (~~~m).getLsbD k) = false := by
    rw [← BitVec.getLsbD_xor, ← BitVec.getLsbD_and, h]
    exact BitVec.getLsbD_zero
  rw [BitVec.getLsbD_and, BitVec.getLsbD_and]
  revert hbit
  cases w.getLsbD k <;> cases v.getLsbD k <;> cases (~~~m).getLsbD k <;> decide

end Sys2Proof.Machine
end

section
/-! PROOFS. The CPU's decoder and encoder (spec/30_encoding.md R241 to R251, R260 to R265). -/

namespace Sys2Proof.Machine

/-! ## Which table reads a word -/

section Tables

variable {w : Word}

theorem cpuTable_of_special (hop : fOp w = 0#6) : cpuTable w = cpuSpecial w := by
  rw [cpuTable, hop]; rfl
theorem cpuTable_of_regimm (hop : fOp w = 1#6) : cpuTable w = cpuRegimm w := by
  rw [cpuTable, hop]; rfl
theorem cpuTable_of_co (hop : fOp w = 16#6) (hco : fCo w = true) : cpuTable w = cpuCo w := by
  rw [cpuTable, hop]; exact if_pos hco
theorem cpuTable_of_cop0Move (hop : fOp w = 16#6) (hco : fCo w = false) : cpuTable w = cpuCop0Move w := by
  rw [cpuTable, hop]; exact if_neg (by simp [hco])
theorem cpuTable_of_cop1 (hop : fOp w = 17#6) : cpuTable w = cpuCop1 w := by
  rw [cpuTable, hop]; rfl
theorem cpuTable_of_bc1 (hop : fOp w = 17#6) (hrs : fRs w = 8#5) : cpuTable w = cpuBc1 w := by
  rw [cpuTable_of_cop1 hop, cpuCop1, hrs]; rfl
theorem cpuTable_of_fmtS (hop : fOp w = 17#6) (hrs : fRs w = 16#5) : cpuTable w = cpuFmtS w := by
  rw [cpuTable_of_cop1 hop, cpuCop1, hrs]; rfl
theorem cpuTable_of_fmtD (hop : fOp w = 17#6) (hrs : fRs w = 17#5) : cpuTable w = cpuFmtD w := by
  rw [cpuTable_of_cop1 hop, cpuCop1, hrs]; rfl
theorem cpuTable_of_fmtW (hop : fOp w = 17#6) (hrs : fRs w = 20#5) : cpuTable w = cpuFmtW w := by
  rw [cpuTable_of_cop1 hop, cpuCop1, hrs]; rfl
theorem cpuTable_of_fmtL (hop : fOp w = 17#6) (hrs : fRs w = 21#5) : cpuTable w = cpuFmtL w := by
  rw [cpuTable_of_cop1 hop, cpuCop1, hrs]; rfl

end Tables

/-! ## Decoding undoes encoding -/

/-- The table reads an encoded instruction back. Each row: which table it is in, its key, and its fields. -/
theorem cpuTable_encode {i : Instr} {w : Word} (h : encode i = .cpu w) : cpuTable w = some i := by
  cases i <;> cases h
  case syscall | brk =>
    refine (cpuTable_of_special (fOp_wordSc ..)).trans ?_
    rw [cpuSpecial, fFunct_wordSc]
    conv_lhs => whnf
    simp only [fCode20_wordSc]
  case tge | tgeu | tlt | tltu | teq | tne =>
    refine (cpuTable_of_special (fOp_wordTr ..)).trans ?_
    rw [cpuSpecial, fFunct_wordTr]
    conv_lhs => whnf
    simp only [fRs_wordTr, fRt_wordTr, fCode10_wordTr]
  case sync | tlbr | tlbwi | tlbwr | tlbp | eret => rfl
  case sll | srl | sra | sllv | srlv | srav | jr | jalr | mfhi | mthi | mflo | mtlo | dsllv | dsrlv | dsrav |
    mult | multu | div | divu | dmult | dmultu | ddiv | ddivu | add | addu | sub | subu | and | or | xor | nor |
    slt | sltu | dadd | daddu | dsub | dsubu | dsll | dsrl | dsra | dsll32 | dsrl32 | dsra32 =>
    refine (cpuTable_of_special (fOp_wordR ..)).trans ?_
    rw [cpuSpecial, fFunct_wordR]
    conv_lhs => whnf
    simp only [fRs_wordR, fRt_wordR, fRd_wordR, fSa_wordR]
  case bltz | bgez | bltzl | bgezl | tgei | tgeiu | tlti | tltiu | teqi | tnei | bltzal | bgezal | bltzall |
    bgezall =>
    refine (cpuTable_of_regimm (fOp_wordI ..)).trans ?_
    rw [cpuRegimm, fRt_wordI]
    conv_lhs => whnf
    simp only [fRs_wordI, fImm_wordI]
  case mfc0 | dmfc0 | mtc0 | dmtc0 =>
    refine (cpuTable_of_cop0Move (fOp_wordR ..) (by rw [fCo_wordR]; decide)).trans ?_
    rw [cpuCop0Move, fRs_wordR]
    conv_lhs => whnf
    simp only [fRt_wordR, fRd_wordR]
  case bc1f | bc1t | bc1fl | bc1tl =>
    refine (cpuTable_of_bc1 (fOp_wordI ..) (fRs_wordI ..)).trans ?_
    rw [cpuBc1, fNdTf_wordI]
    conv_lhs => whnf
    simp only [fImm_wordI]
  case addS | subS | mulS | divS | sqrtS | absS | movS | negS | roundLS | truncLS | ceilLS | floorLS | roundWS |
    truncWS | ceilWS | floorWS | cvtDS | cvtWS | cvtLS | cFS | cUnS | cEqS | cUeqS | cOltS | cUltS | cOleS |
    cUleS | cSfS | cNgleS | cSeqS | cNglS | cLtS | cNgeS | cLeS | cNgtS =>
    refine (cpuTable_of_fmtS (fOp_wordR ..) (fRs_wordR ..)).trans ?_
    rw [cpuFmtS, fFunct_wordR]
    conv_lhs => whnf
    simp only [fRt_wordR, fRd_wordR, fSa_wordR]
  case addD | subD | mulD | divD | sqrtD | absD | movD | negD | roundLD | truncLD | ceilLD | floorLD | roundWD |
    truncWD | ceilWD | floorWD | cvtSD | cvtWD | cvtLD | cFD | cUnD | cEqD | cUeqD | cOltD | cUltD | cOleD |
    cUleD | cSfD | cNgleD | cSeqD | cNglD | cLtD | cNgeD | cLeD | cNgtD =>
    refine (cpuTable_of_fmtD (fOp_wordR ..) (fRs_wordR ..)).trans ?_
    rw [cpuFmtD, fFunct_wordR]
    conv_lhs => whnf
    simp only [fRt_wordR, fRd_wordR, fSa_wordR]
  case cvtSW | cvtDW =>
    refine (cpuTable_of_fmtW (fOp_wordR ..) (fRs_wordR ..)).trans ?_
    rw [cpuFmtW, fFunct_wordR]
    conv_lhs => whnf
    simp only [fRd_wordR, fSa_wordR]
  case cvtSL | cvtDL =>
    refine (cpuTable_of_fmtL (fOp_wordR ..) (fRs_wordR ..)).trans ?_
    rw [cpuFmtL, fFunct_wordR]
    conv_lhs => whnf
    simp only [fRd_wordR, fSa_wordR]
  case mfc1 | dmfc1 | cfc1 | mtc1 | dmtc1 | ctc1 =>
    refine (cpuTable_of_cop1 (fOp_wordR ..)).trans ?_
    rw [cpuCop1, fRs_wordR]
    conv_lhs => whnf
    simp only [fRt_wordR, fRd_wordR]
  case j | jal =>
    rw [cpuTable, fOp_wordJ]
    conv_lhs => whnf
    rw [fTarget_wordJ]
  all_goals
    rw [cpuTable, fOp_wordI]
    conv_lhs => whnf
    simp only [fRs_wordI, fRt_wordI, fImm_wordI]

theorem decodeCpu_of_cpuTable {cu1 cu2 cu3 : Bool} {i : Instr} {w : Word} (h : cpuTable w = some i)
    (hcp1 : fOp w ∈ [17#6, 49#6, 53#6, 57#6, 61#6] → cu1 = true) : decodeCpu cu1 cu2 cu3 w = .ok i := by
  unfold decodeCpu
  split
  case h_12 => rw [h]; rfl
  case h_1 | h_2 | h_3 | h_4 | h_5 =>
    rename_i hop
    rw [if_pos (hcp1 (by rw [hop]; decide)), h]
    rfl
  all_goals
    rename_i hop
    rw [cpuTable, hop] at h
    exact nomatch h

/-- What the decoder answers with an instruction, its table does. -/
theorem cpuTable_of_decodeCpu {cu1 cu2 cu3 : Bool} {i : Instr} {w : Word} (h : decodeCpu cu1 cu2 cu3 w = .ok i) :
    cpuTable w = some i := by
  have helim {o : Option Instr} (ho : o.elim (.error .reserved) .ok = (.ok i : Except Rejected Instr)) : o = some i := by
    cases o with
    | none => exact nomatch ho
    | some j => exact congrArg some (Except.ok.inj ho)
  unfold decodeCpu at h
  split at h
  case h_12 => exact helim h
  case h_1 | h_2 | h_3 | h_4 | h_5 =>
    split at h
    · exact helim h
    · exact nomatch h
  all_goals exact nomatch h

/-! ## The ignored bits, by table (R243) -/

section Ignored

variable {w v : Word}

/-- A SPECIAL word's ignored bits depend on its funct alone. -/
theorem ignoredCpuBits_special (hw : fOp w = 0#6) (hv : fOp v = 0#6) (hf : fFunct v = fFunct w) :
    ignoredCpuBits v = ignoredCpuBits w := by
  unfold ignoredCpuBits
  rw [show w.extractLsb' 26 6 = 0#6 from hw, show v.extractLsb' 26 6 = 0#6 from hv,
    show v.extractLsb' 0 6 = w.extractLsb' 0 6 from hf]
  rfl

theorem ignoredCpuBits_co (hw : fOp w = 16#6) (hco : fCo w = true) : ignoredCpuBits w = bitsOf 24 6 := by
  unfold ignoredCpuBits
  rw [show w.extractLsb' 26 6 = 16#6 from hw, show w.getLsbD 25 = true from hco]
  rfl

theorem ignoredCpuBits_cop0Move (hw : fOp w = 16#6) (hco : fCo w = false) : ignoredCpuBits w = bitsOf 10 0 := by
  unfold ignoredCpuBits
  rw [show w.extractLsb' 26 6 = 16#6 from hw, show w.getLsbD 25 = false from hco]
  rfl

theorem ignoredCpuBits_cop1 (hw : fOp w = 17#6) : ignoredCpuBits w =
    if (fRs w).toNat < 8 then bitsOf 10 0
    else if (fRs w).toNat = 8 then bitsOf 20 18
    else if (fFunct w).toNat < 4 then 0
    else if (fFunct w).toNat < 48 then bitsOf 20 16
    else bitsOf 10 6 := by
  unfold ignoredCpuBits
  rw [show w.extractLsb' 26 6 = 17#6 from hw]
  rfl

/-- Every other word's depend on its opcode alone. -/
theorem ignoredCpuBits_primary {op : BitVec 6} (hw : fOp w = op) (h : op ∉ [0#6, 16#6, 17#6]) :
    ignoredCpuBits w = ignoredCpuBits (wordJ op 0) := by
  unfold ignoredCpuBits
  rw [show w.extractLsb' 26 6 = op from hw, show (wordJ op 0).extractLsb' 26 6 = op from fOp_wordJ ..]
  have h0 : op.toNat ≠ 0 := fun hn => h (by simp [BitVec.eq_of_toNat_eq (y := 0#6) hn])
  have h16 : op.toNat ≠ 16 := fun hn => h (by simp [BitVec.eq_of_toNat_eq (y := 16#6) hn])
  have h17 : op.toNat ≠ 17 := fun hn => h (by simp [BitVec.eq_of_toNat_eq (y := 17#6) hn])
  simp only [if_neg h0, if_neg h16, if_neg h17]

/-- No opcode is ignored. -/
theorem fOp_ignoredCpuBits (w : Word) : (ignoredCpuBits w).extractLsb' 26 6 = 0 := by
  unfold ignoredCpuBits
  dsimp only
  split_ifs <;> rfl

end Ignored

/-! ## Encoding undoes decoding, but for the ignored bits -/

section Encode

variable {w : Word} {i : Instr}

theorem encode_of_cpuSpecial (hop : fOp w = 0#6) (h : cpuSpecial w = some i) :
    encode i = .cpu (w &&& ~~~ignoredCpuBits w) := by
  have row {k : BitVec 6} {m : Word} (hf : fFunct w = k) (hm : ignoredCpuBits (wordR 0 0 0 0 0 k) = m) :
      ignoredCpuBits w = m := by
    rw [← hm]
    exact ignoredCpuBits_special (fOp_wordR ..) hop (by rw [hf, fFunct_wordR])
  unfold cpuSpecial at h
  split at h <;> cases h
  case h_1 | h_2 | h_3 | h_47 | h_48 | h_49 | h_50 | h_51 | h_52 =>
    rename_i hf
    rw [row hf (m := bitsOf 25 21) (by decide), clear_rs, hop, hf]
    rfl
  case h_7 | h_13 | h_15 =>
    rename_i hf
    rw [row hf (m := bitsOf 20 6) (by decide), clear_rt_rd_sa, hop, hf]
    rfl
  case h_8 =>
    rename_i hf
    rw [row hf (m := bitsOf 20 16 ||| bitsOf 10 6) (by decide), clear_rt_sa, hop, hf]
    rfl
  case h_12 | h_14 =>
    rename_i hf
    rw [row hf (m := bitsOf 25 16 ||| bitsOf 10 6) (by decide), clear_rs_rt_sa, hop, hf]
    rfl
  case h_11 =>
    rename_i hf
    rw [row hf (m := bitsOf 25 6) (by decide), clear_allButFunct, hop, hf]
    rfl
  case h_19 | h_20 | h_21 | h_22 | h_23 | h_24 | h_25 | h_26 =>
    rename_i hf
    rw [row hf (m := bitsOf 15 6) (by decide), clear_rd_sa, hop, hf]
    rfl
  case h_9 | h_10 =>
    rename_i hf
    rw [row hf (m := 0) (by decide), clear_none]
    exact congrArg Code.cpu (wordSc_fields hop hf)
  case h_41 | h_42 | h_43 | h_44 | h_45 | h_46 =>
    rename_i hf
    rw [row hf (m := 0) (by decide), clear_none]
    exact congrArg Code.cpu (wordTr_fields hop hf)
  all_goals
    rename_i hf
    rw [row hf (m := bitsOf 10 6) (by decide), clear_sa, hop, hf]
    rfl

theorem encode_of_cpuRegimm (hop : fOp w = 1#6) (h : cpuRegimm w = some i) :
    encode i = .cpu (w &&& ~~~ignoredCpuBits w) := by
  rw [(ignoredCpuBits_primary hop (by decide)).trans (b := ignoredCpuBits (wordJ 1 0)) rfl,
    show ignoredCpuBits (wordJ 1 0) = 0 by decide, clear_none]
  have hw := wordI_fields w
  unfold cpuRegimm at h
  split at h <;> cases h
  all_goals
    rename_i hrt
    rw [hop, hrt] at hw
    exact congrArg Code.cpu hw

theorem encode_of_cpuCo (hop : fOp w = 16#6) (hco : fCo w = true) (h : cpuCo w = some i) :
    encode i = .cpu (w &&& ~~~ignoredCpuBits w) := by
  rw [ignoredCpuBits_co hop hco, clear_belowCo hco]
  unfold cpuCo at h
  split at h <;> cases h
  all_goals
    rename_i hf
    rw [hop, hf]
    rfl

theorem encode_of_cpuCop0Move (hop : fOp w = 16#6) (hco : fCo w = false) (h : cpuCop0Move w = some i) :
    encode i = .cpu (w &&& ~~~ignoredCpuBits w) := by
  rw [ignoredCpuBits_cop0Move hop hco, clear_belowRd, hop]
  unfold cpuCop0Move at h
  split at h <;> cases h
  all_goals
    rename_i hrs
    rw [hrs]
    rfl

/-- A branch's nd and tf are the bits of rt that are kept. -/
theorem encode_of_cpuBc1 (hop : fOp w = 17#6) (hrs : fRs w = 8#5) (h : cpuBc1 w = some i) :
    encode i = .cpu (w &&& ~~~ignoredCpuBits w) := by
  have hm : ignoredCpuBits w = bitsOf 20 18 := by
    rw [ignoredCpuBits_cop1 hop, hrs]
    rfl
  have hrt : fRt w &&& 3 = (fNdTf w).setWidth 5 := by
    rw [← wordI_fields w, fRt_wordI, fNdTf_wordI]
    generalize fRt w = rt
    revert rt
    decide
  rw [hm, show ~~~bitsOf 20 18 = wordI 63 31 3 0xFFFF by decide, and_wordI, hrt, hop, hrs]
  simp only [and_ones6, and_ones5, and_ones16]
  unfold cpuBc1 at h
  split at h <;> cases h
  all_goals
    rename_i hf
    rw [hf]
    rfl

/-- The mask of a coprocessor-1 word with a given rs and funct. -/
theorem ignoredCpuBits_fmt {rs : BitVec 5} {k : BitVec 6} {m : Word} (hop : fOp w = 17#6) (hrs : fRs w = rs)
    (hf : fFunct w = k) (hm : ignoredCpuBits (wordR 17 rs 0 0 0 k) = m) : ignoredCpuBits w = m := by
  rw [← hm, ignoredCpuBits_cop1 hop, ignoredCpuBits_cop1 (w := wordR 17 rs 0 0 0 k) (fOp_wordR ..), fRs_wordR,
    fFunct_wordR, hrs, hf]

theorem encode_of_cpuFmtS (hop : fOp w = 17#6) (hrs : fRs w = 16#5) (h : cpuFmtS w = some i) :
    encode i = .cpu (w &&& ~~~ignoredCpuBits w) := by
  unfold cpuFmtS at h
  split at h <;> cases h
  case h_1 | h_2 | h_3 | h_4 =>
    rename_i hf
    rw [ignoredCpuBits_fmt hop hrs hf (m := 0) (by decide), clear_none]
    have hw := wordR_fields w
    rw [hop, hrs, hf] at hw
    exact congrArg Code.cpu hw
  case h_20 | h_21 | h_22 | h_23 | h_24 | h_25 | h_26 | h_27 | h_28 | h_29 | h_30 | h_31 | h_32 | h_33 | h_34 |
    h_35 =>
    rename_i hf
    rw [ignoredCpuBits_fmt hop hrs hf (m := bitsOf 10 6) (by decide), clear_sa, hop, hrs, hf]
    rfl
  all_goals
    rename_i hf
    rw [ignoredCpuBits_fmt hop hrs hf (m := bitsOf 20 16) (by decide), clear_rt, hop, hrs, hf]
    rfl

theorem encode_of_cpuFmtD (hop : fOp w = 17#6) (hrs : fRs w = 17#5) (h : cpuFmtD w = some i) :
    encode i = .cpu (w &&& ~~~ignoredCpuBits w) := by
  unfold cpuFmtD at h
  split at h <;> cases h
  case h_1 | h_2 | h_3 | h_4 =>
    rename_i hf
    rw [ignoredCpuBits_fmt hop hrs hf (m := 0) (by decide), clear_none]
    have hw := wordR_fields w
    rw [hop, hrs, hf] at hw
    exact congrArg Code.cpu hw
  case h_20 | h_21 | h_22 | h_23 | h_24 | h_25 | h_26 | h_27 | h_28 | h_29 | h_30 | h_31 | h_32 | h_33 | h_34 |
    h_35 =>
    rename_i hf
    rw [ignoredCpuBits_fmt hop hrs hf (m := bitsOf 10 6) (by decide), clear_sa, hop, hrs, hf]
    rfl
  all_goals
    rename_i hf
    rw [ignoredCpuBits_fmt hop hrs hf (m := bitsOf 20 16) (by decide), clear_rt, hop, hrs, hf]
    rfl

theorem encode_of_cpuFmtW (hop : fOp w = 17#6) (hrs : fRs w = 20#5) (h : cpuFmtW w = some i) :
    encode i = .cpu (w &&& ~~~ignoredCpuBits w) := by
  unfold cpuFmtW at h
  split at h <;> cases h
  all_goals
    rename_i hf
    rw [ignoredCpuBits_fmt hop hrs hf (m := bitsOf 20 16) (by decide), clear_rt, hop, hrs, hf]
    rfl

theorem encode_of_cpuFmtL (hop : fOp w = 17#6) (hrs : fRs w = 21#5) (h : cpuFmtL w = some i) :
    encode i = .cpu (w &&& ~~~ignoredCpuBits w) := by
  unfold cpuFmtL at h
  split at h <;> cases h
  all_goals
    rename_i hf
    rw [ignoredCpuBits_fmt hop hrs hf (m := bitsOf 20 16) (by decide), clear_rt, hop, hrs, hf]
    rfl

theorem encode_of_cpuCop1 (hop : fOp w = 17#6) (h : cpuCop1 w = some i) :
    encode i = .cpu (w &&& ~~~ignoredCpuBits w) := by
  unfold cpuCop1 at h
  split at h
  case h_12 => cases h
  case h_7 => exact encode_of_cpuBc1 hop ‹_› h
  case h_8 => exact encode_of_cpuFmtS hop ‹_› h
  case h_9 => exact encode_of_cpuFmtD hop ‹_› h
  case h_10 => exact encode_of_cpuFmtW hop ‹_› h
  case h_11 => exact encode_of_cpuFmtL hop ‹_› h
  all_goals
    rename_i hrs
    cases h
    rw [ignoredCpuBits_cop1 hop, if_pos (by rw [hrs]; decide), clear_belowRd, hop, hrs]
    rfl

/-- What the table reads a word as has that word, ignored bits cleared, as its encoding. -/
theorem encode_of_cpuTable (h : cpuTable w = some i) : encode i = .cpu (w &&& ~~~ignoredCpuBits w) := by
  have row {op : BitVec 6} {m : Word} (hop : fOp w = op) (hk : op ∉ [0#6, 16#6, 17#6])
      (hm : ignoredCpuBits (wordJ op 0) = m) : ignoredCpuBits w = m := (ignoredCpuBits_primary hop hk).trans hm
  have hI := wordI_fields w
  have hJ := wordJ_fields w
  unfold cpuTable at h
  split at h
  case h_1 => exact encode_of_cpuSpecial ‹_› h
  case h_2 => exact encode_of_cpuRegimm ‹_› h
  case h_17 =>
    rename_i hop
    cases hco : fCo w
    · exact encode_of_cpuCop0Move hop hco (by simpa [hco] using h)
    · exact encode_of_cpuCo hop hco (by simpa [hco] using h)
  case h_18 => exact encode_of_cpuCop1 ‹_› h
  all_goals cases h
  case h_3 | h_4 =>
    rename_i hop
    rw [row hop (by decide) (m := 0) (by decide), clear_none]
    rw [hop] at hJ
    exact congrArg Code.cpu hJ
  case h_7 | h_8 | h_21 | h_22 =>
    rename_i hop
    rw [row hop (by decide) (m := bitsOf 20 16) (by decide), clearI_rt, hop]
    rfl
  case h_16 =>
    rename_i hop
    rw [row hop (by decide) (m := bitsOf 25 21) (by decide), clearI_rs, hop]
    rfl
  all_goals
    rename_i hop
    rw [row hop (by decide) (m := 0) (by decide), clear_none]
    rw [hop] at hI
    exact congrArg Code.cpu hI

end Encode

/-! ## Which words are no instruction (R260, R261) -/

section Listed

variable {w v : Word}

theorem cpuSpecial_isSome_congr (h : fFunct v = fFunct w) : (cpuSpecial v).isSome = (cpuSpecial w).isSome := by
  rw [cpuSpecial, cpuSpecial, h]
  split <;> rfl

theorem cpuRegimm_isSome_congr (h : fRt v = fRt w) : (cpuRegimm v).isSome = (cpuRegimm w).isSome := by
  rw [cpuRegimm, cpuRegimm, h]
  split <;> rfl

theorem cpuCo_isSome_congr (h : fFunct v = fFunct w) : (cpuCo v).isSome = (cpuCo w).isSome := by
  rw [cpuCo, cpuCo, h]

theorem cpuCop0Move_isSome_congr (h : fRs v = fRs w) : (cpuCop0Move v).isSome = (cpuCop0Move w).isSome := by
  rw [cpuCop0Move, cpuCop0Move, h]
  split <;> rfl

/-- Every coprocessor-1 branch is listed. -/
theorem cpuBc1_isSome (w : Word) : (cpuBc1 w).isSome = true := by
  have hcongr : (cpuBc1 w).isSome = (cpuBc1 (wordI 0 0 ((fNdTf w).setWidth 5) 0)).isSome := by
    rw [cpuBc1, cpuBc1, show fNdTf (wordI 0 0 ((fNdTf w).setWidth 5) 0) = fNdTf w by
      rw [fNdTf_wordI]
      generalize fNdTf w = x
      revert x
      decide]
    split <;> rfl
  rw [hcongr]
  generalize fNdTf w = x
  revert x
  decide

theorem cpuFmtS_isSome_congr (h : fFunct v = fFunct w) : (cpuFmtS v).isSome = (cpuFmtS w).isSome := by
  rw [cpuFmtS, cpuFmtS, h]
  split <;> rfl

theorem cpuFmtD_isSome_congr (h : fFunct v = fFunct w) : (cpuFmtD v).isSome = (cpuFmtD w).isSome := by
  rw [cpuFmtD, cpuFmtD, h]
  split <;> rfl

theorem cpuFmtW_isSome_congr (h : fFunct v = fFunct w) : (cpuFmtW v).isSome = (cpuFmtW w).isSome := by
  rw [cpuFmtW, cpuFmtW, h]
  split <;> rfl

theorem cpuFmtL_isSome_congr (h : fFunct v = fFunct w) : (cpuFmtL v).isSome = (cpuFmtL w).isSome := by
  rw [cpuFmtL, cpuFmtL, h]
  split <;> rfl

theorem cpuCop1_isSome_congr (hrs : fRs v = fRs w) (hf : 8 < (fRs w).toNat → fFunct v = fFunct w) :
    (cpuCop1 v).isSome = (cpuCop1 w).isSome := by
  rw [cpuCop1, cpuCop1, hrs]
  split
  case h_7 => rw [cpuBc1_isSome, cpuBc1_isSome]
  case h_8 h => exact cpuFmtS_isSome_congr (hf (by rw [h]; decide))
  case h_9 h => exact cpuFmtD_isSome_congr (hf (by rw [h]; decide))
  case h_10 h => exact cpuFmtW_isSome_congr (hf (by rw [h]; decide))
  case h_11 h => exact cpuFmtL_isSome_congr (hf (by rw [h]; decide))
  all_goals rfl

/-- An opcode without a secondary table decides alone. -/
theorem cpuTable_isSome_congr_primary (hop : fOp v = fOp w) (h : fOp w ∉ [0#6, 1#6, 16#6, 17#6]) :
    (cpuTable v).isSome = (cpuTable w).isSome := by
  rw [cpuTable, cpuTable, hop]
  split
  case h_1 | h_2 | h_17 | h_18 =>
    rename_i hk
    exact absurd (by rw [hk]; decide) h
  all_goals rfl

/-- Two words with the same keys: the opcode, and the field that indexes the table behind it. -/
structure SameCpuKey (w v : Word) : Prop where
  op : fOp v = fOp w
  special : fOp w = 0#6 → fFunct v = fFunct w
  regimm : fOp w = 1#6 → fRt v = fRt w
  co : fOp w = 16#6 → fCo v = fCo w
  coFunct : fOp w = 16#6 → fCo w = true → fFunct v = fFunct w
  moveRs : fOp w = 16#6 → fCo w = false → fRs v = fRs w
  cop1Rs : fOp w = 17#6 → fRs v = fRs w
  cop1Funct : fOp w = 17#6 → 8 < (fRs w).toNat → fFunct v = fFunct w

/-- Whether the table lists a word is in its keys. -/
theorem SameCpuKey.isSome_congr (h : SameCpuKey w v) : (cpuTable v).isSome = (cpuTable w).isSome := by
  by_cases hspecial : fOp w = 0#6
  · rw [cpuTable_of_special hspecial, cpuTable_of_special (h.op.trans hspecial)]
    exact cpuSpecial_isSome_congr (h.special hspecial)
  by_cases hregimm : fOp w = 1#6
  · rw [cpuTable_of_regimm hregimm, cpuTable_of_regimm (h.op.trans hregimm)]
    exact cpuRegimm_isSome_congr (h.regimm hregimm)
  by_cases hcop0 : fOp w = 16#6
  · cases hco : fCo w
    · rw [cpuTable_of_cop0Move hcop0 hco, cpuTable_of_cop0Move (h.op.trans hcop0) ((h.co hcop0).trans hco)]
      exact cpuCop0Move_isSome_congr (h.moveRs hcop0 hco)
    · rw [cpuTable_of_co hcop0 hco, cpuTable_of_co (h.op.trans hcop0) ((h.co hcop0).trans hco)]
      exact cpuCo_isSome_congr (h.coFunct hcop0 hco)
  by_cases hcop1 : fOp w = 17#6
  · rw [cpuTable_of_cop1 hcop1, cpuTable_of_cop1 (h.op.trans hcop1)]
    exact cpuCop1_isSome_congr (h.cop1Rs hcop1) (h.cop1Funct hcop1)
  · exact cpuTable_isSome_congr_primary h.op (by simp [hspecial, hregimm, hcop0, hcop1])

/-- So are a word's ignored bits. -/
theorem SameCpuKey.ignored_congr (h : SameCpuKey w v) : ignoredCpuBits v = ignoredCpuBits w := by
  by_cases hspecial : fOp w = 0#6
  · exact ignoredCpuBits_special hspecial (h.op.trans hspecial) (h.special hspecial)
  by_cases hcop0 : fOp w = 16#6
  · have hv := h.op.trans hcop0
    cases hco : fCo w
    · rw [ignoredCpuBits_cop0Move hcop0 hco, ignoredCpuBits_cop0Move hv ((h.co hcop0).trans hco)]
    · rw [ignoredCpuBits_co hcop0 hco, ignoredCpuBits_co hv ((h.co hcop0).trans hco)]
  by_cases hcop1 : fOp w = 17#6
  · rw [ignoredCpuBits_cop1 hcop1, ignoredCpuBits_cop1 (h.op.trans hcop1), h.cop1Rs hcop1]
    by_cases hrs : 8 < (fRs w).toNat
    · rw [h.cop1Funct hcop1 hrs]
    · split
      · rfl
      · rw [if_pos (by omega), if_pos (by omega)]
  · have hprimary : fOp w ∉ [0#6, 16#6, 17#6] := by simp [hspecial, hcop0, hcop1]
    rw [ignoredCpuBits_primary rfl hprimary, ignoredCpuBits_primary h.op hprimary]

/-- Words that differ in ignored bits alone have the same keys: no mask touches the field that chose it. -/
theorem sameCpuKey_of_ignored (h : (w ^^^ v) &&& ~~~ignoredCpuBits w = 0) : SameCpuKey w v where
  op := extractLsb'_eq_of_ignored h (fOp_ignoredCpuBits w) (by decide)
  special hop := by
    refine extractLsb'_eq_of_ignored h ?_ (by decide)
    rw [← ignoredCpuBits_special hop (fOp_wordR 0 0 0 0 0 (fFunct w)) (fFunct_wordR ..)]
    generalize fFunct w = k
    revert k
    decide
  regimm hop := by
    refine extractLsb'_eq_of_ignored h ?_ (by decide)
    rw [ignoredCpuBits_primary hop (by decide)]
    decide
  co hop := by
    have hbit : v.extractLsb' 25 1 = w.extractLsb' 25 1 := by
      refine extractLsb'_eq_of_ignored h ?_ (by decide)
      cases hco : fCo w
      · rw [ignoredCpuBits_cop0Move hop hco]; decide
      · rw [ignoredCpuBits_co hop hco]; decide
    rw [fCo_eq, fCo_eq, hbit]
  coFunct hop hco := by
    refine extractLsb'_eq_of_ignored h ?_ (by decide)
    rw [ignoredCpuBits_co hop hco]
    decide
  moveRs hop hco := by
    refine extractLsb'_eq_of_ignored h ?_ (by decide)
    rw [ignoredCpuBits_cop0Move hop hco]
    decide
  cop1Rs hop := by
    refine extractLsb'_eq_of_ignored h ?_ (by decide)
    rw [ignoredCpuBits_cop1 hop]
    split_ifs <;> decide
  cop1Funct hop hrs := by
    refine extractLsb'_eq_of_ignored h ?_ (by decide)
    rw [ignoredCpuBits_cop1 hop, if_neg (by omega), if_neg (by omega)]
    split_ifs <;> decide

end Listed

/-- Words that differ in ignored bits alone have the same table entry. -/
theorem cpuTable_eq_of_ignored {w v : Word} (h : (w ^^^ v) &&& ~~~ignoredCpuBits w = 0) : cpuTable v = cpuTable w := by
  have hkey := sameCpuKey_of_ignored h
  have hclear : v &&& ~~~ignoredCpuBits v = w &&& ~~~ignoredCpuBits w := by
    rw [hkey.ignored_congr, clear_eq_of_ignored h]
  have hsome := hkey.isSome_congr
  cases hw : cpuTable w with
  | none => simpa [hw] using hsome
  | some i =>
    obtain ⟨j, hv⟩ := Option.isSome_iff_exists.mp (hsome.trans (by rw [hw]; rfl))
    have hj := cpuTable_encode (encode_of_cpuTable hv)
    rw [hclear, cpuTable_encode (encode_of_cpuTable hw)] at hj
    exact hv.trans hj.symm

/-- Settles O2. -/
theorem cpuDecodeAndEncodeAgree : Obligations.CpuDecodeAndEncodeAgree := by
  intro cu1 cu2 cu3
  refine ⟨fun i w h hcp1 => decodeCpu_of_cpuTable (cpuTable_encode h) fun hop => hcp1 ?_, fun w v h => ?_,
    fun i w h => encode_of_cpuTable (cpuTable_of_decodeCpu h)⟩
  · rw [isCp1_of_encode h]
    simpa [or_assoc] using hop
  · have hop := (sameCpuKey_of_ignored h).op
    unfold decodeCpu
    rw [hop, cpuTable_eq_of_ignored h]

end Sys2Proof.Machine
end

section
/-! PROOFS. Which CPU words are no instruction (spec/30_encoding.md R260 to R265). -/

namespace Sys2Proof.Machine

/-! ## The reserved entries, table by table -/

section Reserved

variable (w : Word)

theorem cpuSpecial_isSome_iff :
    (cpuSpecial w).isSome ↔ (fFunct w).toNat ∉ [1, 5, 10, 11, 14, 21, 40, 41, 53, 55, 57, 61] := by
  rw [cpuSpecial_isSome_congr (w := wordR 0 0 0 0 0 (fFunct w)) (fFunct_wordR ..).symm]
  generalize fFunct w = k
  revert k
  decide

theorem cpuRegimm_isSome_iff : (cpuRegimm w).isSome ↔
    ¬((4 ≤ (fRt w).toNat ∧ (fRt w).toNat ≤ 7) ∨ (fRt w).toNat = 13 ∨ (fRt w).toNat = 15 ∨ 20 ≤ (fRt w).toNat) := by
  rw [cpuRegimm_isSome_congr (w := wordI 1 0 (fRt w) 0) (fRt_wordI ..).symm]
  generalize fRt w = k
  revert k
  decide

theorem cpuCo_isSome_iff : (cpuCo w).isSome ↔ (fFunct w).toNat ∈ [1, 2, 6, 8, 24] := by
  rw [cpuCo_isSome_congr (w := wordR 16 16 0 0 0 (fFunct w)) (fFunct_wordR ..).symm]
  generalize fFunct w = k
  revert k
  decide

theorem cpuCop0Move_isSome_iff : (cpuCop0Move w).isSome ↔ (fRs w).toNat ∈ [0, 1, 4, 5] := by
  rw [cpuCop0Move_isSome_congr (w := wordR 16 (fRs w) 0 0 0 0) (fRs_wordR ..).symm]
  generalize fRs w = k
  revert k
  decide

/-- The functs that neither of the two formats lists (R251). -/
def reservedFmt (funct : Nat) : Prop :=
  (16 ≤ funct ∧ funct ≤ 31) ∨ funct = 34 ∨ funct = 35 ∨ (38 ≤ funct ∧ funct ≤ 47)

theorem cpuFmtS_isSome_iff : (cpuFmtS w).isSome ↔ ¬(reservedFmt (fFunct w).toNat ∨ (fFunct w).toNat = 32) := by
  rw [cpuFmtS_isSome_congr (w := wordR 17 16 0 0 0 (fFunct w)) (fFunct_wordR ..).symm]
  generalize fFunct w = k
  unfold reservedFmt
  revert k
  decide

theorem cpuFmtD_isSome_iff : (cpuFmtD w).isSome ↔ ¬(reservedFmt (fFunct w).toNat ∨ (fFunct w).toNat = 33) := by
  rw [cpuFmtD_isSome_congr (w := wordR 17 17 0 0 0 (fFunct w)) (fFunct_wordR ..).symm]
  generalize fFunct w = k
  unfold reservedFmt
  revert k
  decide

theorem cpuFmtW_isSome_iff : (cpuFmtW w).isSome ↔ ¬((fFunct w).toNat ≠ 32 ∧ (fFunct w).toNat ≠ 33) := by
  rw [cpuFmtW_isSome_congr (w := wordR 17 20 0 0 0 (fFunct w)) (fFunct_wordR ..).symm]
  generalize fFunct w = k
  revert k
  decide

theorem cpuFmtL_isSome_iff : (cpuFmtL w).isSome ↔ ¬((fFunct w).toNat ≠ 32 ∧ (fFunct w).toNat ≠ 33) := by
  rw [cpuFmtL_isSome_congr (w := wordR 17 21 0 0 0 (fFunct w)) (fFunct_wordR ..).symm]
  generalize fFunct w = k
  revert k
  decide

/-- The words of coprocessor 1 that no format lists (R250, R251, R606, R607). -/
def reservedCop1 (rs funct : Nat) : Prop :=
  rs = 3 ∨ rs = 7 ∨ (9 ≤ rs ∧ rs ≤ 15) ∨ rs = 18 ∨ rs = 19 ∨ 22 ≤ rs ∨ ((rs = 16 ∨ rs = 17) ∧ reservedFmt funct) ∨
    (rs = 16 ∧ funct = 32) ∨ (rs = 17 ∧ funct = 33) ∨ ((rs = 20 ∨ rs = 21) ∧ funct ≠ 32 ∧ funct ≠ 33)

/-- The rs values that name a move or no row. -/
theorem cpuCop1_isSome_iff_of_move (h : (fRs w).toNat ∉ [8, 16, 17, 20, 21]) :
    (cpuCop1 w).isSome ↔ (fRs w).toNat ∈ [0, 1, 2, 4, 5, 6] := by
  have hcongr : (cpuCop1 w).isSome = (cpuCop1 (wordR 17 (fRs w) 0 0 0 0)).isSome := by
    rw [cpuCop1, cpuCop1, fRs_wordR]
    split
    case h_7 | h_8 | h_9 | h_10 | h_11 =>
      rename_i hrs
      exact absurd (by rw [hrs]; decide) h
    all_goals rfl
  rw [hcongr]
  revert h
  generalize fRs w = k
  revert k
  decide

theorem cpuCop1_isSome_iff : (cpuCop1 w).isSome ↔ ¬reservedCop1 (fRs w).toNat (fFunct w).toNat := by
  by_cases hmove : (fRs w).toNat ∉ [8, 16, 17, 20, 21]
  · rw [cpuCop1_isSome_iff_of_move w hmove]
    have hlt := (fRs w).isLt
    unfold reservedCop1
    simp only [List.mem_cons, List.not_mem_nil, or_false] at hmove ⊢
    omega
  · have hrs : fRs w = 8#5 ∨ fRs w = 16#5 ∨ fRs w = 17#5 ∨ fRs w = 20#5 ∨ fRs w = 21#5 := by
      revert hmove
      generalize fRs w = k
      revert k
      decide
    rcases hrs with hrs | hrs | hrs | hrs | hrs
    · rw [cpuCop1, hrs]
      exact iff_of_true (cpuBc1_isSome w) (by simp [reservedCop1])
    · rw [cpuCop1, hrs]
      exact (cpuFmtS_isSome_iff w).trans (by simp [reservedCop1])
    · rw [cpuCop1, hrs]
      exact (cpuFmtD_isSome_iff w).trans (by simp [reservedCop1])
    · rw [cpuCop1, hrs]
      exact (cpuFmtW_isSome_iff w).trans (by simp [reservedCop1])
    · rw [cpuCop1, hrs]
      exact (cpuFmtL_isSome_iff w).trans (by simp [reservedCop1])

/-- The primary opcodes of coprocessors 2 and 3 (R262). -/
def isCop23 (op : BitVec 6) : Prop := op = 18 ∨ op = 50 ∨ op = 54 ∨ op = 58 ∨ op = 62 ∨ op = 19

/-- The words that are no instruction whatever the coprocessor bits hold (R260, R261). -/
def reservedCpuWord : Prop :=
  (28 ≤ (fOp w).toNat ∧ (fOp w).toNat ≤ 31) ∨ fOp w = 51 ∨ fOp w = 59 ∨
  (fOp w = 0 ∧ (fFunct w).toNat ∈ [1, 5, 10, 11, 14, 21, 40, 41, 53, 55, 57, 61]) ∨
  (fOp w = 1 ∧
    ((4 ≤ (fRt w).toNat ∧ (fRt w).toNat ≤ 7) ∨ (fRt w).toNat = 13 ∨ (fRt w).toNat = 15 ∨ 20 ≤ (fRt w).toNat)) ∨
  (fOp w = 16 ∧ (fRs w).toNat < 16 ∧ (fRs w).toNat ∉ [0, 1, 4, 5]) ∨
  (fOp w = 16 ∧ 16 ≤ (fRs w).toNat ∧ (fFunct w).toNat ∉ [1, 2, 6, 8, 24]) ∨
  (fOp w = 17 ∧ reservedCop1 (fRs w).toNat (fFunct w).toNat)

theorem cpuTable_isSome_iff_of_primary (h : fOp w ∉ [0#6, 1#6, 16#6, 17#6]) :
    (cpuTable w).isSome ↔ ¬((28 ≤ (fOp w).toNat ∧ (fOp w).toNat ≤ 31) ∨ fOp w = 51 ∨ fOp w = 59) ∧ ¬isCop23 (fOp w) := by
  rw [cpuTable_isSome_congr_primary (v := w) (w := wordJ (fOp w) 0) (fOp_wordJ ..).symm (by rwa [fOp_wordJ])]
  revert h
  generalize fOp w = k
  unfold isCop23
  revert k
  decide

variable {w}

/-- Outside coprocessors 2 and 3 the table lists a word exactly when it is not reserved. -/
theorem cpuTable_isSome_iff (h23 : ¬isCop23 (fOp w)) : (cpuTable w).isSome ↔ ¬reservedCpuWord w := by
  by_cases hspecial : fOp w = 0#6
  · rw [cpuTable_of_special hspecial, cpuSpecial_isSome_iff]
    simp [reservedCpuWord, hspecial]
  by_cases hregimm : fOp w = 1#6
  · rw [cpuTable_of_regimm hregimm, cpuRegimm_isSome_iff]
    simp [reservedCpuWord, hregimm]
  by_cases hcop0 : fOp w = 16#6
  · cases hco : fCo w
    · have hrs : (fRs w).toNat < 16 := by
        rw [← not_le, ← fCo_iff, hco]
        decide
      rw [cpuTable_of_cop0Move hcop0 hco, cpuCop0Move_isSome_iff]
      simp [reservedCpuWord, hcop0, hrs, not_le.mpr hrs, or_iff_not_imp_left]
    · have hrs := fCo_iff.mp hco
      rw [cpuTable_of_co hcop0 hco, cpuCo_isSome_iff]
      simp [reservedCpuWord, hcop0, hrs, not_lt.mpr hrs, or_iff_not_imp_left]
  by_cases hcop1 : fOp w = 17#6
  · rw [cpuTable_of_cop1 hcop1, cpuCop1_isSome_iff]
    simp [reservedCpuWord, hcop1]
  · rw [cpuTable_isSome_iff_of_primary w (by simp [hspecial, hregimm, hcop0, hcop1]), and_iff_left h23]
    simp [reservedCpuWord, hspecial, hregimm, hcop0, hcop1]

/-! ## The coprocessor check (R262, R263, R265) -/

/-- The primary opcodes of coprocessor 1. -/
def isCop1Op (op : BitVec 6) : Prop := op = 17 ∨ op = 49 ∨ op = 53 ∨ op = 57 ∨ op = 61

variable {cu1 cu2 cu3 : Bool}

theorem decodeCpu_of_cop1 (h : isCop1Op (fOp w)) : decodeCpu cu1 cu2 cu3 w =
    if cu1 then (cpuTable w).elim (.error .reserved) .ok else .error (.coprocessorUnusable 1) := by
  unfold decodeCpu
  rcases h with h | h | h | h | h <;> rw [h] <;> rfl

theorem decodeCpu_of_cop2 (h : fOp w = 18 ∨ fOp w = 50 ∨ fOp w = 54 ∨ fOp w = 58 ∨ fOp w = 62) :
    decodeCpu cu1 cu2 cu3 w = .error (if cu2 then .reserved else .coprocessorUnusable 2) := by
  unfold decodeCpu
  rcases h with h | h | h | h | h <;> rw [h] <;> rfl

theorem decodeCpu_of_cop3 (h : fOp w = 19) :
    decodeCpu cu1 cu2 cu3 w = .error (if cu3 then .reserved else .coprocessorUnusable 3) := by
  unfold decodeCpu
  rw [h]
  rfl

theorem decodeCpu_of_main (h1 : ¬isCop1Op (fOp w)) (h23 : ¬isCop23 (fOp w)) :
    decodeCpu cu1 cu2 cu3 w = (cpuTable w).elim (.error .reserved) .ok := by
  unfold decodeCpu
  split
  case h_12 => rfl
  case h_1 | h_2 | h_3 | h_4 | h_5 =>
    rename_i hop
    exact absurd (by simp [isCop1Op, hop]) h1
  all_goals
    rename_i hop
    exact absurd (by simp [isCop23, hop]) h23

/-- Past the coprocessor check the table decides. -/
theorem decodeCpu_of_usable (h1 : isCop1Op (fOp w) → cu1 = true) (h23 : ¬isCop23 (fOp w)) :
    decodeCpu cu1 cu2 cu3 w = (cpuTable w).elim (.error .reserved) .ok := by
  by_cases hcop1 : isCop1Op (fOp w)
  · rw [decodeCpu_of_cop1 hcop1, h1 hcop1]
    rfl
  · exact decodeCpu_of_main hcop1 h23

/-- The table's own answer is never that a coprocessor is unusable. -/
theorem elim_ne_unusable (o : Option Instr) (z : BitVec 2) :
    o.elim (.error .reserved) .ok ≠ (.error (.coprocessorUnusable z) : Except Rejected Instr) := by
  cases o <;> simp

/-- A word of coprocessor 2 or 3 is no reserved entry of another table. -/
theorem not_reservedCpuWord_of_cop23 (h : isCop23 (fOp w)) : ¬reservedCpuWord w := by
  rcases h with h | h | h | h | h | h <;> simp [reservedCpuWord, h]

end Reserved

/-- Settles O5. -/
theorem unusableAndReservedCpuWords : Obligations.UnusableAndReservedCpuWords := by
  intro cu1 cu2 cu3 w
  refine ⟨fun h => ⟨decodeCpu_of_cop1 h, ?_, ?_⟩, decodeCpu_of_cop2, decodeCpu_of_cop3, fun h => ?_, fun h1 => ?_⟩
  · rw [decodeCpu_of_cop1 h, decodeCpu_of_cop1 h]
  · rw [decodeCpu_of_cop1 h]
    exact elim_ne_unusable _ 1
  · obtain ⟨h17, h49, h53, h57, h61, h18, h50, h54, h58, h62, h19⟩ := h
    have h1 : ¬isCop1Op (fOp w) := not_or.mpr ⟨h17, not_or.mpr ⟨h49, not_or.mpr ⟨h53, not_or.mpr ⟨h57, h61⟩⟩⟩⟩
    have h23 : ¬isCop23 (fOp w) :=
      not_or.mpr ⟨h18, not_or.mpr ⟨h50, not_or.mpr ⟨h54, not_or.mpr ⟨h58, not_or.mpr ⟨h62, h19⟩⟩⟩⟩⟩
    rw [decodeCpu_of_main h1 h23, decodeCpu_of_main h1 h23]
    exact ⟨rfl, elim_ne_unusable _⟩
  · refine ⟨fun hres => ?_, fun hres h18 h50 h54 h58 h62 h19 => ?_⟩
    · have h23 : ¬isCop23 (fOp w) := fun h => not_reservedCpuWord_of_cop23 h hres
      rw [decodeCpu_of_usable h1 h23, Option.not_isSome_iff_eq_none.mp fun h => (cpuTable_isSome_iff h23).mp h hres]
      rfl
    · have h23 : ¬isCop23 (fOp w) :=
        not_or.mpr ⟨h18, not_or.mpr ⟨h50, not_or.mpr ⟨h54, not_or.mpr ⟨h58, not_or.mpr ⟨h62, h19⟩⟩⟩⟩⟩
      obtain ⟨i, hi⟩ := Option.isSome_iff_exists.mp ((cpuTable_isSome_iff h23).mpr hres)
      exact ⟨i, by rw [decodeCpu_of_usable h1 h23, hi]; rfl⟩

end Sys2Proof.Machine
end

section
/-! PROOFS. The VectorUnit's decoder and encoder (spec/46_vector_unit.md R634, R635, R694; spec/47_vector_ops.md R720,
R739, R740). -/

namespace Sys2Proof.Machine

/-! ## Which table reads a word -/

section Tables

variable {w : Word}

theorem decodeRsp_of_special (hop : fOp w = 0#6) : decodeRsp w = rspSpecial w := by
  rw [decodeRsp, hop]; rfl
theorem decodeRsp_of_regimm (hop : fOp w = 1#6) : decodeRsp w = rspRegimm w := by
  rw [decodeRsp, hop]; rfl
theorem decodeRsp_of_cop0 (hop : fOp w = 16#6) : decodeRsp w = rspCop0 w := by
  rw [decodeRsp, hop]; rfl
theorem decodeRsp_of_lwc2 (hop : fOp w = 50#6) : decodeRsp w = rspLwc2 w := by
  rw [decodeRsp, hop]; rfl
theorem decodeRsp_of_swc2 (hop : fOp w = 58#6) : decodeRsp w = rspSwc2 w := by
  rw [decodeRsp, hop]; rfl
theorem decodeRsp_of_vector (hop : fOp w = 18#6) (hco : fCo w = true) : decodeRsp w = rspVector w := by
  rw [decodeRsp, hop]; exact if_pos hco
theorem decodeRsp_of_cop2Move (hop : fOp w = 18#6) (hco : fCo w = false) : decodeRsp w = rspCop2Move w := by
  rw [decodeRsp, hop]; exact if_neg (by simp [hco])

end Tables

/-! ## Decoding undoes encoding -/

/-- The table reads an encoded instruction back. Each row: which table it is in, its key, and its fields. -/
theorem decodeRsp_encode {i : Instr} {w : Word} (h : encode i = .vectorUnit w) : decodeRsp w = .ok i := by
  cases i <;> cases h
  case rspBreak =>
    refine (decodeRsp_of_special (fOp_wordSc ..)).trans ?_
    rw [rspSpecial, fFunct_wordSc]
    conv_lhs => whnf
    simp only [fCode20_wordSc]
  case rspSll | rspSrl | rspSra | rspSllv | rspSrlv | rspSrav | rspJr | rspJalr | rspAdd | rspAddu | rspSub |
    rspSubu | rspAnd | rspOr | rspXor | rspNor | rspSlt | rspSltu =>
    refine (decodeRsp_of_special (fOp_wordR ..)).trans ?_
    rw [rspSpecial, fFunct_wordR]
    conv_lhs => whnf
    simp only [fRs_wordR, fRt_wordR, fRd_wordR, fSa_wordR]
  case rspBltz | rspBgez | rspBltzal | rspBgezal =>
    refine (decodeRsp_of_regimm (fOp_wordI ..)).trans ?_
    rw [rspRegimm, fRt_wordI]
    conv_lhs => whnf
    simp only [fRs_wordI, fImm_wordI]
  case rspMfc0 | rspMtc0 =>
    refine (decodeRsp_of_cop0 (fOp_wordR ..)).trans ?_
    rw [rspCop0, fRs_wordR]
    conv_lhs => whnf
    simp only [fRt_wordR, fRd_wordR]
  case rspMfc2 | rspMtc2 =>
    refine (decodeRsp_of_cop2Move (fOp_wordMove2 ..) (by rw [fCo_wordMove2]; decide)).trans ?_
    rw [rspCop2Move, fRs_wordMove2]
    conv_lhs => whnf
    simp only [fRt_wordMove2, fRd_wordMove2, fElem_wordMove2]
  case rspCfc2 | rspCtc2 =>
    refine (decodeRsp_of_cop2Move (fOp_wordR ..) (by rw [fCo_wordR]; decide)).trans ?_
    rw [rspCop2Move, fRs_wordR]
    conv_lhs => whnf
    simp only [fRt_wordR, fRd_wordR]
  case rspLbv | rspLsv | rspLlv | rspLdv | rspLqv | rspLrv | rspLpv | rspLuv | rspLhv | rspLfv | rspLwv | rspLtv =>
    refine (decodeRsp_of_lwc2 (fOp_wordVls ..)).trans ?_
    rw [rspLwc2, fRd_wordVls]
    conv_lhs => whnf
    simp only [fRs_wordVls, fRt_wordVls, fElem_wordVls, fOffset7_wordVls]
  case rspSbv | rspSsv | rspSlv | rspSdv | rspSqv | rspSrv | rspSpv | rspSuv | rspShv | rspSfv | rspSwv | rspStv =>
    refine (decodeRsp_of_swc2 (fOp_wordVls ..)).trans ?_
    rw [rspSwc2, fRd_wordVls]
    conv_lhs => whnf
    simp only [fRs_wordVls, fRt_wordVls, fElem_wordVls, fOffset7_wordVls]
  case rspVnop => rfl
  case rspVmulf | rspVmulu | rspVrndp | rspVmulq | rspVmudl | rspVmudm | rspVmudn | rspVmudh | rspVmacf |
    rspVmacu | rspVrndn | rspVmacq | rspVmadl | rspVmadm | rspVmadn | rspVmadh | rspVadd | rspVsub | rspVabs |
    rspVaddc | rspVsubc | rspVsar | rspVlt | rspVeq | rspVne | rspVge | rspVcl | rspVch | rspVcr | rspVmrg |
    rspVand | rspVnand | rspVor | rspVnor | rspVxor | rspVnxor | rspVrcp | rspVrcpl | rspVrcph | rspVmov |
    rspVrsq | rspVrsql | rspVrsqh =>
    refine (decodeRsp_of_vector (fOp_wordVop ..) (fCo_wordVop ..)).trans ?_
    rw [rspVector, fFunct_wordVop]
    conv_lhs => whnf
    simp only [fRt_wordVop, fRd_wordVop, fSa_wordVop, fVElem_wordVop]
  case rspJ | rspJal =>
    rw [decodeRsp, fOp_wordJ]
    conv_lhs => whnf
    rw [fTarget_wordJ]
  all_goals
    rw [decodeRsp, fOp_wordI]
    conv_lhs => whnf
    simp only [fRs_wordI, fRt_wordI, fImm_wordI]

/-! ## The ignored bits, by table (R635, R739, R740) -/

section Ignored

variable {w v : Word}

/-- A SPECIAL word's ignored bits depend on its funct alone. -/
theorem ignoredVuBits_special (hw : fOp w = 0#6) (hv : fOp v = 0#6) (hf : fFunct v = fFunct w) :
    ignoredVuBits v = ignoredVuBits w := by
  unfold ignoredVuBits
  rw [show w.extractLsb' 26 6 = 0#6 from hw, show v.extractLsb' 26 6 = 0#6 from hv,
    show v.extractLsb' 0 6 = w.extractLsb' 0 6 from hf]
  rfl

theorem ignoredVuBits_vector (hw : fOp w = 18#6) (hco : fCo w = true) : ignoredVuBits w =
    if (fFunct w).toNat = 29 then bitsOf 20 11 else if (fFunct w).toNat = 55 then bitsOf 24 6 else 0 := by
  unfold ignoredVuBits
  rw [show w.extractLsb' 26 6 = 18#6 from hw, show w.getLsbD 25 = true from hco]
  rfl

theorem ignoredVuBits_cop2Move (hw : fOp w = 18#6) (hco : fCo w = false) : ignoredVuBits w =
    if (fRs w).toNat ∈ [0, 4] then bitsOf 6 0 else bitsOf 10 0 := by
  unfold ignoredVuBits
  rw [show w.extractLsb' 26 6 = 18#6 from hw, show w.getLsbD 25 = false from hco]
  rfl

/-- Every other word's depend on its opcode alone. -/
theorem ignoredVuBits_primary {op : BitVec 6} (hw : fOp w = op) (h : op ∉ [0#6, 18#6]) :
    ignoredVuBits w = ignoredVuBits (wordJ op 0) := by
  unfold ignoredVuBits
  rw [show w.extractLsb' 26 6 = op from hw, show (wordJ op 0).extractLsb' 26 6 = op from fOp_wordJ ..]
  have h0 : op.toNat ≠ 0 := fun hn => h (by simp [BitVec.eq_of_toNat_eq (y := 0#6) hn])
  have h18 : op.toNat ≠ 18 := fun hn => h (by simp [BitVec.eq_of_toNat_eq (y := 18#6) hn])
  simp only [if_neg h0, if_neg h18]

/-- No opcode is ignored. -/
theorem fOp_ignoredVuBits (w : Word) : (ignoredVuBits w).extractLsb' 26 6 = 0 := by
  unfold ignoredVuBits
  dsimp only
  split_ifs <;> rfl

end Ignored

/-! ## Encoding undoes decoding, but for the ignored bits -/

section Encode

variable {w : Word} {i : Instr}

theorem encode_of_rspSpecial (hop : fOp w = 0#6) (h : rspSpecial w = .ok i) :
    encode i = .vectorUnit (w &&& ~~~ignoredVuBits w) := by
  have row {k : BitVec 6} {m : Word} (hf : fFunct w = k) (hm : ignoredVuBits (wordR 0 0 0 0 0 k) = m) :
      ignoredVuBits w = m := by
    rw [← hm]
    exact ignoredVuBits_special (fOp_wordR ..) hop (by rw [hf, fFunct_wordR])
  unfold rspSpecial at h
  split at h <;> cases h
  case h_1 | h_2 | h_3 =>
    rename_i hf
    rw [row hf (m := bitsOf 25 21) (by decide), clear_rs, hop, hf]
    rfl
  case h_7 =>
    rename_i hf
    rw [row hf (m := bitsOf 20 6) (by decide), clear_rt_rd_sa, hop, hf]
    rfl
  case h_8 =>
    rename_i hf
    rw [row hf (m := bitsOf 20 16 ||| bitsOf 10 6) (by decide), clear_rt_sa, hop, hf]
    rfl
  case h_9 =>
    rename_i hf
    rw [row hf (m := 0) (by decide), clear_none]
    exact congrArg Code.vectorUnit (wordSc_fields hop hf)
  all_goals
    rename_i hf
    rw [row hf (m := bitsOf 10 6) (by decide), clear_sa, hop, hf]
    rfl

theorem encode_of_rspRegimm (hop : fOp w = 1#6) (h : rspRegimm w = .ok i) :
    encode i = .vectorUnit (w &&& ~~~ignoredVuBits w) := by
  rw [(ignoredVuBits_primary hop (by decide)).trans (b := ignoredVuBits (wordJ 1 0)) rfl,
    show ignoredVuBits (wordJ 1 0) = 0 by decide, clear_none]
  have hw := wordI_fields w
  unfold rspRegimm at h
  split at h <;> cases h
  all_goals
    rename_i hrt
    rw [hop, hrt] at hw
    exact congrArg Code.vectorUnit hw

theorem encode_of_rspCop0 (hop : fOp w = 16#6) (h : rspCop0 w = .ok i) :
    encode i = .vectorUnit (w &&& ~~~ignoredVuBits w) := by
  rw [(ignoredVuBits_primary hop (by decide)).trans (b := ignoredVuBits (wordJ 16 0)) rfl,
    show ignoredVuBits (wordJ 16 0) = bitsOf 10 0 by decide, clear_belowRd, hop]
  unfold rspCop0 at h
  split at h <;> cases h
  all_goals
    rename_i hrs
    rw [hrs]
    rfl

theorem encode_of_rspCop2Move (hop : fOp w = 18#6) (hco : fCo w = false) (h : rspCop2Move w = .ok i) :
    encode i = .vectorUnit (w &&& ~~~ignoredVuBits w) := by
  rw [ignoredVuBits_cop2Move hop hco]
  unfold rspCop2Move at h
  split at h <;> cases h
  case h_1 | h_3 =>
    rename_i hrs
    rw [if_pos (by rw [hrs]; decide), clear_belowElem, hop, hrs]
    rfl
  all_goals
    rename_i hrs
    rw [if_neg (by rw [hrs]; decide), clear_belowRd, hop, hrs]
    rfl

/-- The word of VSAR, its vt and vs cleared. -/
theorem wordVop_of_vsar (hop : fOp w = 18#6) (hco : fCo w = true) (hf : fFunct w = 29#6) :
    wordVop (fVElem w) 0 0 (fSa w) 29 = w &&& ~~~bitsOf 20 11 := by
  have hclear := clear_rt_rd w
  have hvelem : fVElem w = (fRs w).setWidth 4 := by
    conv_lhs => rw [← wordR_fields w, fVElem_wordR]
  have hword := wordVop_fields (w := wordR 18 (fRs w) 0 0 (fSa w) 29) (funct := 29) (fOp_wordR ..)
    (by rw [fCo_wordR]; exact decide_eq_true (fCo_iff.mp hco)) (fFunct_wordR ..)
  rw [fVElem_wordR, fRt_wordR, fRd_wordR, fSa_wordR] at hword
  rw [hclear, hop, hf, hvelem]
  exact hword

theorem encode_of_rspVector (hop : fOp w = 18#6) (hco : fCo w = true) (h : rspVector w = .ok i) :
    encode i = .vectorUnit (w &&& ~~~ignoredVuBits w) := by
  rw [ignoredVuBits_vector hop hco]
  unfold rspVector at h
  split at h <;> cases h
  case h_22 =>
    rename_i hf
    rw [if_pos (by rw [hf]; decide)]
    exact congrArg Code.vectorUnit (wordVop_of_vsar hop hco hf)
  case h_44 =>
    rename_i hf
    rw [if_neg (by rw [hf]; decide), if_pos (by rw [hf]; decide), clear_belowCo hco, hop, hf]
    decide
  all_goals
    rename_i hf
    rw [if_neg (by rw [hf]; decide), if_neg (by rw [hf]; decide), clear_none]
    exact congrArg Code.vectorUnit (wordVop_fields hop hco hf)

theorem encode_of_rspLwc2 (hop : fOp w = 50#6) (h : rspLwc2 w = .ok i) :
    encode i = .vectorUnit (w &&& ~~~ignoredVuBits w) := by
  rw [(ignoredVuBits_primary hop (by decide)).trans (b := ignoredVuBits (wordJ 50 0)) rfl,
    show ignoredVuBits (wordJ 50 0) = 0 by decide, clear_none]
  have hw := wordVls_fields w
  unfold rspLwc2 at h
  split at h <;> cases h
  all_goals
    rename_i hrd
    rw [hop, hrd] at hw
    exact congrArg Code.vectorUnit hw

theorem encode_of_rspSwc2 (hop : fOp w = 58#6) (h : rspSwc2 w = .ok i) :
    encode i = .vectorUnit (w &&& ~~~ignoredVuBits w) := by
  rw [(ignoredVuBits_primary hop (by decide)).trans (b := ignoredVuBits (wordJ 58 0)) rfl,
    show ignoredVuBits (wordJ 58 0) = 0 by decide, clear_none]
  have hw := wordVls_fields w
  unfold rspSwc2 at h
  split at h <;> cases h
  all_goals
    rename_i hrd
    rw [hop, hrd] at hw
    exact congrArg Code.vectorUnit hw

/-- What the table reads a word as has that word, ignored bits cleared, as its encoding. -/
theorem encode_of_decodeRsp (h : decodeRsp w = .ok i) : encode i = .vectorUnit (w &&& ~~~ignoredVuBits w) := by
  have row {op : BitVec 6} {m : Word} (hop : fOp w = op) (hk : op ∉ [0#6, 18#6]) (hm : ignoredVuBits (wordJ op 0) = m) :
      ignoredVuBits w = m := (ignoredVuBits_primary hop hk).trans hm
  have hI := wordI_fields w
  have hJ := wordJ_fields w
  unfold decodeRsp at h
  split at h
  case h_1 => exact encode_of_rspSpecial ‹_› h
  case h_2 => exact encode_of_rspRegimm ‹_› h
  case h_17 => exact encode_of_rspCop0 ‹_› h
  case h_18 =>
    rename_i hop
    cases hco : fCo w
    · exact encode_of_rspCop2Move hop hco (by simpa [hco] using h)
    · exact encode_of_rspVector hop hco (by simpa [hco] using h)
  case h_28 => exact encode_of_rspLwc2 ‹_› h
  case h_29 => exact encode_of_rspSwc2 ‹_› h
  all_goals cases h
  case h_3 | h_4 =>
    rename_i hop
    rw [row hop (by decide) (m := 0) (by decide), clear_none]
    rw [hop] at hJ
    exact congrArg Code.vectorUnit hJ
  case h_7 | h_8 =>
    rename_i hop
    rw [row hop (by decide) (m := bitsOf 20 16) (by decide), clearI_rt, hop]
    rfl
  case h_16 =>
    rename_i hop
    rw [row hop (by decide) (m := bitsOf 25 21) (by decide), clearI_rs, hop]
    rfl
  all_goals
    rename_i hop
    rw [row hop (by decide) (m := 0) (by decide), clear_none]
    rw [hop] at hI
    exact congrArg Code.vectorUnit hI

end Encode

/-! ## Ignored bits do not matter -/

/-- A decoder's answer, the instruction left out. -/
def verdict (r : Except Rejected Instr) : Except Rejected Unit := r.map fun _ => ()

section Verdict

variable {w v : Word}

theorem verdict_rspSpecial_congr (h : fFunct v = fFunct w) : verdict (rspSpecial v) = verdict (rspSpecial w) := by
  rw [rspSpecial, rspSpecial, h]
  split <;> rfl

theorem verdict_rspRegimm_congr (h : fRt v = fRt w) : verdict (rspRegimm v) = verdict (rspRegimm w) := by
  rw [rspRegimm, rspRegimm, h]
  split <;> rfl

theorem verdict_rspCop0_congr (h : fRs v = fRs w) : verdict (rspCop0 v) = verdict (rspCop0 w) := by
  rw [rspCop0, rspCop0, h]
  split <;> rfl

theorem verdict_rspCop2Move_congr (h : fRs v = fRs w) : verdict (rspCop2Move v) = verdict (rspCop2Move w) := by
  rw [rspCop2Move, rspCop2Move, h]
  split <;> rfl

theorem verdict_rspVector_congr (h : fFunct v = fFunct w) : verdict (rspVector v) = verdict (rspVector w) := by
  rw [rspVector, rspVector, h]
  split <;> rfl

theorem verdict_rspLwc2_congr (h : fRd v = fRd w) : verdict (rspLwc2 v) = verdict (rspLwc2 w) := by
  rw [rspLwc2, rspLwc2, h]
  split <;> rfl

theorem verdict_rspSwc2_congr (h : fRd v = fRd w) : verdict (rspSwc2 v) = verdict (rspSwc2 w) := by
  rw [rspSwc2, rspSwc2, h]
  split <;> rfl

/-- Two words with the same keys: the opcode, and the field that indexes the table behind it. -/
structure SameVuKey (w v : Word) : Prop where
  op : fOp v = fOp w
  special : fOp w = 0#6 → fFunct v = fFunct w
  regimm : fOp w = 1#6 → fRt v = fRt w
  cop0 : fOp w = 16#6 → fRs v = fRs w
  co : fOp w = 18#6 → fCo v = fCo w
  vector : fOp w = 18#6 → fCo w = true → fFunct v = fFunct w
  moveRs : fOp w = 18#6 → fCo w = false → fRs v = fRs w
  transfer : fOp w = 50#6 ∨ fOp w = 58#6 → fRd v = fRd w

/-- The verdict on a word is in its keys. -/
theorem SameVuKey.verdict_congr (h : SameVuKey w v) : verdict (decodeRsp v) = verdict (decodeRsp w) := by
  rw [decodeRsp, decodeRsp, h.op]
  split
  case h_1 => exact verdict_rspSpecial_congr (h.special ‹_›)
  case h_2 => exact verdict_rspRegimm_congr (h.regimm ‹_›)
  case h_17 => exact verdict_rspCop0_congr (h.cop0 ‹_›)
  case h_18 =>
    rename_i hop
    rw [h.co hop]
    cases hco : fCo w
    · exact verdict_rspCop2Move_congr (h.moveRs hop hco)
    · exact verdict_rspVector_congr (h.vector hop hco)
  case h_28 => exact verdict_rspLwc2_congr (h.transfer (.inl ‹_›))
  case h_29 => exact verdict_rspSwc2_congr (h.transfer (.inr ‹_›))
  all_goals rfl

/-- So are a word's ignored bits. -/
theorem SameVuKey.ignored_congr (h : SameVuKey w v) : ignoredVuBits v = ignoredVuBits w := by
  by_cases hspecial : fOp w = 0#6
  · exact ignoredVuBits_special hspecial (h.op.trans hspecial) (h.special hspecial)
  by_cases hcop2 : fOp w = 18#6
  · have hv := h.op.trans hcop2
    cases hco : fCo w
    · rw [ignoredVuBits_cop2Move hcop2 hco, ignoredVuBits_cop2Move hv ((h.co hcop2).trans hco), h.moveRs hcop2 hco]
    · rw [ignoredVuBits_vector hcop2 hco, ignoredVuBits_vector hv ((h.co hcop2).trans hco), h.vector hcop2 hco]
  · have hprimary : fOp w ∉ [0#6, 18#6] := by simp [hspecial, hcop2]
    rw [ignoredVuBits_primary rfl hprimary, ignoredVuBits_primary h.op hprimary]

/-- Words that differ in ignored bits alone have the same keys: no mask touches the field that chose it. -/
theorem sameVuKey_of_ignored (h : (w ^^^ v) &&& ~~~ignoredVuBits w = 0) : SameVuKey w v where
  op := extractLsb'_eq_of_ignored h (fOp_ignoredVuBits w) (by decide)
  special hop := by
    refine extractLsb'_eq_of_ignored h ?_ (by decide)
    rw [← ignoredVuBits_special hop (fOp_wordR 0 0 0 0 0 (fFunct w)) (fFunct_wordR ..)]
    generalize fFunct w = k
    revert k
    decide
  regimm hop := by
    refine extractLsb'_eq_of_ignored h ?_ (by decide)
    rw [ignoredVuBits_primary hop (by decide)]
    decide
  cop0 hop := by
    refine extractLsb'_eq_of_ignored h ?_ (by decide)
    rw [ignoredVuBits_primary hop (by decide)]
    decide
  co hop := by
    have hbit : v.extractLsb' 25 1 = w.extractLsb' 25 1 := by
      refine extractLsb'_eq_of_ignored h ?_ (by decide)
      cases hco : fCo w
      · rw [ignoredVuBits_cop2Move hop hco]
        split_ifs <;> decide
      · rw [ignoredVuBits_vector hop hco]
        split_ifs <;> decide
    rw [fCo_eq, fCo_eq, hbit]
  vector hop hco := by
    refine extractLsb'_eq_of_ignored h ?_ (by decide)
    rw [ignoredVuBits_vector hop hco]
    split_ifs <;> decide
  moveRs hop hco := by
    refine extractLsb'_eq_of_ignored h ?_ (by decide)
    rw [ignoredVuBits_cop2Move hop hco]
    split_ifs <;> decide
  transfer hop := by
    refine extractLsb'_eq_of_ignored h ?_ (by decide)
    rcases hop with hop | hop <;> rw [ignoredVuBits_primary hop (by decide)] <;> decide

end Verdict

/-- Words that differ in ignored bits alone decode alike. -/
theorem decodeRsp_eq_of_ignored {w v : Word} (h : (w ^^^ v) &&& ~~~ignoredVuBits w = 0) : decodeRsp v = decodeRsp w := by
  have hkey := sameVuKey_of_ignored h
  have hclear : v &&& ~~~ignoredVuBits v = w &&& ~~~ignoredVuBits w := by
    rw [hkey.ignored_congr, clear_eq_of_ignored h]
  have hverdict := hkey.verdict_congr
  cases hw : decodeRsp w with
  | error e =>
    rw [hw] at hverdict
    cases hv : decodeRsp v with
    | error e' => rw [hv] at hverdict; exact congrArg Except.error (Except.error.inj hverdict)
    | ok j => rw [hv] at hverdict; exact nomatch hverdict
  | ok i =>
    rw [hw] at hverdict
    cases hv : decodeRsp v with
    | error e' => rw [hv] at hverdict; exact nomatch hverdict
    | ok j =>
      have hj := decodeRsp_encode (encode_of_decodeRsp hv)
      rw [hclear, decodeRsp_encode (encode_of_decodeRsp hw)] at hj
      exact hj.symm

/-- Settles O3. -/
theorem vectorUnitDecodeAndEncodeAgree : Obligations.VectorUnitDecodeAndEncodeAgree :=
  ⟨fun _ _ => decodeRsp_encode, fun _ _ => decodeRsp_eq_of_ignored, fun _ _ => encode_of_decodeRsp⟩

end Sys2Proof.Machine
end

section
/-! PROOFS. The DisplayProcessor's decoder and encoder (spec/48_rasterizer.md R1002, R1004, R1010, R1025 to R1028, R1040,
R1041). -/

namespace Sys2Proof.Machine

/-! ## Decoding undoes encoding -/

/-- The table reads an encoded command back. -/
theorem rdpTable_encode {i : Instr} {w : Dword} {rest : List Dword} (h : encode i = .displayProcessor (w :: rest)) :
    rdpTable w rest = .ok i := by
  cases i <;> cases h
  case rdpNop | rdpSyncLoad | rdpSyncPipe | rdpSyncTile | rdpSyncFull =>
    rw [rdpTable, commandOp_wordCmd]
    rfl
  case rdpFillRectangle xl yl xh yh =>
    obtain ⟨hxl, hyl, hxh, hyh⟩ := fillRectangle_fields xl yl xh yh
    rw [rdpTable, commandOp_wordCmd]
    conv_lhs => whnf
    rw [hxl, hyl, hxh, hyh]
  case rdpSetFillColor =>
    rw [rdpTable, commandOp_wordCmd]
    conv_lhs => whnf
    rw [fillColor_field]
  all_goals
    rw [rdpTable, commandOp_wordCmd]
    conv_lhs => whnf
    rw [commandPayload_wordCmd]

/-- A well-formed command has as many words as its top byte asks for. -/
theorem length_encode {i : Instr} {ws : List Dword} (hwf : i.wellFormed = true) (h : encode i = .displayProcessor ws) :
    ∃ w rest, ws = w :: rest ∧ ws.length = commandLength (commandOp w) := by
  cases i <;> cases h
  case rdpTriangle | rdpTriangleZ | rdpTriangleTex | rdpTriangleTexZ | rdpTriangleShade | rdpTriangleShadeZ |
    rdpTriangleShadeTex | rdpTriangleShadeTexZ | rdpTextureRectangle | rdpTextureRectangleFlip =>
    refine ⟨_, _, rfl, ?_⟩
    rw [commandOp_wordCmd, List.length_cons, beq_iff_eq.mp hwf]
    rfl
  all_goals
    refine ⟨_, _, rfl, ?_⟩
    rw [commandOp_wordCmd]
    rfl

/-! ## A first word and its parts -/

section Words

variable (w : Dword)

theorem wordCmd_fields : wordCmd (commandOp w) (commandPayload w) = w := by
  apply BitVec.eq_of_toNat_eq
  simp only [wordCmd_toNat, commandOp, commandPayload, BitVec.extractLsb'_toNat, Nat.shiftRight_eq_div_pow]
  omega

theorem and_wordCmd (op : BitVec 8) (payload : BitVec 56) :
    w &&& wordCmd op payload = wordCmd (commandOp w &&& op) (commandPayload w &&& payload) := by
  conv_lhs => rw [← wordCmd_fields w]
  exact BitVec.and_append

/-- All below the top byte cleared. -/
theorem clear_payload : w &&& ~~~(0x00FFFFFFFFFFFFFF : Dword) = wordCmd (commandOp w) 0 := by
  rw [show ~~~(0x00FFFFFFFFFFFFFF : Dword) = wordCmd 0xFF 0 by decide, and_wordCmd, and_none,
    show commandOp w &&& 0xFF = commandOp w from BitVec.and_allOnes (w := 8)]

theorem commandPayload_fillRectangle : commandPayload w =
    w.extractLsb' 44 12 ++ w.extractLsb' 32 12 ++ w.extractLsb' 24 8 ++ w.extractLsb' 12 12 ++ w.extractLsb' 0 12 := by
  have hgap (xl yl xh yh : BitVec 12) (gap : BitVec 8) : (xl ++ yl ++ gap ++ xh ++ yh : BitVec 56).toNat =
      (((xl.toNat * 4096 + yl.toNat) * 256 + gap.toNat) * 4096 + xh.toNat) * 4096 + yh.toNat := by
    refine (toNat_append_eq _ yh).trans (congrArg (· * 4096 + yh.toNat) ?_)
    refine (toNat_append_eq _ xh).trans (congrArg (· * 4096 + xh.toNat) ?_)
    exact (toNat_append_eq _ gap).trans (congrArg (· * 256 + gap.toNat) (toNat_append_eq xl yl))
  apply BitVec.eq_of_toNat_eq
  refine Eq.trans ?_ (hgap ..).symm
  simp only [commandPayload, BitVec.extractLsb'_toNat, Nat.shiftRight_eq_div_pow]
  omega

/-- The bits that no coordinate of FILL_RECTANGLE holds cleared. -/
theorem clear_fillRectangle : w &&& ~~~(0x00000000FF000000 : Dword) = wordCmd (commandOp w)
    (w.extractLsb' 44 12 ++ w.extractLsb' 32 12 ++ (0#8) ++ w.extractLsb' 12 12 ++ w.extractLsb' 0 12) := by
  have hones (x : BitVec 12) : x &&& 0xFFF = x := BitVec.and_allOnes (w := 12)
  rw [show ~~~(0x00000000FF000000 : Dword) =
      wordCmd 0xFF ((0xFFF : BitVec 12) ++ (0xFFF : BitVec 12) ++ (0#8) ++ (0xFFF : BitVec 12) ++ (0xFFF : BitVec 12)) by decide,
    and_wordCmd, show commandOp w &&& 0xFF = commandOp w from BitVec.and_allOnes (w := 8), commandPayload_fillRectangle]
  refine congrArg (wordCmd _) ?_
  refine (BitVec.and_append (x₁ := w.extractLsb' 44 12 ++ w.extractLsb' 32 12 ++ w.extractLsb' 24 8 ++
    w.extractLsb' 12 12) ..).trans ?_
  simp only [BitVec.and_append, hones, BitVec.and_zero]

/-- The bits that SET_FILL_COLOR's colour does not hold cleared. -/
theorem clear_fillColor :
    w &&& ~~~(0x00FFFFFF00000000 : Dword) = wordCmd (commandOp w) ((0#24) ++ w.extractLsb' 0 32) := by
  have hpayload : commandPayload w = w.extractLsb' 32 24 ++ w.extractLsb' 0 32 := by
    apply BitVec.eq_of_toNat_eq
    refine Eq.trans ?_ (toNat_append_eq (w.extractLsb' 32 24) (w.extractLsb' 0 32)).symm
    simp only [commandPayload, BitVec.extractLsb'_toNat, Nat.shiftRight_eq_div_pow]
    omega
  rw [show ~~~(0x00FFFFFF00000000 : Dword) = wordCmd 0xFF ((0#24) ++ (0xFFFFFFFF : BitVec 32)) by decide, and_wordCmd,
    show commandOp w &&& 0xFF = commandOp w from BitVec.and_allOnes (w := 8), hpayload]
  refine congrArg (wordCmd _) (BitVec.and_append.trans ?_)
  rw [BitVec.and_zero, show w.extractLsb' 0 32 &&& 0xFFFFFFFF = w.extractLsb' 0 32 from BitVec.and_allOnes (w := 32)]

end Words

/-! ## Encoding undoes decoding, but for the ignored bits -/

/-- A command's ignored bits depend on its top byte alone. -/
theorem ignoredCommandBits_congr {w v : Dword} (h : commandOp v = commandOp w) :
    ignoredCommandBits v = ignoredCommandBits w := by
  unfold ignoredCommandBits
  rw [show v.extractLsb' 56 8 = w.extractLsb' 56 8 from h]

theorem encode_of_rdpTable {i : Instr} {w : Dword} {rest : List Dword}
    (hlength : rest.length + 1 = commandLength (commandOp w)) (h : rdpTable w rest = .ok i) :
    encode i = .displayProcessor ((w &&& ~~~ignoredCommandBits w) :: rest) := by
  have row {op : BitVec 8} {m : Dword} (hop : commandOp w = op) (hm : ignoredCommandBits (wordCmd op 0) = m) :
      ignoredCommandBits w = m := by
    rw [← hm]
    exact ignoredCommandBits_congr (hop.trans (commandOp_wordCmd ..).symm)
  have alone {op : BitVec 8} (hop : commandOp w = op) (hone : commandLength op = 1) : rest = [] := by
    rw [hop, hone] at hlength
    exact List.length_eq_zero_iff.mp (Nat.succ.inj hlength)
  have hw := wordCmd_fields w
  unfold rdpTable at h
  split at h <;> cases h
  case h_1 | h_12 | h_13 | h_14 | h_15 =>
    rename_i hop
    rw [row hop (m := 0x00FFFFFFFFFFFFFF) (by decide), clear_payload, alone hop rfl, hop]
    rfl
  case h_2 | h_3 | h_4 | h_5 | h_6 | h_7 | h_8 | h_9 | h_10 | h_11 =>
    rename_i hop
    rw [row hop (m := 0) (by decide), show w &&& ~~~(0 : Dword) = w from BitVec.and_allOnes]
    rw [hop] at hw
    exact congrArg (fun u => Code.displayProcessor (u :: rest)) hw
  case h_27 hop =>
    rw [row hop (m := 0x00000000FF000000) (by decide), clear_fillRectangle, alone hop rfl, hop]
    rfl
  case h_28 hop =>
    rw [row hop (m := 0x00FFFFFF00000000) (by decide), clear_fillColor, alone hop rfl, hop]
    rfl
  all_goals
    rename_i hop
    rw [row hop (m := 0) (by decide), show w &&& ~~~(0 : Dword) = w from BitVec.and_allOnes, alone hop rfl]
    rw [hop] at hw
    exact congrArg (fun u => Code.displayProcessor [u]) hw

/-! ## Ignored bits do not matter -/

theorem verdict_rdpTable_congr {w v : Dword} (h : commandOp v = commandOp w) (rest : List Dword) :
    verdict (rdpTable v rest) = verdict (rdpTable w rest) := by
  rw [rdpTable, rdpTable, h]
  split <;> rfl

/-- No top byte is ignored. -/
theorem commandOp_eq_of_ignored {w v : Dword} (h : (w ^^^ v) &&& ~~~ignoredCommandBits w = 0) :
    commandOp v = commandOp w := by
  refine extractLsb'_eq_of_ignored h ?_ (by decide)
  unfold ignoredCommandBits
  dsimp only
  split_ifs <;> decide

/-- First words that differ in ignored bits alone decode alike. -/
theorem rdpTable_eq_of_ignored {w v : Dword} {rest : List Dword} (h : (w ^^^ v) &&& ~~~ignoredCommandBits w = 0)
    (hlength : rest.length + 1 = commandLength (commandOp w)) : rdpTable v rest = rdpTable w rest := by
  have hop := commandOp_eq_of_ignored h
  have hclear : v &&& ~~~ignoredCommandBits v = w &&& ~~~ignoredCommandBits w := by
    rw [ignoredCommandBits_congr hop, clear_eq_of_ignored h]
  have hverdict := verdict_rdpTable_congr hop rest
  cases hw : rdpTable w rest with
  | error e =>
    rw [hw] at hverdict
    cases hv : rdpTable v rest with
    | error e' => rw [hv] at hverdict; exact congrArg Except.error (Except.error.inj hverdict)
    | ok j => rw [hv] at hverdict; exact nomatch hverdict
  | ok i =>
    rw [hw] at hverdict
    cases hv : rdpTable v rest with
    | error e' => rw [hv] at hverdict; exact nomatch hverdict
    | ok j =>
      have hj := rdpTable_encode (encode_of_rdpTable (hop ▸ hlength) hv)
      rw [hclear, rdpTable_encode (encode_of_rdpTable hlength hw)] at hj
      exact hj.symm

/-- Settles O4. -/
theorem displayProcessorDecodeAndEncodeAgree : Obligations.DisplayProcessorDecodeAndEncodeAgree := by
  refine ⟨fun i ws hwf h => ?_, fun w v rest h => ?_, fun i w rest h => ?_⟩
  · obtain ⟨w, rest, rfl, hlength⟩ := length_encode hwf h
    exact ⟨(if_pos hlength).trans (rdpTable_encode h), w, rest, rfl, hlength⟩
  · rw [decodeRdp, decodeRdp, commandOp_eq_of_ignored h]
    split
    · exact rdpTable_eq_of_ignored h ‹_›
    · rfl
  · rw [decodeRdp] at h
    split at h
    · exact encode_of_rdpTable ‹_› h
    · exact nomatch h

end Sys2Proof.Machine
end

section
/-! PROOFS. The bits of the floating formats, and FPOP_IEEE on NaNs, infinities and zeros (spec/45_fpu.md R572, R573). -/

namespace Sys2Proof.Machine

/-! ## Fields (R572) -/

section Fields

variable {f : Fmt} {v : Dword}

theorem expField_le (f : Fmt) (v : Dword) : expField f v ≤ expTop f := Nat.le_of_lt_succ (Nat.mod_lt _ (Nat.succ_pos _))

theorem fracField_lt (f : Fmt) (v : Dword) : fracField f v < 2 ^ fracBits f := Nat.mod_lt _ (Nat.two_pow_pos _)

theorem signField_eq (f : Fmt) (v : Dword) : signField f v = decide (v.toNat / 2 ^ signPos f % 2 = 1) := by
  rw [signField, BitVec.getLsbD, Nat.testBit_eq_decide_div_mod_eq]

/-- The bits below the sign are the two fields. -/
theorem fields_eq_mod (hf : f = .s ∨ f = .d) (v : Dword) :
    expField f v * 2 ^ fracBits f + fracField f v = v.toNat % 2 ^ signPos f := by
  rcases hf with rfl | rfl <;> simp only [expField, fracField, fracBits, expTop, signPos] <;> omega

/-- The numbers that the two formats are made of. -/
theorem format_numbers (hf : f = .s ∨ f = .d) :
    (expTop f + 1) * 2 ^ fracBits f = 2 ^ signPos f ∧ 2 ^ signPos f * 2 = 2 ^ (signPos f + 1) ∧
      2 ^ (signPos f + 1) ≤ 2 ^ 64 := by
  rcases hf with rfl | rfl <;> decide

/-- The two fields fill the bits below the sign. -/
theorem fields_lt (hf : f = .s ∨ f = .d) {e frac : Nat} (he : e ≤ expTop f) (hfrac : frac < 2 ^ fracBits f) :
    e * 2 ^ fracBits f + frac < 2 ^ signPos f := by
  obtain ⟨hpow, -, -⟩ := format_numbers hf
  calc e * 2 ^ fracBits f + frac < e * 2 ^ fracBits f + 2 ^ fracBits f := Nat.add_lt_add_left hfrac _
    _ = (e + 1) * 2 ^ fracBits f := (Nat.succ_mul ..).symm
    _ ≤ (expTop f + 1) * 2 ^ fracBits f := Nat.mul_le_mul_right _ (Nat.succ_le_succ he)
    _ = 2 ^ signPos f := hpow

theorem packFields_toNat (hf : f = .s ∨ f = .d) (neg : Bool) {e frac : Nat} (he : e ≤ expTop f)
    (hfrac : frac < 2 ^ fracBits f) :
    (packFields f neg e frac).toNat = neg.toNat * 2 ^ signPos f + (e * 2 ^ fracBits f + frac) := by
  have hlt := fields_lt hf he hfrac
  obtain ⟨-, hdouble, hle⟩ := format_numbers hf
  have hsign : (if neg then 2 ^ signPos f else 0) = neg.toNat * 2 ^ signPos f := by cases neg <;> simp
  have hbit : neg.toNat * 2 ^ signPos f ≤ 1 * 2 ^ signPos f := Nat.mul_le_mul_right _ (Bool.toNat_le neg)
  rw [packFields, BitVec.toNat_ofNat, hsign, Nat.add_assoc]
  exact Nat.mod_eq_of_lt (by omega)

/-- Fields put together are read back. -/
theorem packFields_hasFields (hf : f = .s ∨ f = .d) (neg : Bool) {e frac : Nat} (he : e ≤ expTop f)
    (hfrac : frac < 2 ^ fracBits f) : hasFields f (packFields f neg e frac) neg e frac := by
  have hlt := fields_lt hf he hfrac
  obtain ⟨hpow, hdouble, -⟩ := format_numbers hf
  have hbit : neg.toNat * 2 ^ signPos f ≤ 1 * 2 ^ signPos f := Nat.mul_le_mul_right _ (Bool.toNat_le neg)
  unfold hasFields
  rw [signField_eq, expField, fracField, packFields_toNat hf neg he hfrac]
  refine ⟨by omega, ?_, ?_, ?_⟩
  · rw [Nat.mul_comm, Nat.mul_add_div (Nat.two_pow_pos _), Nat.div_eq_of_lt hlt]
    cases neg <;> rfl
  · rw [← hpow, ← Nat.mul_assoc, ← Nat.add_assoc, ← Nat.add_mul, Nat.mul_comm _ (2 ^ fracBits f),
      Nat.mul_add_div (Nat.two_pow_pos _), Nat.div_eq_of_lt hfrac, Nat.add_zero,
      Nat.mul_add_mod_self_right, Nat.mod_eq_of_lt (Nat.lt_succ_of_le he)]
  · rw [← hpow, ← Nat.mul_assoc, ← Nat.add_assoc, ← Nat.add_mul, Nat.mul_comm _ (2 ^ fracBits f), Nat.mul_add_mod,
      Nat.mod_eq_of_lt hfrac]

/-- Fields put together keep the bits below the sign that they were taken from. -/
theorem getLsbD_packFields (hf : f = .s ∨ f = .d) (neg : Bool) (v : Dword) {k : Nat} (hk : k < signPos f) :
    (packFields f neg (expField f v) (fracField f v)).getLsbD k = v.getLsbD k := by
  have hbits : (packFields f neg (expField f v) (fracField f v)).setWidth (signPos f) = v.setWidth (signPos f) := by
    apply BitVec.eq_of_toNat_eq
    rw [BitVec.toNat_setWidth, BitVec.toNat_setWidth, packFields_toNat hf neg (expField_le f v) (fracField_lt f v),
      fields_eq_mod hf, Nat.mul_comm, Nat.mul_add_mod, Nat.mod_mod]
  have hget := congrArg (·.getLsbD k) hbits
  simpa only [BitVec.getLsbD_setWidth, decide_eq_true hk, Bool.true_and] using hget

/-! ## The kinds of operands -/

theorem unpack_of_signals (he : expField f v = expTop f) (hfrac : 2 ^ (fracBits f - 1) ≤ fracField f v) :
    unpack f v = .nan true := by
  have hne : fracField f v ≠ 0 := fun h => absurd (h ▸ hfrac) (Nat.not_le.mpr (Nat.two_pow_pos _))
  rw [unpack, if_pos he, if_neg hne, decide_eq_true hfrac]

theorem unpack_of_quiet (he : expField f v = expTop f) (hne : fracField f v ≠ 0)
    (hquiet : ¬2 ^ (fracBits f - 1) ≤ fracField f v) : unpack f v = .nan false := by
  rw [unpack, if_pos he, if_neg hne, decide_eq_false hquiet]

theorem unpack_of_infinite (he : expField f v = expTop f) (hzero : fracField f v = 0) :
    unpack f v = .inf (signField f v) := by
  rw [unpack, if_pos he, if_pos hzero]

/-- The significand of a finite number, the leading bit included. -/
def significand (f : Fmt) (v : Dword) : Nat :=
  if expField f v = 0 then fracField f v else fracField f v + 2 ^ fracBits f

/-- The exponent of the last bit of a finite number's significand. -/
def lastExp (f : Fmt) (v : Dword) : Int :=
  if expField f v = 0 then 1 - (expBias f : Int) - fracBits f else (expField f v : Int) - expBias f - fracBits f

theorem unpack_of_finite (h : expField f v < expTop f) :
    unpack f v = .num (signField f v) (significand f v) (lastExp f v) := by
  rw [unpack, if_neg h.ne, significand, lastExp]
  split <;> rfl

theorem significand_eq_zero_iff : significand f v = 0 ↔ expField f v = 0 ∧ fracField f v = 0 := by
  unfold significand
  have hpow := Nat.two_pow_pos (fracBits f)
  split <;> omega

end Fields

/-! ## What FPOP_IEEE delivers without rounding -/

section Specials

variable {f : Fmt} {rm : BitVec 2} {a b : Dword}

/-- The words that the specials are, as the bits say. -/
theorem specials_eq (hf : f = .s ∨ f = .d) (neg : Bool) :
    defaultNan f = (if f = .s then 0x7FBFFFFF else 0x7FF7FFFFFFFFFFFF) ∧
    fpZero f neg = (if neg then (1 : Dword) <<< signPos f else 0) ∧
    fpInf f neg = (if f = .s then 0x7F800000 else 0x7FF0000000000000) |||
      (if neg then (1 : Dword) <<< signPos f else 0) := by
  rcases hf with rfl | rfl <;> cases neg <;> decide

/-- A quiet NaN, with no flag. -/
def quietResult (f : Fmt) (r : Dword × BitVec 5) : Prop :=
  (expField f r.1 = expTop f ∧ fracField f r.1 ≠ 0) ∧
    ¬(expField f r.1 = expTop f ∧ 2 ^ (fracBits f - 1) ≤ fracField f r.1) ∧ r.2 = 0

/-- A free quiet NaN is one. -/
theorem quietResult_of_eq (hf : f = .s ∨ f = .d) {op : FpOp} {r : Dword × BitVec 5} (hr : r = nanResult op f a b false) :
    quietResult f r := by
  generalize hk : Config.quietNan op f a b = k
  have hlt : k.2 % (2 ^ (fracBits f - 1) - 1) < 2 ^ (fracBits f - 1) - 1 :=
    Nat.mod_lt _ (by rcases hf with rfl | rfl <;> decide)
  have hpow : 2 ^ (fracBits f - 1) < 2 ^ fracBits f := by rcases hf with rfl | rfl <;> decide
  obtain ⟨-, -, he, hfrac⟩ := packFields_hasFields hf k.1 le_rfl
    (show 1 + k.2 % (2 ^ (fracBits f - 1) - 1) < 2 ^ fracBits f by omega)
  have hresult : nanResult op f a b false = (quietNanOf f k, 0) := by rw [← hk]; rfl
  rw [hr, quietResult, hresult]
  refine ⟨⟨he, fun h => ?_⟩, fun ⟨_, h⟩ => ?_, rfl⟩
  · exact absurd (hfrac.symm.trans h) (by omega)
  · exact absurd (hfrac ▸ (h : _ ≤ fracField f (quietNanOf f k))) (by omega)

/-- An operation on a signalling NaN is invalid. -/
theorem binary_of_signals (h : unpack f a = .nan true ∨ unpack f b = .nan true) :
    fpAdd f rm a b = invalid f ∧ fpSub f rm a b = invalid f ∧ fpMul f rm a b = invalid f ∧
      fpDiv f rm a b = invalid f := by
  unfold fpAdd fpSub fpMul fpDiv
  rcases h with h | h
  · rw [h]
    cases unpack f b <;> exact ⟨rfl, rfl, rfl, rfl⟩
  · rw [h]
    cases unpack f a with
    | nan p => cases p <;> exact ⟨rfl, rfl, rfl, rfl⟩
    | inf p => exact ⟨rfl, rfl, rfl, rfl⟩
    | num p m e => exact ⟨rfl, rfl, rfl, rfl⟩

/-- An operation on quiet NaNs delivers one. -/
theorem binary_of_quiet (h : unpack f a = .nan false ∨ unpack f b = .nan false) (ha : unpack f a ≠ .nan true)
    (hb : unpack f b ≠ .nan true) :
    fpAdd f rm a b = nanResult .add f a b false ∧ fpSub f rm a b = nanResult .sub f a b false ∧
      fpMul f rm a b = nanResult .mul f a b false ∧ fpDiv f rm a b = nanResult .div f a b false := by
  unfold fpAdd fpSub fpMul fpDiv
  rcases h with h | h
  · rw [h]
    revert hb
    cases unpack f b with
    | nan p => cases p <;> simp
    | inf p => exact fun _ => ⟨rfl, rfl, rfl, rfl⟩
    | num p m e => exact fun _ => ⟨rfl, rfl, rfl, rfl⟩
  · rw [h]
    revert ha
    cases unpack f a with
    | nan p => cases p <;> simp
    | inf p => exact fun _ => ⟨rfl, rfl, rfl, rfl⟩
    | num p m e => exact fun _ => ⟨rfl, rfl, rfl, rfl⟩

/-- abs and neg of what is no NaN change the sign alone. -/
theorem fpSign_of_not_nan (op : FpOp) (neg : Bool) (h : ¬(expField f a = expTop f ∧ fracField f a ≠ 0)) :
    fpSign op f neg a = (packFields f neg (expField f a) (fracField f a), 0) := by
  by_cases he : expField f a = expTop f
  · rw [fpSign, unpack_of_infinite he (by simpa [he] using h)]
  · rw [fpSign, unpack_of_finite (lt_of_le_of_ne (expField_le f a) he)]

theorem fpSign_bits (hf : f = .s ∨ f = .d) (op : FpOp) (neg : Bool)
    (h : ¬(expField f a = expTop f ∧ fracField f a ≠ 0)) :
    ∃ v, fpSign op f neg a = (v, 0) ∧ v.getLsbD (signPos f) = neg ∧ ∀ k < signPos f, v.getLsbD k = a.getLsbD k := by
  obtain ⟨-, hsign, -, -⟩ := packFields_hasFields hf neg (expField_le f a) (fracField_lt f a)
  exact ⟨_, fpSign_of_not_nan op neg h, hsign, fun k hk => getLsbD_packFields hf neg a hk⟩

/-! ## The compare -/

/-- A finite number's magnitude in units of the least denormal. -/
def unitsOf (f : Fmt) (v : Dword) : Nat := significand f v * 2 ^ (expField f v - 1)

/-- The order key of the magnitude. -/
def magnitudeKey (f : Fmt) (v : Dword) : Nat := expField f v * 2 ^ fracBits f + fracField f v

theorem orderKey_eq (f : Fmt) (v : Dword) :
    orderKey f v = if signField f v then -(magnitudeKey f v : Int) else (magnitudeKey f v : Int) := rfl

/-- A larger exponent field is a larger magnitude, whatever the fractions. -/
theorem unitsOf_lt_of_exp_lt (h : expField f a < expField f b) : unitsOf f a < unitsOf f b := by
  have hb : unitsOf f b = (fracField f b + 2 ^ fracBits f) * 2 ^ (expField f b - 1) := by
    rw [unitsOf, significand, if_neg (by omega)]
  have ha : unitsOf f a < 2 ^ fracBits f * 2 ^ expField f a := by
    have hfrac := fracField_lt f a
    rw [unitsOf, significand]
    split
    · simp_all
    · obtain ⟨k, hk⟩ := Nat.exists_eq_succ_of_ne_zero ‹_›
      rw [hk, Nat.succ_sub_one, Nat.pow_succ, Nat.mul_comm (2 ^ k) 2, ← Nat.mul_assoc]
      exact Nat.mul_lt_mul_of_pos_right (by omega) (Nat.two_pow_pos k)
  calc unitsOf f a < 2 ^ fracBits f * 2 ^ expField f a := ha
    _ ≤ 2 ^ fracBits f * 2 ^ (expField f b - 1) :=
      Nat.mul_le_mul_left _ (Nat.pow_le_pow_right (by decide) (by omega))
    _ ≤ unitsOf f b := hb ▸ Nat.mul_le_mul_right _ (Nat.le_add_left ..)

theorem unitsOf_lt_of_frac_lt (he : expField f a = expField f b) (h : fracField f a < fracField f b) :
    unitsOf f a < unitsOf f b := by
  rw [unitsOf, unitsOf, significand, significand, he]
  refine Nat.mul_lt_mul_of_pos_right ?_ (Nat.two_pow_pos _)
  split <;> omega

/-- A larger key is a larger magnitude. -/
theorem unitsOf_lt_of_key_lt (h : magnitudeKey f a < magnitudeKey f b) : unitsOf f a < unitsOf f b := by
  have ha := fracField_lt f a
  have hb := fracField_lt f b
  unfold magnitudeKey at h
  rcases lt_trichotomy (expField f a) (expField f b) with he | he | he
  · exact unitsOf_lt_of_exp_lt he
  · exact unitsOf_lt_of_frac_lt he (by rw [he] at h; omega)
  · have hmul : (expField f b + 1) * 2 ^ fracBits f ≤ expField f a * 2 ^ fracBits f := Nat.mul_le_mul_right _ he
    rw [Nat.add_mul] at hmul
    omega

theorem unitsOf_eq_of_key_eq (h : magnitudeKey f a = magnitudeKey f b) : unitsOf f a = unitsOf f b := by
  have hpow := Nat.two_pow_pos (fracBits f)
  have he : expField f a = expField f b := by
    have hdiv := congrArg (· / 2 ^ fracBits f) h
    simpa [magnitudeKey, Nat.mul_comm _ (2 ^ fracBits f), Nat.mul_add_div hpow, Nat.div_eq_of_lt (fracField_lt f _)]
      using hdiv
  have hfrac : fracField f a = fracField f b := by
    unfold magnitudeKey at h
    rw [he] at h
    omega
  rw [unitsOf, unitsOf, significand, significand, he, hfrac]

theorem unitsOf_lt_iff : unitsOf f a < unitsOf f b ↔ magnitudeKey f a < magnitudeKey f b := by
  refine ⟨fun h => ?_, unitsOf_lt_of_key_lt⟩
  rcases lt_trichotomy (magnitudeKey f a) (magnitudeKey f b) with hk | hk | hk
  · exact hk
  · exact absurd (unitsOf_eq_of_key_eq hk) h.ne
  · exact absurd (unitsOf_lt_of_key_lt hk) h.not_gt

theorem magnitudeKey_eq_zero_iff : magnitudeKey f a = 0 ↔ unitsOf f a = 0 := by
  rw [magnitudeKey, unitsOf, Nat.mul_eq_zero, significand_eq_zero_iff, Nat.add_eq_zero_iff, Nat.mul_eq_zero]
  simp

/-- The magnitude is that many units. -/
theorem fpMagnitude_eq_units (f : Fmt) (v : Dword) :
    fpMagnitude f v = unitsOf f v * (2 : ℝ) ^ (1 - (expBias f : ℤ) - fracBits f) := by
  rw [fpMagnitude, unitsOf, significand]
  split
  · simp_all
  · obtain ⟨k, hk⟩ := Nat.exists_eq_succ_of_ne_zero ‹_›
    rw [hk, Nat.succ_sub_one, show ((k.succ : ℕ) : ℤ) - expBias f - fracBits f =
      (k : ℤ) + (1 - (expBias f : ℤ) - fracBits f) by push_cast; ring, zpow_add₀ two_ne_zero, zpow_natCast]
    push_cast
    ring

/-- A finite number's signed units. -/
def signedUnits (f : Fmt) (v : Dword) : Int := if signField f v then -(unitsOf f v : Int) else (unitsOf f v : Int)

theorem fpNumber_eq_units (f : Fmt) (v : Dword) :
    fpNumber f v = signedUnits f v * (2 : ℝ) ^ (1 - (expBias f : ℤ) - fracBits f) := by
  rw [fpNumber, fpMagnitude_eq_units, signedUnits]
  split <;> push_cast <;> ring

/-- Numbers are in the order of their keys. -/
theorem fpNumber_lt_iff : fpNumber f a < fpNumber f b ↔ orderKey f a < orderKey f b := by
  have hpos : (0 : ℝ) < (2 : ℝ) ^ (1 - (expBias f : ℤ) - fracBits f) := zpow_pos two_pos _
  have hab := unitsOf_lt_iff (f := f) (a := a) (b := b)
  have hba := unitsOf_lt_iff (f := f) (a := b) (b := a)
  have ha := magnitudeKey_eq_zero_iff (f := f) (a := a)
  have hb := magnitudeKey_eq_zero_iff (f := f) (a := b)
  rw [fpNumber_eq_units, fpNumber_eq_units, mul_lt_mul_iff_left₀ hpos, Int.cast_lt, signedUnits, signedUnits,
    orderKey_eq, orderKey_eq]
  split <;> split <;> omega

theorem fpNumber_eq_iff : fpNumber f a = fpNumber f b ↔ orderKey f a = orderKey f b := by
  have hab := fpNumber_lt_iff (f := f) (a := a) (b := b)
  have hba := fpNumber_lt_iff (f := f) (a := b) (b := a)
  rw [le_antisymm_iff, ← not_lt, ← not_lt, hab, hba]
  omega

/-- An infinity's key is past every finite number's. -/
theorem magnitudeKey_lt_of_finite (ha : expField f a < expTop f) (hb : expField f b = expTop f) :
    magnitudeKey f a < magnitudeKey f b := by
  have hfrac := fracField_lt f a
  have hmul : (expField f a + 1) * 2 ^ fracBits f ≤ expField f b * 2 ^ fracBits f :=
    Nat.mul_le_mul_right _ (hb ▸ ha)
  rw [Nat.add_mul] at hmul
  unfold magnitudeKey
  omega

/-- Of two values the one of larger magnitude decides the order by its sign. -/
theorem orderKey_of_key_gt (h : magnitudeKey f b < magnitudeKey f a) :
    decide (orderKey f a < orderKey f b) = signField f a ∧ decide (orderKey f a = orderKey f b) = false := by
  rw [orderKey_eq, orderKey_eq, decide_eq_false_iff_not]
  cases signField f a <;> cases signField f b <;>
    simp only [if_true, Bool.false_eq_true, if_false, decide_eq_true_eq, decide_eq_false_iff_not] <;> omega

theorem orderKey_of_key_lt (h : magnitudeKey f a < magnitudeKey f b) :
    decide (orderKey f a < orderKey f b) = !signField f b ∧ decide (orderKey f a = orderKey f b) = false := by
  rw [orderKey_eq, orderKey_eq, decide_eq_false_iff_not]
  cases signField f a <;> cases signField f b <;>
    simp only [if_true, Bool.false_eq_true, if_false, Bool.not_true, Bool.not_false, decide_eq_true_eq,
      decide_eq_false_iff_not] <;> omega

/-- Two values of one magnitude, not zero, are ordered by their signs. -/
theorem orderKey_of_key_eq (h : magnitudeKey f a = magnitudeKey f b) (hpos : 0 < magnitudeKey f a) :
    decide (orderKey f a < orderKey f b) = (signField f a && !signField f b) ∧
      decide (orderKey f a = orderKey f b) = (signField f a == signField f b) := by
  rw [orderKey_eq, orderKey_eq, h]
  rw [h] at hpos
  cases signField f a <;> cases signField f b <;> simp <;> omega

/-- Two infinities have one magnitude. -/
theorem magnitudeKey_of_infinite (h : expField f a = expTop f ∧ fracField f a = 0) :
    magnitudeKey f a = expTop f * 2 ^ fracBits f := by
  obtain ⟨he, hfrac⟩ := h
  rw [magnitudeKey, he, hfrac, Nat.add_zero]

/-- With a NaN two values are unordered. -/
theorem fpCompareIeee_of_nan (cond : BitVec 4) (h : (∃ p, unpack f a = .nan p) ∨ ∃ p, unpack f b = .nan p) :
    fpCompareIeee f cond a b = (false, false, true,
      if (unpack f a = .nan true ∨ unpack f b = .nan true) ∨ cond.getLsbD 3 = true then flagV else 0) := by
  unfold fpCompareIeee
  obtain ⟨p, h⟩ | ⟨p, h⟩ := h <;> rw [h]
  · cases unpack f b <;> simp [or_assoc]
  · cases unpack f a <;> simp [or_assoc]

/-- Numbers and infinities are ordered by their keys, with no flag. -/
theorem fpCompareIeee_of_ordered (cond : BitVec 4) (ha : ∀ p, unpack f a ≠ .nan p) (hb : ∀ p, unpack f b ≠ .nan p) :
    fpCompareIeee f cond a b =
      (decide (orderKey f a < orderKey f b), decide (orderKey f a = orderKey f b), false, 0) := by
  unfold fpCompareIeee
  cases hua : unpack f a with
  | nan p => exact absurd hua (ha p)
  | inf p =>
    cases hub : unpack f b with
    | nan q => exact absurd hub (hb q)
    | inf q => rfl
    | num q m e => rfl
  | num p m e =>
    cases hub : unpack f b with
    | nan q => exact absurd hub (hb q)
    | inf q => rfl
    | num q m' e' => rfl

end Specials

end Sys2Proof.Machine
end

section
/-! PROOFS. Rounding to a multiple of a unit (spec/45_fpu.md R63, R573), and FPOP_IEEE where it does not round. -/

namespace Sys2Proof.Machine

/-! ## Whether rounding goes away from zero -/

section RoundsUp

variable {rm : BitVec 2} {neg : Bool} {m rem d : Nat}

/-- The modes that round a number of this sign away from zero. -/
def roundsAway (rm : BitVec 2) (neg : Bool) : Prop := (rm = 2 ∧ neg = false) ∨ (rm = 3 ∧ neg = true)

/-- The modes that round it towards zero. -/
def roundsToward (rm : BitVec 2) (neg : Bool) : Prop := rm = 1 ∨ (rm = 2 ∧ neg = true) ∨ (rm = 3 ∧ neg = false)

/-- The three kinds of modes. -/
theorem mode_cases (rm : BitVec 2) (neg : Bool) : rm = 0 ∨ roundsAway rm neg ∨ roundsToward rm neg := by
  unfold roundsAway roundsToward
  revert rm neg
  decide

theorem roundsUp_nearest_iff :
    roundsUp 0 neg m rem d = true ↔ 2 ^ d < 2 * rem ∨ (2 * rem = 2 ^ d ∧ m % 2 = 1) := by
  simp [roundsUp]

theorem roundsUp_iff_of_away (h : roundsAway rm neg) : roundsUp rm neg m rem d = true ↔ rem ≠ 0 := by
  obtain ⟨rfl, rfl⟩ | ⟨rfl, rfl⟩ := h <;> simp [roundsUp]

theorem roundsUp_of_toward (h : roundsToward rm neg) : roundsUp rm neg m rem d = false := by
  obtain rfl | ⟨rfl, rfl⟩ | ⟨rfl, rfl⟩ := h <;> simp [roundsUp]

end RoundsUp

/-! ## The multiple, as integers say -/

section Integers

variable {rm : BitVec 2} {neg : Bool} {mant : Nat} {exp q : Int}

theorem roundTo_of_lt (h : exp < q) : roundTo rm neg mant exp q =
    (if roundsUp rm neg (mant / 2 ^ (q - exp).toNat) (mant % 2 ^ (q - exp).toNat) (q - exp).toNat
      then mant / 2 ^ (q - exp).toNat + 1 else mant / 2 ^ (q - exp).toNat, mant % 2 ^ (q - exp).toNat != 0) :=
  if_neg (Int.not_le.mpr h)

theorem roundTo_of_le (h : q ≤ exp) : roundTo rm neg mant exp q = (mant * 2 ^ (exp - q).toNat, false) := if_pos h

/-- Rounding down: the kept value. -/
theorem roundTo_toward (h : exp < q) (hrm : roundsToward rm neg) :
    (roundTo rm neg mant exp q).1 = mant / 2 ^ (q - exp).toNat := by
  rw [roundTo_of_lt h, roundsUp_of_toward hrm]
  rfl

/-- Rounding up: the next value, unless there is no remainder. -/
theorem roundTo_away (h : exp < q) (hrm : roundsAway rm neg) :
    (roundTo rm neg mant exp q).1 =
      if mant % 2 ^ (q - exp).toNat ≠ 0 then mant / 2 ^ (q - exp).toNat + 1 else mant / 2 ^ (q - exp).toNat := by
  rw [roundTo_of_lt h]
  exact if_congr (roundsUp_iff_of_away hrm) rfl rfl

/-- Rounding to the nearest: the next value past the middle, and at the middle from an odd one. -/
theorem roundTo_nearest (h : exp < q) :
    (roundTo 0 neg mant exp q).1 =
      if 2 ^ (q - exp).toNat < 2 * (mant % 2 ^ (q - exp).toNat) ∨
          (2 * (mant % 2 ^ (q - exp).toNat) = 2 ^ (q - exp).toNat ∧ mant / 2 ^ (q - exp).toNat % 2 = 1)
        then mant / 2 ^ (q - exp).toNat + 1 else mant / 2 ^ (q - exp).toNat := by
  rw [roundTo_of_lt h]
  exact if_congr roundsUp_nearest_iff rfl rfl

/-- Inexact says that there is a remainder. -/
theorem roundTo_inexact_iff (h : exp < q) :
    (roundTo rm neg mant exp q).2 = true ↔ mant % 2 ^ (q - exp).toNat ≠ 0 := by
  rw [roundTo_of_lt h]
  exact bne_iff_ne

end Integers

/-- What the last clause of FpopIsIeee says of `n` units, in each mode. -/
theorem roundTo_integer (rm : BitVec 2) (neg : Bool) (mant : Nat) (exp q : Int) (h : exp < q) :
    let n := (roundTo rm neg mant exp q).1
    let unit := 2 ^ (q - exp).toNat
    ((roundTo rm neg mant exp q).2 = true ↔ n * unit ≠ mant) ∧
    (rm = 0 → 2 * mant ≤ (2 * n + 1) * unit ∧ 2 * n * unit ≤ 2 * mant + unit ∧
      ((2 * mant = (2 * n + 1) * unit ∨ 2 * n * unit = 2 * mant + unit) → n % 2 = 0)) ∧
    (roundsToward rm neg → n * unit ≤ mant ∧ mant < (n + 1) * unit) ∧
    (roundsAway rm neg → mant ≤ n * unit ∧ n * unit < mant + unit) := by
  intro n unit
  have hunit : 0 < unit := Nat.two_pow_pos _
  have hsplit : mant / unit * unit + mant % unit = mant := Nat.div_add_mod' mant unit
  have hrem : mant % unit < unit := Nat.mod_lt _ hunit
  have hinexact : (roundTo rm neg mant exp q).2 = true ↔ mant % unit ≠ 0 := roundTo_inexact_iff h
  have htoward (hrm : roundsToward rm neg) : n = mant / unit := roundTo_toward h hrm
  have haway (hrm : roundsAway rm neg) : n = if mant % unit ≠ 0 then mant / unit + 1 else mant / unit :=
    roundTo_away h hrm
  have hnearest (hrm : rm = 0) : n = if unit < 2 * (mant % unit) ∨ (2 * (mant % unit) = unit ∧ mant / unit % 2 = 1)
      then mant / unit + 1 else mant / unit := by
    subst hrm
    exact roundTo_nearest h
  rw [hinexact]
  clear_value n unit
  generalize mant / unit = m at *
  generalize mant % unit = rem at *
  have hmul : (m + 1) * unit = m * unit + unit := Nat.succ_mul ..
  refine ⟨?_, fun hrm => ?_, fun hrm => ?_, fun hrm => ?_⟩
  · rcases mode_cases rm neg with hrm | hrm | hrm
    · rw [hnearest hrm]
      split <;> omega
    · rw [haway hrm]
      split <;> omega
    · rw [htoward hrm]
      omega
  · rw [hnearest hrm]
    split <;> simp only [Nat.mul_assoc, Nat.add_mul, Nat.mul_add] <;> omega
  · rw [htoward hrm]
    omega
  · rw [haway hrm]
    split <;> omega

/-! ## FPOP_IEEE where it does not round -/

section FpopIsIeee

variable {f : Fmt} {rm : BitVec 2} {a b : Dword}

/-- What the operations on one operand make of a NaN. -/
theorem unary_of_nan {p : Bool} (ha : unpack f a = .nan p) :
    fpSqrt f rm a = nanResult .sqrt f a 0 p ∧ (∀ op neg, fpSign op f neg a = nanResult op f a 0 p) := by
  refine ⟨?_, fun op neg => ?_⟩
  · rw [fpSqrt, ha]
  · rw [fpSign, ha]

/-- Two infinities. -/
theorem binary_of_infinities {p q : Bool} (ha : unpack f a = .inf p) (hb : unpack f b = .inf q) :
    fpAdd f rm a b = (if p == q then (fpInf f p, 0) else invalid f) ∧
    fpSub f rm a b = (if p != q then (fpInf f p, 0) else invalid f) ∧
    fpMul f rm a b = (fpInf f (p != q), 0) ∧ fpDiv f rm a b = invalid f := by
  rw [fpAdd, fpSub, fpMul, fpDiv, ha, hb]
  exact ⟨rfl, rfl, rfl, rfl⟩

/-- An infinity and a number. -/
theorem binary_of_inf_num {p q : Bool} {m : Nat} {e : Int} (ha : unpack f a = .inf p) (hb : unpack f b = .num q m e) :
    fpAdd f rm a b = (fpInf f p, 0) ∧ fpSub f rm a b = (fpInf f p, 0) ∧
    fpMul f rm a b = (if m = 0 then invalid f else (fpInf f (p != q), 0)) ∧
    fpDiv f rm a b = (fpInf f (p != q), 0) := by
  rw [fpAdd, fpSub, fpMul, fpDiv, ha, hb]
  exact ⟨rfl, rfl, rfl, rfl⟩

/-- A number and an infinity. -/
theorem binary_of_num_inf {p q : Bool} {m : Nat} {e : Int} (ha : unpack f a = .num p m e) (hb : unpack f b = .inf q) :
    fpAdd f rm a b = (fpInf f q, 0) ∧ fpSub f rm a b = (fpInf f (!q), 0) ∧
    fpMul f rm a b = (if m = 0 then invalid f else (fpInf f (p != q), 0)) ∧
    fpDiv f rm a b = (fpZero f (p != q), 0) := by
  rw [fpAdd, fpSub, fpMul, fpDiv, ha, hb]
  exact ⟨rfl, rfl, rfl, rfl⟩

/-- A zero divisor. -/
theorem fpDiv_of_zero {p q : Bool} {m n : Nat} {e e' : Int} (ha : unpack f a = .num p m e)
    (hb : unpack f b = .num q n e') (hn : n = 0) :
    fpDiv f rm a b = if m = 0 then invalid f else (fpInf f (p != q), flagZ) := by
  rw [fpDiv, ha, hb]
  exact if_pos hn

theorem fpSqrt_of_num {p : Bool} {m : Nat} {e : Int} (ha : unpack f a = .num p m e) : fpSqrt f rm a =
    if m = 0 then (fpZero f p, 0) else if p then invalid f
    else sqrtNum f rm (Config.tinyBeforeRounding .sqrt f a 0) false m e := by
  rw [fpSqrt, ha]

/-- No zero has a significand. -/
theorem significand_ne_zero (h : ¬(expField f a = 0 ∧ fracField f a = 0)) : significand f a ≠ 0 :=
  fun hm => h (significand_eq_zero_iff.mp hm)

end FpopIsIeee

/-- Settles O36. -/
theorem fpopIsIeee : Obligations.FpopIsIeee := by
  intro f rm cond a b hf isNan signals infinite zero finite result default sign infinity quiet an bn
  have hdefault : invalid f = (default, 16) := by rw [invalid, (specials_eq hf false).1]; rfl
  have hsign (neg : Bool) : fpZero f neg = sign neg := by
    obtain ⟨-, hzero, -⟩ := specials_eq hf neg
    exact hzero
  have hinfinity (neg : Bool) : fpInf f neg = infinity neg := by
    obtain ⟨-, -, hinf⟩ := specials_eq hf neg
    exact hinf
  have htop : 0 < expTop f := by rcases hf with rfl | rfl <;> decide
  have hnum {v : Dword} (h : finite v) : unpack f v = .num (signField f v) (significand f v) (lastExp f v) :=
    unpack_of_finite h
  have hinf {v : Dword} (h : infinite v) : unpack f v = .inf (signField f v) := unpack_of_infinite h.1 h.2
  have hsignals {v : Dword} (h : signals v) : unpack f v = .nan true := unpack_of_signals h.1 h.2
  have hquiet {v : Dword} (h : isNan v) (hs : ¬signals v) : unpack f v = .nan false :=
    unpack_of_quiet h.1 h.2 fun hfrac => hs ⟨h.1, hfrac⟩
  have hzero {v : Dword} (h : zero v) : finite v := lt_of_eq_of_lt h.1 htop
  have hordered {v : Dword} (h : ¬isNan v) (p : Bool) : unpack f v ≠ .nan p := by
    by_cases he : expField f v = expTop f
    · rw [unpack_of_infinite he (not_not.mp fun hfrac => h ⟨he, hfrac⟩)]
      exact fun h => nomatch h
    · rw [unpack_of_finite (lt_of_le_of_ne (expField_le f v) he)]
      exact fun h => nomatch h
  have hnotSignals {v : Dword} (h : ¬signals v) : unpack f v ≠ .nan true := by
    by_cases hn : isNan v
    · rw [hquiet hn h]
      exact fun h => nomatch h
    · exact hordered hn true
  refine ⟨fun ha => ⟨fpSign_bits hf .abs false ha, fpSign_bits hf .neg (!signField f a) ha⟩, fun ha hza hb => ?_,
    fun h => ?_, fun h => ?_, fun ha hb => ⟨fun h => ?_, fun h => ?_⟩, fun ha hza hneg => ?_, fun ha hb => ?_,
    fun ha hb => ?_, fun h => ?_, fun ha hb => ?_, fun ha hb => ?_, fun ha hb => ?_, fun ha => ?_, fun h => ?_,
    fun ha hb => ?_, fun ha hb => ?_, fun ha hb => ?_, fun ha hb => ?_, roundTo_integer rm⟩
  · refine (fpDiv_of_zero (hnum ha) (hnum (hzero hb)) (significand_eq_zero_iff.mpr hb)).trans ?_
    rw [if_neg (significand_ne_zero hza), hinfinity]
    rfl
  · rw [← hdefault]
    exact binary_of_signals (h.imp hsignals hsignals)
  · obtain ⟨hsqrt, hop⟩ := unary_of_nan (rm := rm) (hsignals h)
    rw [← hdefault]
    exact ⟨hsqrt, hop .abs false, hop .neg _⟩
  · obtain ⟨hadd, hsub, hmul, hdiv⟩ := binary_of_quiet (rm := rm) (h.imp (hquiet · ha) (hquiet · hb)) (hnotSignals ha)
      (hnotSignals hb)
    exact ⟨quietResult_of_eq hf hadd, quietResult_of_eq hf hsub,
      quietResult_of_eq hf hmul, quietResult_of_eq hf hdiv⟩
  · obtain ⟨hsqrt, hop⟩ := unary_of_nan (rm := rm) (hquiet h ha)
    exact ⟨quietResult_of_eq hf hsqrt, quietResult_of_eq hf (hop .abs false),
      quietResult_of_eq hf (hop .neg _)⟩
  · refine (fpSqrt_of_num (hnum ha)).trans ?_
    rw [if_neg (significand_ne_zero hza), if_pos (show signField f a = true from hneg), hdefault]
  · obtain ⟨hadd, hsub, -, hdiv⟩ := binary_of_infinities (rm := rm) (hinf ha) (hinf hb)
    refine ⟨fun hne => hadd.trans ?_, fun heq => hsub.trans ?_, hdiv.trans hdefault⟩
    · exact (if_neg fun heq => hne (beq_iff_eq.mp heq)).trans hdefault
    · exact (if_neg fun hne => bne_iff_ne.mp hne heq).trans hdefault
  · refine (fpDiv_of_zero (hnum (hzero ha)) (hnum (hzero hb)) (significand_eq_zero_iff.mpr hb)).trans ?_
    rw [if_pos (significand_eq_zero_iff.mpr ha), hdefault]
  · obtain ⟨ha, hb⟩ | ⟨ha, hb⟩ := h
    · obtain ⟨-, -, hmul, -⟩ := binary_of_inf_num (rm := rm) (hinf ha) (hnum (hzero hb))
      exact hmul.trans ((if_pos (significand_eq_zero_iff.mpr hb)).trans hdefault)
    · obtain ⟨-, -, hmul, -⟩ := binary_of_num_inf (rm := rm) (hnum (hzero ha)) (hinf hb)
      exact hmul.trans ((if_pos (significand_eq_zero_iff.mpr ha)).trans hdefault)
  · obtain ⟨hadd, hsub, hmul, hdiv⟩ := binary_of_inf_num (rm := rm) (hinf ha) (hnum hb)
    simp only [hinfinity] at hadd hsub hmul hdiv
    exact ⟨hadd, hsub, fun hzb => hmul.trans (if_neg (significand_ne_zero hzb)), hdiv⟩
  · obtain ⟨hadd, hsub, hmul, hdiv⟩ := binary_of_num_inf (rm := rm) (hnum ha) (hinf hb)
    simp only [hinfinity, hsign] at hadd hsub hmul hdiv
    exact ⟨hadd, hsub, fun hza => hmul.trans (if_neg (significand_ne_zero hza)), hdiv⟩
  · obtain ⟨hadd, hsub, hmul, -⟩ := binary_of_infinities (rm := rm) (hinf ha) (hinf hb)
    simp only [hinfinity] at hadd hsub hmul
    exact ⟨fun heq => hadd.trans (if_pos (beq_iff_eq.mpr heq)), fun hne => hsub.trans (if_pos (bne_iff_ne.mpr hne)), hmul⟩
  · have hsqrt : result .sqrt = if an then invalid f else (fpInf f false, 0) := by
      change fpSqrt f rm a = _
      rw [fpSqrt, hinf ha]
      rfl
    rw [hsqrt, hdefault, hinfinity]
  · have hnan {v : Dword} (h : isNan v) : ∃ p, unpack f v = .nan p := by
      by_cases hs : signals v
      · exact ⟨_, hsignals hs⟩
      · exact ⟨_, hquiet h hs⟩
    have hiff (v : Dword) : unpack f v = .nan true ↔ signals v :=
      ⟨fun h => not_not.mp fun hs => hnotSignals hs h, hsignals⟩
    rw [fpCompareIeee_of_nan cond (h.imp hnan hnan)]
    simp only [hiff]
    rfl
  · refine ⟨_, _, fpCompareIeee_of_ordered cond (hordered fun h => ha.ne h.1) (hordered fun h => hb.ne h.1), ?_, ?_⟩
    · rw [decide_eq_true_iff, fpNumber_lt_iff]
    · rw [decide_eq_true_iff, fpNumber_eq_iff]
  · obtain ⟨hless, hequal⟩ := orderKey_of_key_gt (magnitudeKey_lt_of_finite hb ha.1)
    rw [fpCompareIeee_of_ordered cond (hordered fun h => h.2 ha.2) (hordered fun h => hb.ne h.1), hless, hequal]
    rfl
  · obtain ⟨hless, hequal⟩ := orderKey_of_key_lt (magnitudeKey_lt_of_finite ha hb.1)
    rw [fpCompareIeee_of_ordered cond (hordered fun h => ha.ne h.1) (hordered fun h => h.2 hb.2), hless, hequal]
    rfl
  · have hkey := magnitudeKey_of_infinite ha
    have hpos : 0 < magnitudeKey f a := hkey ▸ Nat.mul_pos htop (Nat.two_pow_pos _)
    obtain ⟨hless, hequal⟩ := orderKey_of_key_eq (hkey.trans (magnitudeKey_of_infinite hb).symm) hpos
    rw [fpCompareIeee_of_ordered cond (hordered fun h => h.2 ha.2) (hordered fun h => h.2 hb.2), hless, hequal]
    rfl

end Sys2Proof.Machine
end

section
/-! PROOFS. Rounding a real number to a multiple of a unit, from an integer significand that may end in a sticky bit
(spec/45_fpu.md R573). -/

namespace Sys2Proof.Machine

/-! ## What the modes ask for -/

section Modes

variable {rm : BitVec 2} {neg : Bool} {y unit : ℝ} {n : ℕ}

theorem roundsToMultiple_nearest_iff : roundsToMultiple 0 neg y unit n ↔
    |n * unit - y| ≤ unit / 2 ∧ (|n * unit - y| = unit / 2 → n % 2 = 0) := Iff.rfl

theorem roundsToMultiple_away_iff (h : roundsAway rm neg) :
    roundsToMultiple rm neg y unit n ↔ y ≤ n * unit ∧ n * unit < y + unit := by
  have h0 : rm ≠ 0 := by
    rintro rfl
    simp [roundsAway] at h
  rw [roundsToMultiple, if_neg h0]
  exact iff_of_eq (if_pos h)

theorem roundsToMultiple_toward_iff (h : roundsToward rm neg) :
    roundsToMultiple rm neg y unit n ↔ n * unit ≤ y ∧ y < n * unit + unit := by
  have h0 : rm ≠ 0 := by
    rintro rfl
    simp [roundsToward] at h
  have haway : ¬roundsAway rm neg := by
    obtain rfl | ⟨rfl, rfl⟩ | ⟨rfl, rfl⟩ := h <;> simp [roundsAway]
  rw [roundsToMultiple, if_neg h0]
  exact iff_of_eq (if_neg haway)

/-- A multiple of the unit is what it rounds to. -/
theorem roundsToMultiple_of_eq (hunit : 0 < unit) (h : n * unit = y) : roundsToMultiple rm neg y unit n := by
  rcases mode_cases rm neg with rfl | hrm | hrm
  · rw [roundsToMultiple_nearest_iff, h, sub_self, abs_zero]
    exact ⟨by positivity, fun hzero => absurd hzero (by positivity)⟩
  · rw [roundsToMultiple_away_iff hrm]
    exact ⟨h.ge, by linarith⟩
  · rw [roundsToMultiple_toward_iff hrm]
    exact ⟨h.le, by linarith⟩

/-- Scaling the number and the unit. -/
theorem roundsToMultiple_mul {c : ℝ} (hc : 0 < c) (h : roundsToMultiple rm neg y unit n) :
    roundsToMultiple rm neg (y * c) (unit * c) n := by
  rcases mode_cases rm neg with rfl | hrm | hrm
  · rw [roundsToMultiple_nearest_iff] at h ⊢
    have habs : |n * (unit * c) - y * c| = |n * unit - y| * c := by
      rw [← abs_of_pos hc, ← abs_mul, abs_of_pos hc]
      ring_nf
    obtain ⟨hle, htie⟩ := h
    rw [habs, mul_div_right_comm]
    exact ⟨mul_le_mul_of_nonneg_right hle hc.le, fun heq => htie (mul_right_cancel₀ hc.ne' heq)⟩
  · rw [roundsToMultiple_away_iff hrm] at h ⊢
    constructor <;> nlinarith
  · rw [roundsToMultiple_toward_iff hrm] at h ⊢
    constructor <;> nlinarith

/-- Rounding does not cross a multiple: from above. -/
theorem le_of_roundsToMultiple {N : ℕ} (hunit : 0 < unit) (h : roundsToMultiple rm neg y unit n) (hle : y ≤ N * unit) :
    n ≤ N := by
  by_contra hlt
  have hN : ((N : ℝ) + 1) * unit ≤ n * unit := by
    refine mul_le_mul_of_nonneg_right ?_ hunit.le
    exact_mod_cast Nat.succ_le_of_lt (not_le.mp hlt)
  rcases mode_cases rm neg with rfl | hrm | hrm
  · obtain ⟨hnear, -⟩ := roundsToMultiple_nearest_iff.mp h
    have := (abs_le.mp hnear).2
    linarith
  · have := ((roundsToMultiple_away_iff hrm).mp h).2
    linarith
  · have := ((roundsToMultiple_toward_iff hrm).mp h).1
    linarith

/-- And from below. -/
theorem ge_of_roundsToMultiple {N : ℕ} (hunit : 0 < unit) (h : roundsToMultiple rm neg y unit n) (hle : N * unit ≤ y) :
    N ≤ n := by
  by_contra hlt
  have hN : ((n : ℝ) + 1) * unit ≤ N * unit := by
    refine mul_le_mul_of_nonneg_right ?_ hunit.le
    exact_mod_cast Nat.succ_le_of_lt (not_le.mp hlt)
  rcases mode_cases rm neg with rfl | hrm | hrm
  · obtain ⟨hnear, -⟩ := roundsToMultiple_nearest_iff.mp h
    have := (abs_le.mp hnear).1
    linarith
  · have := ((roundsToMultiple_away_iff hrm).mp h).1
    linarith
  · have := ((roundsToMultiple_toward_iff hrm).mp h).2
    linarith

theorem roundsToMultiple_le {n' : ℕ} (hunit : 0 < unit) (h : roundsToMultiple rm neg y unit n)
    (h' : roundsToMultiple rm neg y unit n') : n' ≤ n := by
  by_contra hlt
  have hnext : ((n : ℝ) + 1) * unit ≤ n' * unit := by
    refine mul_le_mul_of_nonneg_right ?_ hunit.le
    exact_mod_cast Nat.succ_le_of_lt (not_le.mp hlt)
  rcases mode_cases rm neg with rfl | hrm | hrm
  · obtain ⟨hnear, htie⟩ := roundsToMultiple_nearest_iff.mp h
    obtain ⟨hnear', htie'⟩ := roundsToMultiple_nearest_iff.mp h'
    obtain ⟨hlo, -⟩ := abs_le.mp hnear
    obtain ⟨-, hhi⟩ := abs_le.mp hnear'
    have heq : n * unit - y = -(unit / 2) := by linarith
    have heq' : n' * unit - y = unit / 2 := by linarith
    have heven := htie (by rw [heq, abs_neg, abs_of_pos (by linarith)])
    have heven' := htie' (by rw [heq', abs_of_pos (by linarith)])
    have hstep : (n' : ℝ) = n + 1 := mul_right_cancel₀ hunit.ne' (by linarith)
    have hnat : n' = n + 1 := by exact_mod_cast hstep
    omega
  · have := ((roundsToMultiple_away_iff hrm).mp h).1
    have := ((roundsToMultiple_away_iff hrm).mp h').2
    linarith
  · have := ((roundsToMultiple_toward_iff hrm).mp h).2
    have := ((roundsToMultiple_toward_iff hrm).mp h').1
    linarith

/-- A number rounds to one multiple only. -/
theorem roundsToMultiple_unique {n' : ℕ} (hunit : 0 < unit) (h : roundsToMultiple rm neg y unit n)
    (h' : roundsToMultiple rm neg y unit n') : n = n' :=
  le_antisymm (roundsToMultiple_le hunit h' h) (roundsToMultiple_le hunit h h')

end Modes

/-! ## A significand that stands for a number -/

/-- `mant` units of the last place are the number `z`, or, ending in a sticky 1, within one of it. -/
def standsFor (mant : ℕ) (z : ℝ) : Prop :=
  z = mant ∨ (mant % 2 = 1 ∧ (mant : ℝ) - 1 < z ∧ z < mant + 1)

/-- Where `z` lies between the multiples `m` and `m + 1` of `u`, as a remainder says it. -/
structure Positioned (z : ℝ) (m rem u : ℕ) : Prop where
  le : (m * u : ℝ) ≤ z
  lt : z < m * u + u
  exact_iff : rem = 0 ↔ z = m * u
  below : 2 * rem < u → 2 * (z - m * u) < u
  middle : 2 * rem = u → 2 * (z - m * u) = u
  above : u < 2 * rem → (u : ℝ) < 2 * (z - m * u)

/-- An exact significand is positioned by its own remainder. -/
theorem positioned_of_exact (mant : ℕ) {u : ℕ} (hu : 0 < u) : Positioned mant (mant / u) (mant % u) u := by
  have hrem : ((mant % u : ℕ) : ℝ) < u := by exact_mod_cast Nat.mod_lt mant hu
  have hsplit : ((mant / u : ℕ) : ℝ) * u + (mant % u : ℕ) = mant := by exact_mod_cast Nat.div_add_mod' mant u
  have hnonneg : (0 : ℝ) ≤ (mant % u : ℕ) := Nat.cast_nonneg _
  refine ⟨by linarith, by linarith, ⟨fun h => ?_, fun h => ?_⟩, fun h => ?_, fun h => ?_, fun h => ?_⟩
  · rw [h] at hsplit
    simpa using hsplit.symm
  · have hzero : ((mant % u : ℕ) : ℝ) = 0 := by linarith
    exact_mod_cast hzero
  · have : (2 * (mant % u : ℕ) : ℝ) < u := by exact_mod_cast h
    linarith
  · have : (2 * (mant % u : ℕ) : ℝ) = u := by exact_mod_cast h
    linarith
  · have : (u : ℝ) < 2 * (mant % u : ℕ) := by exact_mod_cast h
    linarith

/-- An odd significand within one of the number is too, two bits above its last: its remainder is odd, so the number is on
the same side of the middle. -/
theorem positioned_of_sticky {mant k : ℕ} {z : ℝ} (hk : 0 < k) (hodd : mant % 2 = 1) (hlt : (mant : ℝ) - 1 < z)
    (hgt : z < mant + 1) : Positioned z (mant / (4 * k)) (mant % (4 * k)) (4 * k) := by
  have hmod : mant % (4 * k) % 2 = 1 := by rw [Nat.mod_mod_of_dvd _ ⟨2 * k, by ring⟩]; exact hodd
  have hrem := Nat.mod_lt mant (show 0 < 4 * k by omega)
  have hsplit : ((mant / (4 * k) : ℕ) : ℝ) * (4 * k : ℕ) + (mant % (4 * k) : ℕ) = mant := by
    exact_mod_cast Nat.div_add_mod' mant (4 * k)
  generalize mant % (4 * k) = rem at *
  generalize mant / (4 * k) = m at *
  have hone : (1 : ℝ) ≤ rem := by exact_mod_cast (by omega : 1 ≤ rem)
  have hlast : (rem : ℝ) + 1 ≤ (4 * k : ℕ) := by exact_mod_cast (by omega : rem + 1 ≤ 4 * k)
  refine ⟨by linarith, by linarith, ⟨fun h => ?_, fun h => ?_⟩, fun h => ?_, fun h => ?_, fun h => ?_⟩
  · omega
  · linarith
  · have : 2 * ((rem : ℝ) + 1) ≤ (4 * k : ℕ) := by exact_mod_cast (by omega : 2 * (rem + 1) ≤ 4 * k)
    linarith
  · omega
  · have : ((4 * k : ℕ) : ℝ) + 2 ≤ 2 * rem := by exact_mod_cast (by omega : 4 * k + 2 ≤ 2 * rem)
    linarith

/-! ## The multiple that is taken -/

section Taken

variable {rm : BitVec 2} {neg : Bool} {z : ℝ} {m rem u n : ℕ}

theorem rounds_of_toward (h : Positioned z m rem u) (hrm : roundsToward rm neg) : roundsToMultiple rm neg z u m :=
  (roundsToMultiple_toward_iff hrm).mpr ⟨h.le, h.lt⟩

theorem rounds_of_away (h : Positioned z m rem u) (hrm : roundsAway rm neg) :
    roundsToMultiple rm neg z u (if rem ≠ 0 then m + 1 else m) := by
  rw [roundsToMultiple_away_iff hrm]
  have hlt := h.lt
  have hle := h.le
  split
  · have hne : z ≠ m * u := fun heq => ‹rem ≠ 0› (h.exact_iff.mpr heq)
    have hgt := lt_of_le_of_ne hle hne.symm
    push_cast
    constructor <;> linarith
  · have heq := h.exact_iff.mp (not_not.mp ‹_›)
    constructor <;> linarith

theorem rounds_of_nearest (h : Positioned z m rem u) :
    roundsToMultiple 0 neg z u (if u < 2 * rem ∨ (2 * rem = u ∧ m % 2 = 1) then m + 1 else m) := by
  rw [roundsToMultiple_nearest_iff]
  have hlt := h.lt
  have hle := h.le
  rcases lt_trichotomy (2 * rem) u with hrem | hrem | hrem
  · have hpos := h.below hrem
    rw [if_neg (by omega), abs_of_nonpos (by linarith)]
    exact ⟨by linarith, fun heq => absurd heq (by linarith)⟩
  · have hpos := h.middle hrem
    rcases Nat.mod_two_eq_zero_or_one m with hm | hm
    · rw [if_neg (by omega), abs_of_nonpos (by linarith)]
      exact ⟨by linarith, fun _ => hm⟩
    · rw [if_pos (.inr ⟨hrem, hm⟩), abs_of_nonneg (by push_cast; linarith)]
      exact ⟨by push_cast; linarith, fun _ => by omega⟩
  · have hpos := h.above hrem
    rw [if_pos (.inl hrem), abs_of_nonneg (by push_cast; linarith)]
    push_cast
    exact ⟨by linarith, fun heq => absurd heq (by linarith)⟩

/-- Neither of the two multiples is the number when there is a remainder. -/
theorem Positioned.ne_of_rem (h : Positioned z m rem u) (hrem : rem ≠ 0) (hn : n = m ∨ n = m + 1) :
    (n * u : ℝ) ≠ z := by
  have hlt := h.lt
  obtain rfl | rfl := hn
  · exact fun heq => hrem (h.exact_iff.mpr heq.symm)
  · push_cast
    intro heq
    linarith

end Taken

/-! ## `roundTo` -/

section RoundTo

variable {rm : BitVec 2} {neg : Bool} {mant : ℕ} {exp q : ℤ}

/-- Below the unit: what is taken, in units of the last place. -/
theorem roundTo_of_positioned {z : ℝ} (h : exp < q)
    (hz : Positioned z (mant / 2 ^ (q - exp).toNat) (mant % 2 ^ (q - exp).toNat) (2 ^ (q - exp).toNat)) :
    roundsToMultiple rm neg z ((2 ^ (q - exp).toNat : ℕ) : ℝ) (roundTo rm neg mant exp q).1 ∧
    ((roundTo rm neg mant exp q).2 = true ↔
      ((roundTo rm neg mant exp q).1 * (2 ^ (q - exp).toNat : ℕ) : ℝ) ≠ z) := by
  have hrounds : roundsToMultiple rm neg z ((2 ^ (q - exp).toNat : ℕ) : ℝ) (roundTo rm neg mant exp q).1 := by
    rcases mode_cases rm neg with rfl | hrm | hrm
    · rw [roundTo_nearest h]
      exact rounds_of_nearest hz
    · rw [roundTo_away h hrm]
      exact rounds_of_away hz hrm
    · rw [roundTo_toward h hrm]
      exact rounds_of_toward hz hrm
  have htaken : (roundTo rm neg mant exp q).1 = mant / 2 ^ (q - exp).toNat ∨
      (roundTo rm neg mant exp q).1 = mant / 2 ^ (q - exp).toNat + 1 := by
    rw [roundTo_of_lt h]
    split
    · exact .inr rfl
    · exact .inl rfl
  refine ⟨hrounds, (roundTo_inexact_iff h).trans ⟨fun hrem => hz.ne_of_rem hrem htaken, fun hne hrem => hne ?_⟩⟩
  have hexact := hz.exact_iff.mp hrem
  rw [roundsToMultiple_unique (by positivity) hrounds (roundsToMultiple_of_eq (by positivity) hexact.symm)]
  exact hexact.symm

/-- A significand that stands for a number rounds as the number does: to any unit when it is exact, to units at least four
of its last place when it ends in a sticky bit. -/
theorem roundTo_rounds {y : ℝ} (hy : standsFor mant (y / (2 : ℝ) ^ exp))
    (hprec : y = mant * (2 : ℝ) ^ exp ∨ exp + 2 ≤ q) :
    roundsToMultiple rm neg y ((2 : ℝ) ^ q) (roundTo rm neg mant exp q).1 ∧
    ((roundTo rm neg mant exp q).2 = true ↔ (roundTo rm neg mant exp q).1 * (2 : ℝ) ^ q ≠ y) := by
  have hexp : (0 : ℝ) < (2 : ℝ) ^ exp := zpow_pos two_pos _
  by_cases hq : q ≤ exp
  · have hexact : y = mant * (2 : ℝ) ^ exp := hprec.resolve_right (by omega)
    have heq : ((mant * 2 ^ (exp - q).toNat : ℕ) : ℝ) * (2 : ℝ) ^ q = y := by
      rw [hexact]
      push_cast
      rw [mul_assoc, ← zpow_natCast, ← zpow_add₀ two_ne_zero, Int.toNat_of_nonneg (by omega), sub_add_cancel]
    rw [roundTo_of_le hq]
    exact ⟨roundsToMultiple_of_eq (zpow_pos two_pos _) heq, iff_of_false (by simp) (not_not.mpr heq)⟩
  · have hlt : exp < q := not_le.mp hq
    have hunit : (2 : ℝ) ^ q = ((2 ^ (q - exp).toNat : ℕ) : ℝ) * (2 : ℝ) ^ exp := by
      push_cast
      rw [← zpow_natCast, ← zpow_add₀ two_ne_zero, Int.toNat_of_nonneg (by omega), sub_add_cancel]
    have hpos : Positioned (y / (2 : ℝ) ^ exp) (mant / 2 ^ (q - exp).toNat) (mant % 2 ^ (q - exp).toNat)
        (2 ^ (q - exp).toNat) := by
      rcases hprec with hexact | hprec
      · rw [hexact, mul_div_cancel_right₀ _ hexp.ne']
        exact positioned_of_exact mant (Nat.two_pow_pos _)
      · obtain heq | ⟨hodd, hlo, hhi⟩ := hy
        · rw [heq]
          exact positioned_of_exact mant (Nat.two_pow_pos _)
        · obtain ⟨k, hk⟩ : ∃ k, (q - exp).toNat = k + 2 := ⟨(q - exp).toNat - 2, by omega⟩
          rw [hk, Nat.pow_add, Nat.mul_comm]
          exact positioned_of_sticky (Nat.two_pow_pos k) hodd hlo hhi
    obtain ⟨hrounds, hinexact⟩ := roundTo_of_positioned (rm := rm) (neg := neg) hlt hpos
    have hback : y / (2 : ℝ) ^ exp * (2 : ℝ) ^ exp = y := div_mul_cancel₀ y hexp.ne'
    refine ⟨?_, hinexact.trans (not_congr ?_)⟩
    · rw [hunit]
      exact hback ▸ roundsToMultiple_mul hexp hrounds
    · rw [hunit, ← mul_assoc, ← eq_div_iff hexp.ne']

end RoundTo

end Sys2Proof.Machine
end

section
/-! PROOFS. Packing a rounded number: `roundPack` is correct rounding (spec/45_fpu.md R573). -/

namespace Sys2Proof.Machine

/-! ## The leading bit -/

section Leading

variable {mant : ℕ} {exp : ℤ} {y : ℝ}

/-- A power of two at an exponent given in two parts. -/
theorem natCast_two_pow_mul_zpow (k : ℕ) (e : ℤ) : ((2 ^ k : ℕ) : ℝ) * (2 : ℝ) ^ e = (2 : ℝ) ^ ((k : ℤ) + e) := by
  push_cast
  rw [← zpow_natCast, ← zpow_add₀ two_ne_zero]

/-- The number's leading bit is its significand's. -/
theorem leading_bounds (hm : mant ≠ 0) (hy : standsFor mant (y / (2 : ℝ) ^ exp))
    (hprec : y = mant * (2 : ℝ) ^ exp ∨ 1 ≤ Nat.log2 mant) :
    (2 : ℝ) ^ (exp + Nat.log2 mant) ≤ y ∧ y < (2 : ℝ) ^ (exp + Nat.log2 mant + 1) := by
  have hexp : (0 : ℝ) < (2 : ℝ) ^ exp := zpow_pos two_pos _
  have hlo : 2 ^ Nat.log2 mant ≤ mant := Nat.log2_self_le hm
  have hhi : mant < 2 ^ (Nat.log2 mant + 1) := Nat.lt_log2_self
  have hpow : (2 : ℝ) ^ (exp + Nat.log2 mant) = ((2 ^ Nat.log2 mant : ℕ) : ℝ) * (2 : ℝ) ^ exp := by
    rw [natCast_two_pow_mul_zpow, add_comm]
  have hpow' : (2 : ℝ) ^ (exp + Nat.log2 mant + 1) = ((2 ^ (Nat.log2 mant + 1) : ℕ) : ℝ) * (2 : ℝ) ^ exp := by
    rw [natCast_two_pow_mul_zpow]
    push_cast
    ring_nf
  have hz : y = y / (2 : ℝ) ^ exp * (2 : ℝ) ^ exp := (div_mul_cancel₀ y hexp.ne').symm
  have hbounds : ((2 ^ Nat.log2 mant : ℕ) : ℝ) ≤ y / (2 : ℝ) ^ exp ∧
      y / (2 : ℝ) ^ exp < ((2 ^ (Nat.log2 mant + 1) : ℕ) : ℝ) := by
    have hexact (heq : y / (2 : ℝ) ^ exp = mant) : ((2 ^ Nat.log2 mant : ℕ) : ℝ) ≤ y / (2 : ℝ) ^ exp ∧
        y / (2 : ℝ) ^ exp < ((2 ^ (Nat.log2 mant + 1) : ℕ) : ℝ) := by
      rw [heq]
      exact ⟨by exact_mod_cast hlo, by exact_mod_cast hhi⟩
    rcases hprec with heq | hlog
    · exact hexact (by rw [heq, mul_div_cancel_right₀ _ hexp.ne'])
    · obtain heq | ⟨hodd, hlt, hgt⟩ := hy
      · exact hexact heq
      · obtain ⟨k, hk⟩ : ∃ k, Nat.log2 mant = k + 1 := ⟨Nat.log2 mant - 1, by omega⟩
        have hstrict : 2 ^ Nat.log2 mant + 1 ≤ mant := by
          rw [hk, Nat.pow_succ] at hlo ⊢
          omega
        have h1 : ((2 ^ Nat.log2 mant : ℕ) : ℝ) + 1 ≤ mant := by exact_mod_cast hstrict
        have h2 : (mant : ℝ) + 1 ≤ ((2 ^ (Nat.log2 mant + 1) : ℕ) : ℝ) := by exact_mod_cast hhi
        exact ⟨by linarith, by linarith⟩
  rw [hpow, hpow']
  conv_lhs => rw [hz]
  conv_rhs => rw [hz]
  exact ⟨mul_le_mul_of_nonneg_right hbounds.1 hexp.le, mul_lt_mul_of_pos_right hbounds.2 hexp⟩

/-- The leading bit's exponent is the only one with these bounds. -/
theorem leading_unique {top top' : ℤ} (h : (2 : ℝ) ^ top ≤ y) (h' : y < (2 : ℝ) ^ (top + 1))
    (k : (2 : ℝ) ^ top' ≤ y) (k' : y < (2 : ℝ) ^ (top' + 1)) : top = top' := by
  have h1 := (zpow_lt_zpow_iff_right₀ (one_lt_two (α := ℝ))).mp (lt_of_le_of_lt h k')
  have h2 := (zpow_lt_zpow_iff_right₀ (one_lt_two (α := ℝ))).mp (lt_of_le_of_lt k h')
  omega

end Leading

/-! ## Magnitudes of packed fields -/

section Packed

variable {f : Fmt} {neg : Bool}

/-- The numbers of the two formats that rounding needs. -/
theorem format_exponents (hf : f = .s ∨ f = .d) : expTop f = 2 * expBias f + 1 ∧ 1 ≤ expBias f := by
  rcases hf with rfl | rfl <;> decide

/-- A packed denormal, or zero. -/
theorem fpMagnitude_packFields_denormal (hf : f = .s ∨ f = .d) {n : ℕ} (hn : n < 2 ^ fracBits f) :
    fpMagnitude f (packFields f neg 0 n) = n * (2 : ℝ) ^ (1 - (expBias f : ℤ) - fracBits f) := by
  obtain ⟨-, -, he, hfrac⟩ := packFields_hasFields hf neg (Nat.zero_le (expTop f)) hn
  rw [fpMagnitude, he, hfrac, if_pos rfl]

/-- A packed normal number. -/
theorem fpMagnitude_packFields_normal (hf : f = .s ∨ f = .d) {e m : ℕ} (he : e ≤ expTop f) (hpos : e ≠ 0)
    (hlo : 2 ^ fracBits f ≤ m) (hhi : m < 2 ^ (fracBits f + 1)) :
    fpMagnitude f (packFields f neg e (m - 2 ^ fracBits f)) =
      m * (2 : ℝ) ^ ((e : ℤ) - expBias f - fracBits f) := by
  rw [Nat.pow_succ] at hhi
  obtain ⟨-, -, he', hfrac⟩ := packFields_hasFields hf neg he (show m - 2 ^ fracBits f < 2 ^ fracBits f by omega)
  rw [fpMagnitude, he', hfrac, if_neg hpos, Nat.cast_sub hlo]
  push_cast
  ring

end Packed

/-! ## The parts of `roundPack` -/

section Parts

variable {f : Fmt} {rm : BitVec 2} {tinyFree neg : Bool} {mant : ℕ} {exp : ℤ}

/-- The exponent of the leading bit. -/
def topOf (mant : ℕ) (exp : ℤ) : ℤ := exp + Nat.log2 mant

/-- The exponent of the unit that a result is rounded to. -/
def unitExp (f : Fmt) (mant : ℕ) (exp : ℤ) : ℤ := max (topOf mant exp) (1 - (expBias f : ℤ)) - fracBits f

/-- The rounded number of units. -/
def roundedUnits (f : Fmt) (rm : BitVec 2) (neg : Bool) (mant : ℕ) (exp : ℤ) : ℕ × Bool :=
  roundTo rm neg mant exp (unitExp f mant exp)

/-- Whether U is raised by an inexact result. -/
def isTiny (f : Fmt) (rm : BitVec 2) (tinyFree neg : Bool) (mant : ℕ) (exp : ℤ) : Bool :=
  tinyAfterRounding f rm neg mant exp (topOf mant exp) || (decide (topOf mant exp < 1 - (expBias f : ℤ)) && tinyFree)

/-- The flags of a result that does not overflow. -/
def packFlags (f : Fmt) (rm : BitVec 2) (tinyFree neg : Bool) (mant : ℕ) (exp : ℤ) : BitVec 5 :=
  if (roundedUnits f rm neg mant exp).2 then (if isTiny f rm tinyFree neg mant exp then flagI ||| flagU else flagI) else 0

/-- The flags, read one by one. -/
theorem packFlags_bits : (packFlags f rm tinyFree neg mant exp).toNat < 4 ∧
    ((packFlags f rm tinyFree neg mant exp).getLsbD 0 = true ↔ (roundedUnits f rm neg mant exp).2 = true) ∧
    ((packFlags f rm tinyFree neg mant exp).getLsbD 1 = true ↔
      (roundedUnits f rm neg mant exp).2 = true ∧ isTiny f rm tinyFree neg mant exp = true) := by
  unfold packFlags
  cases (roundedUnits f rm neg mant exp).2 <;> cases isTiny f rm tinyFree neg mant exp <;> decide

/-- `n` units of 2 ^ `q`, put into the format. -/
def packUnits (f : Fmt) (rm : BitVec 2) (neg : Bool) (n : ℕ) (q : ℤ) (flags : BitVec 5) : Dword × BitVec 5 :=
  let big := decide (2 ^ (fracBits f + 1) ≤ n)
  let m := if big then n / 2 else n
  let field : ℤ := (if big then q + 1 else q) + fracBits f + expBias f
  if m < 2 ^ fracBits f then (packFields f neg 0 m, flags)
  else if (expTop f : ℤ) ≤ field then (overflowResult f rm neg, flagO ||| flagI)
  else (packFields f neg field.toNat (m - 2 ^ fracBits f), flags)

theorem roundPack_eq : roundPack f rm tinyFree neg mant exp =
    packUnits f rm neg (roundedUnits f rm neg mant exp).1 (unitExp f mant exp)
      (packFlags f rm tinyFree neg mant exp) := rfl

end Parts

section PackUnits

variable {f : Fmt} {rm : BitVec 2} {neg : Bool} {n : ℕ} {q : ℤ} {flags : BitVec 5}

/-- Fewer units than a leading bit: a denormal, or zero. -/
theorem packUnits_of_lt (h : n < 2 ^ fracBits f) : packUnits f rm neg n q flags = (packFields f neg 0 n, flags) := by
  have hbig : ¬2 ^ (fracBits f + 1) ≤ n := by rw [Nat.pow_succ]; omega
  simp only [packUnits, decide_eq_false hbig, Bool.false_eq_true, if_false, if_pos h]

/-- As many or more: a significand with its leading bit, a carry out of it put into the exponent. -/
theorem packUnits_of_ge (hlo : 2 ^ fracBits f ≤ n) (hhi : n ≤ 2 ^ (fracBits f + 1)) : ∃ (m : ℕ) (e : ℤ),
    2 ^ fracBits f ≤ m ∧ m < 2 ^ (fracBits f + 1) ∧ q ≤ e ∧ (m * (2 : ℝ) ^ e = n * (2 : ℝ) ^ q) ∧
    packUnits f rm neg n q flags = if (expTop f : ℤ) ≤ e + fracBits f + expBias f
      then (overflowResult f rm neg, flagO ||| flagI)
      else (packFields f neg (e + fracBits f + expBias f).toNat (m - 2 ^ fracBits f), flags) := by
  have hpos := Nat.two_pow_pos (fracBits f)
  by_cases hbig : 2 ^ (fracBits f + 1) ≤ n
  · have hn : n = 2 ^ fracBits f * 2 := le_antisymm hhi hbig
    have hhalf : n / 2 = 2 ^ fracBits f := by omega
    refine ⟨n / 2, q + 1, hhalf.ge, by rw [hhalf, Nat.pow_succ]; omega, by omega, ?_, ?_⟩
    · rw [hhalf, hn, zpow_add_one₀ two_ne_zero]
      push_cast
      ring
    · simp only [packUnits, decide_eq_true hbig, if_true, if_neg (not_lt.mpr hhalf.ge)]
  · refine ⟨n, q, hlo, not_le.mp hbig, le_refl q, rfl, ?_⟩
    simp only [packUnits, decide_eq_false hbig, Bool.false_eq_true, if_false, if_neg (not_lt.mpr hlo)]

/-- An overflow's result (R573). -/
theorem overflowResult_fields (hf : f = .s ∨ f = .d) :
    if rm = 0 ∨ (rm = 2 ∧ neg = false) ∨ (rm = 3 ∧ neg = true) then
      hasFields f (overflowResult f rm neg) neg (expTop f) 0
    else hasFields f (overflowResult f rm neg) neg (expTop f - 1) (2 ^ fracBits f - 1) := by
  have hpos := Nat.two_pow_pos (fracBits f)
  have hinf : hasFields f (fpInf f neg) neg (expTop f) 0 := packFields_hasFields hf neg le_rfl hpos
  have hmax : hasFields f (fpMax f neg) neg (expTop f - 1) (2 ^ fracBits f - 1) :=
    packFields_hasFields hf neg (Nat.sub_le ..) (by omega)
  have hcond : (rm = 0 || (rm = 2 && !neg) || (rm = 3 && neg)) = true ↔
      rm = 0 ∨ (rm = 2 ∧ neg = false) ∨ (rm = 3 ∧ neg = true) := by
    simp [or_assoc]
  unfold overflowResult
  split
  · rw [if_pos (hcond.mpr ‹_›)]
    exact hinf
  · rw [if_neg fun h => ‹¬_› (hcond.mp h)]
    exact hmax

/-- What `n` units are put in as: an overflow from 2 ^ (bias + 1) on, and otherwise that number. -/
theorem packUnits_correct (hf : f = .s ∨ f = .d) (hhi : n ≤ 2 ^ (fracBits f + 1))
    (hq : 1 - (expBias f : ℤ) - fracBits f ≤ q) (hlow : n < 2 ^ fracBits f → q = 1 - (expBias f : ℤ) - fracBits f) :
    ((2 : ℝ) ^ ((expBias f : ℤ) + 1) ≤ n * (2 : ℝ) ^ q →
      packUnits f rm neg n q flags = (overflowResult f rm neg, 5)) ∧
    (n * (2 : ℝ) ^ q < (2 : ℝ) ^ ((expBias f : ℤ) + 1) → ∃ v, packUnits f rm neg n q flags = (v, flags) ∧
      hasFields f v neg (expField f v) (fracField f v) ∧ expField f v < expTop f ∧
      fpMagnitude f v = n * (2 : ℝ) ^ q) := by
  obtain ⟨htop, hbias⟩ := format_exponents hf
  by_cases hn : n < 2 ^ fracBits f
  · have hfields := packFields_hasFields hf neg (Nat.zero_le (expTop f)) hn
    have hmag := fpMagnitude_packFields_denormal (neg := neg) hf hn
    have hlt : n * (2 : ℝ) ^ q < (2 : ℝ) ^ ((expBias f : ℤ) + 1) := by
      calc n * (2 : ℝ) ^ q < ((2 ^ fracBits f : ℕ) : ℝ) * (2 : ℝ) ^ q :=
            mul_lt_mul_of_pos_right (by exact_mod_cast hn) (zpow_pos two_pos q)
        _ = (2 : ℝ) ^ ((fracBits f : ℤ) + q) := natCast_two_pow_mul_zpow ..
        _ ≤ (2 : ℝ) ^ ((expBias f : ℤ) + 1) := zpow_le_zpow_right₀ one_le_two (by rw [hlow hn]; omega)
    refine ⟨fun h => absurd h (not_le.mpr hlt), fun _ => ⟨_, packUnits_of_lt hn, ?_⟩⟩
    obtain ⟨hbound, hsign, he, hfrac⟩ := hfields
    exact ⟨⟨hbound, hsign, rfl, rfl⟩, by rw [he]; omega, by rw [hmag, hlow hn]⟩
  · obtain ⟨m, e, hlo, hm, hqe, hvalue, hpack⟩ :=
      packUnits_of_ge (rm := rm) (neg := neg) (q := q) (flags := flags) (not_lt.mp hn) hhi
    have hpow : (0 : ℝ) < (2 : ℝ) ^ e := zpow_pos two_pos e
    have hge : (2 : ℝ) ^ ((fracBits f : ℤ) + e) ≤ n * (2 : ℝ) ^ q := by
      rw [← hvalue, ← natCast_two_pow_mul_zpow]
      exact mul_le_mul_of_nonneg_right (by exact_mod_cast hlo) hpow.le
    have hlt : n * (2 : ℝ) ^ q < (2 : ℝ) ^ ((fracBits f : ℤ) + 1 + e) := by
      rw [← hvalue]
      refine lt_of_lt_of_eq (mul_lt_mul_of_pos_right (show (m : ℝ) < ((2 ^ (fracBits f + 1) : ℕ) : ℝ) by exact_mod_cast hm)
        hpow) ?_
      rw [natCast_two_pow_mul_zpow]
      push_cast
      rfl
    refine ⟨fun h => ?_, fun h => ?_⟩
    · have hexp := (zpow_lt_zpow_iff_right₀ (one_lt_two (α := ℝ))).mp (lt_of_le_of_lt h hlt)
      rw [hpack, if_pos (by omega)]
      rfl
    · have hexp := (zpow_lt_zpow_iff_right₀ (one_lt_two (α := ℝ))).mp (lt_of_le_of_lt hge h)
      rw [hpack, if_neg (by omega)]
      have hfield : (e + fracBits f + expBias f).toNat ≤ expTop f := by omega
      rw [Nat.pow_succ] at hm
      obtain ⟨hbound, hsign, he, hfrac⟩ :=
        packFields_hasFields hf neg hfield (show m - 2 ^ fracBits f < 2 ^ fracBits f by omega)
      refine ⟨_, rfl, ⟨hbound, hsign, rfl, rfl⟩, by rw [he]; omega, ?_⟩
      rw [fpMagnitude_packFields_normal hf hfield (by omega) hlo (by rw [Nat.pow_succ]; exact hm), ← hvalue,
        Int.toNat_of_nonneg (by omega)]
      ring_nf

end PackUnits

end Sys2Proof.Machine
end

section
/-! PROOFS. `roundPack` is correct rounding, with its flags (spec/45_fpu.md R573). -/

namespace Sys2Proof.Machine

section Rounding

variable {f : Fmt} {rm : BitVec 2} {tinyFree neg : Bool} {mant : ℕ} {exp : ℤ} {y : ℝ}

/-- The significand is exact, or has two bits more than the format's, the sticky one not counted. -/
def precise (f : Fmt) (mant : ℕ) (exp : ℤ) (y : ℝ) : Prop :=
  y = mant * (2 : ℝ) ^ exp ∨ fracBits f + 2 ≤ Nat.log2 mant

/-- The unit is no smaller than the precision asks for, and is the least denormal below the normal numbers. -/
theorem unitExp_bounds (f : Fmt) (mant : ℕ) (exp : ℤ) : topOf mant exp - fracBits f ≤ unitExp f mant exp ∧
    1 - (expBias f : ℤ) - fracBits f ≤ unitExp f mant exp ∧
    (unitExp f mant exp = topOf mant exp - fracBits f ∨ unitExp f mant exp = 1 - (expBias f : ℤ) - fracBits f) := by
  unfold unitExp
  omega

theorem topOf_bounds (hm : mant ≠ 0) (hy : standsFor mant (y / (2 : ℝ) ^ exp)) (hprec : precise f mant exp y) :
    (2 : ℝ) ^ topOf mant exp ≤ y ∧ y < (2 : ℝ) ^ (topOf mant exp + 1) :=
  leading_bounds hm hy (hprec.imp_right fun h => by omega)

/-- The unit may be any that leaves the format's bits. -/
theorem roundTo_rounds_of_precise {q : ℤ} (hy : standsFor mant (y / (2 : ℝ) ^ exp)) (hprec : precise f mant exp y)
    (hq : topOf mant exp - fracBits f ≤ q) :
    roundsToMultiple rm neg y ((2 : ℝ) ^ q) (roundTo rm neg mant exp q).1 ∧
    ((roundTo rm neg mant exp q).2 = true ↔ (roundTo rm neg mant exp q).1 * (2 : ℝ) ^ q ≠ y) :=
  roundTo_rounds hy (hprec.imp_right fun h => by unfold topOf at hq; omega)

/-- From the smallest normal number's exponent on, a rounded number has its leading bit. -/
theorem two_pow_le_of_rounds {q : ℤ} {n : ℕ} (hrounds : roundsToMultiple rm neg y ((2 : ℝ) ^ q) n)
    (hle : (2 : ℝ) ^ (q + fracBits f) ≤ y) : 2 ^ fracBits f ≤ n := by
  refine ge_of_roundsToMultiple (zpow_pos two_pos q) hrounds ?_
  rwa [natCast_two_pow_mul_zpow, add_comm]

/-- A rounded number has at most one bit more. -/
theorem le_two_pow_of_rounds {q : ℤ} {n : ℕ} (hrounds : roundsToMultiple rm neg y ((2 : ℝ) ^ q) n)
    (hle : y ≤ (2 : ℝ) ^ (q + fracBits f + 1)) : n ≤ 2 ^ (fracBits f + 1) := by
  refine le_of_roundsToMultiple (zpow_pos two_pos q) hrounds ?_
  rw [natCast_two_pow_mul_zpow]
  refine hle.trans_eq (congrArg _ ?_)
  push_cast
  ring

/-- Rounding to half the unit carries only if rounding to the unit does. -/
theorem two_pow_le_of_rounds_half {q : ℤ} {n : ℕ} (hrounds : roundsToMultiple rm neg y ((2 : ℝ) ^ q) n)
    (hhalf : roundsToMultiple rm neg y ((2 : ℝ) ^ (q - 1)) (2 ^ (fracBits f + 1))) : 2 ^ fracBits f ≤ n := by
  have hunit : (2 : ℝ) ^ q = (2 : ℝ) ^ (q - 1) * 2 := by rw [← zpow_add_one₀ two_ne_zero, sub_add_cancel]
  have hpos : (0 : ℝ) < (2 : ℝ) ^ (q - 1) := zpow_pos two_pos _
  have hcarry : ((2 ^ (fracBits f + 1) : ℕ) : ℝ) = 2 * ((2 ^ fracBits f : ℕ) : ℝ) := by push_cast; ring
  by_contra hlt
  have hnext : ((n : ℝ) + 1) * (2 : ℝ) ^ (q - 1) ≤ ((2 ^ fracBits f : ℕ) : ℝ) * (2 : ℝ) ^ (q - 1) := by
    refine mul_le_mul_of_nonneg_right ?_ hpos.le
    exact_mod_cast Nat.succ_le_of_lt (not_le.mp hlt)
  rw [hunit] at hrounds
  rcases mode_cases rm neg with rfl | hrm | hrm
  · have h1 := (abs_le.mp (roundsToMultiple_nearest_iff.mp hrounds).1).1
    have h2 := (abs_le.mp (roundsToMultiple_nearest_iff.mp hhalf).1).2
    rw [hcarry] at h2
    linarith
  · have h1 := ((roundsToMultiple_away_iff hrm).mp hrounds).1
    have h2 := ((roundsToMultiple_away_iff hrm).mp hhalf).2
    rw [hcarry] at h2
    linarith
  · have h1 := ((roundsToMultiple_toward_iff hrm).mp hrounds).2
    have h2 := ((roundsToMultiple_toward_iff hrm).mp hhalf).1
    rw [hcarry] at h2
    linarith

/-- Tiny says that the number is below the normal numbers. -/
theorem topOf_lt_of_isTiny (h : isTiny f rm tinyFree neg mant exp = true) : topOf mant exp < 1 - (expBias f : ℤ) := by
  unfold isTiny tinyAfterRounding at h
  by_contra hlt
  simp [hlt] at h

/-- A result below the normal numbers is tiny, by both readings. -/
theorem isTiny_of_result_lt (hm : mant ≠ 0) (hy : standsFor mant (y / (2 : ℝ) ^ exp)) (hprec : precise f mant exp y)
    (hlt : (roundedUnits f rm neg mant exp).1 * (2 : ℝ) ^ unitExp f mant exp < (2 : ℝ) ^ (1 - (expBias f : ℤ))) :
    isTiny f rm tinyFree neg mant exp = true := by
  obtain ⟨hle, -⟩ := topOf_bounds hm hy hprec
  obtain ⟨hunit, hleast, hcases⟩ := unitExp_bounds f mant exp
  obtain ⟨hrounds, -⟩ := roundTo_rounds_of_precise (rm := rm) (neg := neg) hy hprec hunit
  have hfew : ¬2 ^ fracBits f ≤ (roundedUnits f rm neg mant exp).1 := by
    intro h
    have hge : (2 : ℝ) ^ (unitExp f mant exp + fracBits f) ≤
        (roundedUnits f rm neg mant exp).1 * (2 : ℝ) ^ unitExp f mant exp := by
      rw [add_comm, ← natCast_two_pow_mul_zpow]
      exact mul_le_mul_of_nonneg_right (by exact_mod_cast h) (zpow_pos two_pos _).le
    have := (zpow_lt_zpow_iff_right₀ (one_lt_two (α := ℝ))).mp (lt_of_le_of_lt hge hlt)
    omega
  have htop : topOf mant exp < 1 - (expBias f : ℤ) := by
    by_contra htop
    have hq : unitExp f mant exp = topOf mant exp - fracBits f := by omega
    exact hfew (two_pow_le_of_rounds hrounds (by rw [hq, sub_add_cancel]; exact hle))
  have hcarry : ¬(topOf mant exp + 1 = 1 - (expBias f : ℤ) ∧
      (roundTo rm neg mant exp (topOf mant exp - fracBits f)).1 = 2 ^ (fracBits f + 1)) := by
    rintro ⟨hnext, hcarry⟩
    obtain ⟨hhalf, -⟩ := roundTo_rounds_of_precise (rm := rm) (neg := neg) hy hprec (le_refl (topOf mant exp - fracBits f))
    rw [hcarry, show topOf mant exp - fracBits f = unitExp f mant exp - 1 by omega] at hhalf
    exact hfew (two_pow_le_of_rounds_half hrounds hhalf)
  have hafter : tinyAfterRounding f rm neg mant exp (topOf mant exp) = true := by
    unfold tinyAfterRounding
    rw [decide_eq_true htop, ← Bool.decide_and, decide_eq_false hcarry]
    rfl
  rw [isTiny, hafter, Bool.true_or]

/-- `roundPack` rounds correctly whatever nonzero number its significand stands for. -/
theorem roundPack_correct (hf : f = .s ∨ f = .d) {x : ℝ} (zeroNeg : Bool) (hneg : neg = true ↔ x < 0) (hm : mant ≠ 0)
    (hx : standsFor mant (|x| / (2 : ℝ) ^ exp)) (hprec : precise f mant exp |x|) :
    correctlyRounded f rm x zeroNeg (roundPack f rm tinyFree neg mant exp) := by
  obtain ⟨hle, hlt⟩ := topOf_bounds hm hx hprec
  have hpos : 0 < |x| := lt_of_lt_of_le (zpow_pos two_pos _) hle
  refine ⟨fun h => absurd h (abs_pos.mp hpos), fun neg' top _ hneg' htop htop' => ?_⟩
  obtain rfl : neg' = neg := Bool.eq_iff_iff.mpr (hneg'.trans hneg.symm)
  obtain rfl : top = topOf mant exp := leading_unique htop htop' hle hlt
  obtain ⟨hunit, hleast, hcases⟩ := unitExp_bounds f mant exp
  obtain ⟨hrounds, hinexact⟩ := roundTo_rounds_of_precise (rm := rm) (neg := neg') hx hprec hunit
  have hmany : (roundedUnits f rm neg' mant exp).1 ≤ 2 ^ (fracBits f + 1) :=
    le_two_pow_of_rounds hrounds (hlt.le.trans (zpow_le_zpow_right₀ one_le_two (by omega)))
  have hfew (h : (roundedUnits f rm neg' mant exp).1 < 2 ^ fracBits f) :
      unitExp f mant exp = 1 - (expBias f : ℤ) - fracBits f := by
    refine hcases.resolve_left fun hq => absurd (two_pow_le_of_rounds (f := f) hrounds ?_) (not_le.mpr h)
    rw [hq, sub_add_cancel]
    exact hle
  obtain ⟨hover, hfit⟩ := packUnits_correct (rm := rm) (neg := neg') (flags := packFlags f rm tinyFree neg' mant exp) hf
    hmany hleast hfew
  obtain ⟨hsmall, hbitI, hbitU⟩ := packFlags_bits (f := f) (rm := rm) (tinyFree := tinyFree) (neg := neg') (mant := mant)
    (exp := exp)
  rw [roundPack_eq]
  refine ⟨_, hrounds, fun h => ?_, fun h => ?_⟩
  · rw [hover h]
    exact ⟨rfl, overflowResult_fields hf⟩
  · obtain ⟨v, hv, hfields, hfinite, hmag⟩ := hfit h
    rw [hv]
    refine ⟨hfields, hfinite, hmag, hsmall, hbitI.trans hinexact, fun hu => ?_, fun hne hlow => ?_⟩
    · obtain ⟨hi, htiny⟩ := hbitU.mp hu
      refine ⟨hinexact.mp hi, hlt.trans_le (zpow_le_zpow_right₀ one_le_two ?_)⟩
      have := topOf_lt_of_isTiny htiny
      omega
    · exact hbitU.mpr ⟨hinexact.mpr hne, isTiny_of_result_lt hm hx hprec hlow⟩

/-- An exact significand. -/
theorem standsFor_exact (h : y = mant * (2 : ℝ) ^ exp) : standsFor mant (y / (2 : ℝ) ^ exp) ∧ precise f mant exp y :=
  ⟨.inl (by rw [h, mul_div_cancel_right₀ _ (zpow_pos two_pos exp).ne']), .inl h⟩

/-- A zero result. -/
theorem fpZero_correct (hf : f = .s ∨ f = .d) (zeroNeg : Bool) : correctlyRounded f rm 0 zeroNeg (fpZero f zeroNeg, 0) :=
  ⟨fun _ => ⟨packFields_hasFields hf zeroNeg (Nat.zero_le _) (Nat.two_pow_pos _), rfl⟩, fun _ _ h => absurd rfl h⟩

/-- A result of a given sign: zero keeps it. -/
theorem roundOrZero_correct (hf : f = .s ∨ f = .d) {x : ℝ} (hneg : x ≠ 0 → (neg = true ↔ x < 0))
    (hx : standsFor mant (|x| / (2 : ℝ) ^ exp)) (hprec : precise f mant exp |x|) :
    correctlyRounded f rm x neg (roundOrZero f rm tinyFree neg mant exp) := by
  by_cases hm : mant = 0
  · have hzero : x = 0 := by
      obtain heq | ⟨hodd, -, -⟩ := hx
      · simpa [hm, (zpow_pos (two_pos (α := ℝ)) exp).ne'] using heq
      · omega
    rw [roundOrZero, if_pos hm, hzero]
    exact fpZero_correct hf neg
  · obtain ⟨hle, -⟩ := topOf_bounds hm hx hprec
    have hne : x ≠ 0 := abs_pos.mp (lt_of_lt_of_le (zpow_pos two_pos _) hle)
    rw [roundOrZero, if_neg hm]
    exact roundPack_correct hf neg (hneg hne) hm hx hprec

end Rounding

end Sys2Proof.Machine
end

section
/-! PROOFS. FPOP_IEEE's operations on finite numbers are correctly rounded (spec/45_fpu.md R573). -/

namespace Sys2Proof.Machine

/-! ## Finite numbers -/

/-- ± mant · 2 ^ exp. -/
noncomputable def signedNumber (neg : Bool) (mant : ℕ) (exp : ℤ) : ℝ :=
  if neg then -(mant * (2 : ℝ) ^ exp) else mant * (2 : ℝ) ^ exp

section Numbers

variable {f : Fmt} {v : Dword} {neg : Bool} {mant : ℕ} {exp : ℤ}

theorem fpMagnitude_eq (f : Fmt) (v : Dword) : fpMagnitude f v = significand f v * (2 : ℝ) ^ lastExp f v := by
  unfold fpMagnitude significand lastExp
  split <;> push_cast <;> rfl

theorem fpNumber_eq (f : Fmt) (v : Dword) :
    fpNumber f v = signedNumber (signField f v) (significand f v) (lastExp f v) := by
  rw [fpNumber, fpMagnitude_eq, signedNumber]

theorem abs_signedNumber : |signedNumber neg mant exp| = mant * (2 : ℝ) ^ exp := by
  have h : (0 : ℝ) ≤ mant * (2 : ℝ) ^ exp := mul_nonneg (Nat.cast_nonneg _) (zpow_pos two_pos _).le
  unfold signedNumber
  split
  · rw [abs_neg, abs_of_nonneg h]
  · exact abs_of_nonneg h

theorem signedNumber_eq_zero_iff : signedNumber neg mant exp = 0 ↔ mant = 0 := by
  rw [← abs_eq_zero, abs_signedNumber, mul_eq_zero_iff_right (zpow_pos two_pos _).ne', Nat.cast_eq_zero]

/-- The sign of a nonzero number. -/
theorem signedNumber_neg_iff (h : signedNumber neg mant exp ≠ 0) : neg = true ↔ signedNumber neg mant exp < 0 := by
  have hm : mant ≠ 0 := fun hm => h (signedNumber_eq_zero_iff.mpr hm)
  have hpos : (0 : ℝ) < mant * (2 : ℝ) ^ exp := mul_pos (by exact_mod_cast Nat.pos_of_ne_zero hm) (zpow_pos two_pos _)
  unfold signedNumber
  cases neg
  · simp [hpos.le]
  · simpa using hpos

/-- A significand is below twice its leading bit. -/
theorem significand_lt (f : Fmt) (v : Dword) : significand f v < 2 ^ (fracBits f + 1) := by
  have h := fracField_lt f v
  rw [Nat.pow_succ]
  unfold significand
  split <;> omega

end Numbers

/-! ## Sums and differences -/

section Sums

variable {f : Fmt} {rm : BitVec 2} {tinyFree an bn : Bool} {am bm : ℕ} {ae be : ℤ}

/-- A number as so many units of a smaller exponent. -/
theorem scaled_mul {neg : Bool} {mant : ℕ} {exp e : ℤ} (h : e ≤ exp) :
    (scaled neg mant exp e : ℝ) * (2 : ℝ) ^ e = signedNumber neg mant exp := by
  have hpow : ((2 ^ (exp - e).toNat : ℕ) : ℝ) * (2 : ℝ) ^ e = (2 : ℝ) ^ exp := by
    rw [natCast_two_pow_mul_zpow, Int.toNat_of_nonneg (by omega), sub_add_cancel]
  unfold scaled signedNumber
  rw [← hpow]
  split <;> push_cast <;> ring

/-- Two numbers of one sign cancel only as zeros. -/
theorem scaled_add_eq_zero {neg : Bool} {e : ℤ} (h : scaled neg am ae e + scaled neg bm be e = 0) :
    am = 0 ∧ bm = 0 := by
  have ha := Nat.two_pow_pos (ae - e).toNat
  have hb := Nat.two_pow_pos (be - e).toNat
  have hsum : am * 2 ^ (ae - e).toNat + bm * 2 ^ (be - e).toNat = 0 := by
    unfold scaled at h
    split at h <;> omega
  obtain ⟨ham, hbm⟩ := Nat.add_eq_zero_iff.mp hsum
  exact ⟨(Nat.mul_eq_zero.mp ham).resolve_right ha.ne', (Nat.mul_eq_zero.mp hbm).resolve_right hb.ne'⟩

theorem addNum_correct (hf : f = .s ∨ f = .d) :
    correctlyRounded f rm (signedNumber an am ae + signedNumber bn bm be) (if an = bn then an else rm == 3)
      (addNum f rm tinyFree an am ae bn bm be) := by
  let e := min ae be
  let sum := scaled an am ae e + scaled bn bm be e
  have hpow : (0 : ℝ) < (2 : ℝ) ^ e := zpow_pos two_pos e
  have hvalue : signedNumber an am ae + signedNumber bn bm be = sum * (2 : ℝ) ^ e := by
    rw [← scaled_mul (min_le_left ae be), ← scaled_mul (min_le_right ae be), ← add_mul]
    exact congrArg (· * (2 : ℝ) ^ e) (Int.cast_add ..).symm
  have hadd : addNum f rm tinyFree an am ae bn bm be =
      if sum = 0 then (fpZero f (if am = 0 && bm = 0 && an == bn then an else rm == 3), 0)
      else roundPack f rm tinyFree (decide (sum < 0)) sum.natAbs e := rfl
  rw [hvalue, hadd]
  by_cases hsum : sum = 0
  · have hsign : (if am = 0 && bm = 0 && an == bn then an else rm == 3) = if an = bn then an else rm == 3 := by
      by_cases heq : an = bn
      · subst heq
        obtain ⟨ham, hbm⟩ := scaled_add_eq_zero hsum
        simp [ham, hbm]
      · simp [heq]
    rw [if_pos hsum, hsum, hsign, Int.cast_zero, zero_mul]
    exact fpZero_correct hf _
  · have habs : |(sum : ℝ) * (2 : ℝ) ^ e| = (sum.natAbs : ℝ) * (2 : ℝ) ^ e := by
      rw [abs_mul, abs_of_pos hpow, Nat.cast_natAbs, Int.cast_abs]
    have hneg : decide (sum < 0) = true ↔ (sum : ℝ) * (2 : ℝ) ^ e < 0 := by
      rw [decide_eq_true_iff, ← Int.cast_lt_zero (R := ℝ), mul_neg_iff]
      simp [hpow, not_lt.mpr hpow.le]
    obtain ⟨hstands, hprec⟩ := standsFor_exact (f := f) habs
    rw [if_neg hsum]
    exact roundPack_correct hf _ hneg (Int.natAbs_ne_zero.mpr hsum) hstands hprec

end Sums

/-! ## Signs of products and quotients -/

theorem bne_iff_mul_neg {an bn : Bool} {x y : ℝ} (ha : x ≠ 0 → (an = true ↔ x < 0)) (hb : y ≠ 0 → (bn = true ↔ y < 0))
    (h : x * y ≠ 0) : (an != bn) = true ↔ x * y < 0 := by
  have hx := left_ne_zero_of_mul h
  have hy := right_ne_zero_of_mul h
  have ha := ha hx
  have hb := hb hy
  rw [mul_neg_iff, bne_iff_ne]
  rcases lt_or_gt_of_ne hx with hx | hx <;> rcases lt_or_gt_of_ne hy with hy | hy <;>
    simp [hx, hy, hx.not_gt, hy.not_gt] at ha hb ⊢ <;> simp [ha, hb]

/-! ## Quotients -/

section Quotients

variable {f : Fmt} {rm : BitVec 2} {tinyFree an bn : Bool} {am bm : ℕ} {ae be : ℤ}

/-- A quotient and its sticky bit stand for twice the exact quotient. -/
theorem standsFor_quotient (n : ℕ) {d : ℕ} (hd : 0 < d) :
    standsFor (2 * (n / d) + if n % d = 0 then 0 else 1) (2 * ((n : ℝ) / d)) := by
  have hdR : (0 : ℝ) < d := by exact_mod_cast hd
  have hsplit : (n : ℝ) = (n / d : ℕ) * d + (n % d : ℕ) := by exact_mod_cast (Nat.div_add_mod' n d).symm
  have hq : (n : ℝ) / d = (n / d : ℕ) + (n % d : ℕ) / (d : ℝ) := by
    rw [hsplit, add_div, mul_div_cancel_right₀ _ hdR.ne']
  split
  · left
    rw [hq, ‹n % d = 0›]
    push_cast
    ring
  · right
    have hpos : (0 : ℝ) < (n % d : ℕ) / (d : ℝ) := div_pos (by exact_mod_cast Nat.pos_of_ne_zero ‹_›) hdR
    have hlt : ((n % d : ℕ) : ℝ) / d < 1 := (div_lt_one hdR).mpr (by exact_mod_cast Nat.mod_lt n hd)
    rw [hq]
    push_cast
    refine ⟨by omega, by linarith, by linarith⟩

/-- A significand of that many bits is precise. -/
theorem precise_of_le {f : Fmt} {mant : ℕ} {exp : ℤ} {y : ℝ} (h : 2 ^ (fracBits f + 2) ≤ mant) :
    precise f mant exp y := by
  have hne : mant ≠ 0 := fun h0 => absurd (h0 ▸ h) (Nat.not_le.mpr (Nat.two_pow_pos _))
  exact .inr ((Nat.le_log2 hne).mpr h)

theorem divNum_correct (hf : f = .s ∨ f = .d) (hbm : bm ≠ 0) (hlt : bm < 2 ^ (fracBits f + 1)) :
    correctlyRounded f rm (signedNumber an am ae / signedNumber bn bm be) (an != bn)
      (divNum f rm tinyFree (an != bn) am ae bm be) := by
  let k := 2 * fracBits f + 6
  have hpos : 0 < bm := Nat.pos_of_ne_zero hbm
  have hy : signedNumber bn bm be ≠ 0 := fun h => hbm (signedNumber_eq_zero_iff.mp h)
  have habs : |signedNumber an am ae / signedNumber bn bm be| =
      2 * (((am * 2 ^ k : ℕ) : ℝ) / bm) * (2 : ℝ) ^ (ae - be - k - 1) := by
    have hbmR : (bm : ℝ) ≠ 0 := by exact_mod_cast hbm
    rw [abs_div, abs_signedNumber, abs_signedNumber, zpow_sub₀ two_ne_zero, zpow_sub₀ two_ne_zero, zpow_sub₀ two_ne_zero,
      zpow_natCast]
    push_cast
    field_simp
  have hexp : (2 : ℝ) ^ (ae - be - k - 1) ≠ 0 := (zpow_pos two_pos _).ne'
  have hstands : standsFor (2 * (am * 2 ^ k / bm) + if am * 2 ^ k % bm = 0 then 0 else 1)
      (|signedNumber an am ae / signedNumber bn bm be| / (2 : ℝ) ^ (ae - be - k - 1)) := by
    rw [habs, mul_div_cancel_right₀ _ hexp]
    exact standsFor_quotient (am * 2 ^ k) hpos
  refine roundOrZero_correct hf (fun h => ?_) hstands ?_
  · rw [div_eq_mul_inv] at h ⊢
    exact bne_iff_mul_neg signedNumber_neg_iff (fun _ => (signedNumber_neg_iff hy).trans inv_lt_zero.symm) h
  · by_cases ham : am = 0
    · left
      rw [habs, ham]
      simp
    · refine precise_of_le (le_trans ?_ (Nat.le_add_right _ _))
      have hquot : 2 ^ (fracBits f + 5) ≤ am * 2 ^ k / bm := by
        rw [Nat.le_div_iff_mul_le hpos]
        calc 2 ^ (fracBits f + 5) * bm ≤ 2 ^ (fracBits f + 5) * 2 ^ (fracBits f + 1) := Nat.mul_le_mul_left _ hlt.le
          _ = 2 ^ k := by rw [← Nat.pow_add]; exact congrArg _ (by omega)
          _ ≤ am * 2 ^ k := Nat.le_mul_of_pos_left _ (Nat.pos_of_ne_zero ham)
      calc 2 ^ (fracBits f + 2) ≤ 2 ^ (fracBits f + 5) := Nat.pow_le_pow_right two_pos (by omega)
        _ ≤ 2 * (am * 2 ^ k / bm) := by omega

end Quotients

/-! ## Square roots -/

section Roots

/-- The root is found bit by bit. -/
theorem isqrtGo_bounds (n i r : ℕ) (hlo : r * r ≤ n) (hhi : n < (r + 2 ^ i) * (r + 2 ^ i)) :
    isqrtGo n i r * isqrtGo n i r ≤ n ∧ n < (isqrtGo n i r + 1) * (isqrtGo n i r + 1) := by
  induction i generalizing r with
  | zero => exact ⟨hlo, hhi⟩
  | succ i ih =>
    rw [isqrtGo]
    split
    · refine ih _ ‹_› ?_
      rwa [Nat.add_assoc, ← Nat.two_mul, ← Nat.pow_succ']
    · exact ih _ hlo (not_le.mp ‹_›)

theorem isqrt_bounds (n : ℕ) : isqrt n * isqrt n ≤ n ∧ n < (isqrt n + 1) * (isqrt n + 1) := by
  refine isqrtGo_bounds n _ 0 (Nat.zero_le n) ?_
  rw [Nat.zero_add, ← Nat.pow_add]
  exact lt_of_lt_of_le Nat.lt_log2_self (Nat.pow_le_pow_right two_pos (by omega))

/-- A root and its sticky bit stand for twice the exact root. -/
theorem standsFor_root (n : ℕ) :
    standsFor (2 * isqrt n + if isqrt n * isqrt n = n then 0 else 1) (2 * Real.sqrt n) := by
  obtain ⟨hlo, hhi⟩ := isqrt_bounds n
  split
  · left
    rw [Nat.add_zero]
    push_cast
    congr 1
    rw [Real.sqrt_eq_iff_mul_self_eq (Nat.cast_nonneg _) (Nat.cast_nonneg _)]
    exact_mod_cast (‹isqrt n * isqrt n = n›).symm
  · right
    have hlt : (isqrt n : ℝ) < Real.sqrt n := by
      refine Real.lt_sqrt_of_sq_lt ?_
      rw [sq]
      exact_mod_cast lt_of_le_of_ne hlo ‹_›
    have hgt : Real.sqrt n < isqrt n + 1 := by
      rw [Real.sqrt_lt' (by positivity), sq]
      exact_mod_cast hhi
    push_cast
    exact ⟨by omega, by linarith, by linarith⟩

variable {f : Fmt} {rm : BitVec 2} {tinyFree : Bool} {am : ℕ} {ae : ℤ}

/-- Half the exponent comes out of the root. -/
theorem sqrt_mul_zpow (x : ℝ) (hx : 0 ≤ x) (h : ℤ) : Real.sqrt (x * (2 : ℝ) ^ (2 * h)) = Real.sqrt x * (2 : ℝ) ^ h := by
  rw [Real.sqrt_mul hx, mul_comm 2 h, zpow_mul, zpow_ofNat, Real.sqrt_sq (zpow_pos two_pos h).le]

/-- The root of a number of so many bits has half as many. -/
theorem two_pow_le_isqrt {n j : ℕ} (h : 2 ^ (2 * j) ≤ n) : 2 ^ j ≤ isqrt n := by
  obtain ⟨-, hhi⟩ := isqrt_bounds n
  by_contra hlt
  have hle : isqrt n + 1 ≤ 2 ^ j := not_le.mp hlt
  have hsq := Nat.mul_le_mul hle hle
  rw [← Nat.pow_add, ← Nat.two_mul] at hsq
  omega

/-- The sign of zero does not matter to other results. -/
theorem correctlyRounded_of_ne {x : ℝ} {zeroNeg zeroNeg' : Bool} {r : Dword × BitVec 5}
    (h : correctlyRounded f rm x zeroNeg r) (hx : x ≠ 0) : correctlyRounded f rm x zeroNeg' r := by
  obtain ⟨-, h⟩ := h
  exact ⟨fun h0 => absurd h0 hx, h⟩

theorem sqrtNum_correct (hf : f = .s ∨ f = .d) (zeroNeg : Bool) (ham : am ≠ 0) :
    correctlyRounded f rm (Real.sqrt (am * (2 : ℝ) ^ ae)) zeroNeg (sqrtNum f rm tinyFree false am ae) := by
  let k := 2 * fracBits f + 6 + (ae % 2).toNat
  let n := am * 2 ^ k
  have heven : ae - k = 2 * ((ae - k) / 2) := by
    have := Int.emod_two_eq ae
    omega
  have hvalue : Real.sqrt (am * (2 : ℝ) ^ ae) = 2 * Real.sqrt n * (2 : ℝ) ^ ((ae - k) / 2 - 1) := by
    have hsplit : (am : ℝ) * (2 : ℝ) ^ ae = (n : ℝ) * (2 : ℝ) ^ (2 * ((ae - k) / 2)) := by
      rw [← heven]
      change _ = ((am * 2 ^ k : ℕ) : ℝ) * _
      rw [Nat.cast_mul, mul_assoc, natCast_two_pow_mul_zpow, add_sub_cancel]
    rw [hsplit, sqrt_mul_zpow _ (Nat.cast_nonneg _), zpow_sub_one₀ two_ne_zero]
    ring
  have hne : Real.sqrt (am * (2 : ℝ) ^ ae) ≠ 0 := by
    have hpos : (0 : ℝ) < am * (2 : ℝ) ^ ae := mul_pos (by exact_mod_cast Nat.pos_of_ne_zero ham) (zpow_pos two_pos _)
    exact (Real.sqrt_pos.mpr hpos).ne'
  have hstands : standsFor (2 * isqrt n + if isqrt n * isqrt n = n then 0 else 1)
      (|Real.sqrt (am * (2 : ℝ) ^ ae)| / (2 : ℝ) ^ ((ae - k) / 2 - 1)) := by
    rw [abs_of_nonneg (Real.sqrt_nonneg _), hvalue, mul_div_cancel_right₀ _ (zpow_pos two_pos _).ne']
    exact standsFor_root n
  have hbits : 2 ^ (fracBits f + 3) ≤ isqrt n := by
    refine two_pow_le_isqrt ?_
    calc 2 ^ (2 * (fracBits f + 3)) ≤ 2 ^ k := Nat.pow_le_pow_right two_pos (by omega)
      _ ≤ n := Nat.le_mul_of_pos_left _ (Nat.pos_of_ne_zero ham)
  have hprec : 2 ^ (fracBits f + 2) ≤ 2 * isqrt n + if isqrt n * isqrt n = n then 0 else 1 := by
    rw [Nat.pow_succ] at hbits
    omega
  exact correctlyRounded_of_ne (roundOrZero_correct hf
    (fun _ => iff_of_false Bool.false_ne_true (not_lt.mpr (Real.sqrt_nonneg _))) hstands (precise_of_le hprec)) hne

end Roots

end Sys2Proof.Machine
end

section
/-! PROOFS. FPOP_IEEE's results are correctly rounded, by operation (spec/45_fpu.md R573, R598 to R609). -/

namespace Sys2Proof.Machine

section Operations

variable {f g : Fmt} {rm : BitVec 2} {a b : Dword}

theorem signedNumber_not {neg : Bool} {mant : ℕ} {exp : ℤ} :
    signedNumber (!neg) mant exp = -signedNumber neg mant exp := by
  unfold signedNumber
  cases neg <;> simp

/-- An exact significand's number and precision. -/
theorem standsFor_signedNumber {neg : Bool} {mant : ℕ} {exp : ℤ} :
    standsFor mant (|signedNumber neg mant exp| / (2 : ℝ) ^ exp) ∧ precise f mant exp |signedNumber neg mant exp| :=
  standsFor_exact abs_signedNumber

theorem fpAdd_correct (hf : f = .s ∨ f = .d) (ha : expField f a < expTop f) (hb : expField f b < expTop f) :
    correctlyRounded f rm (fpNumber f a + fpNumber f b)
      (if signField f a = signField f b then signField f a else rm == 3) (fpAdd f rm a b) := by
  rw [fpAdd, unpack_of_finite ha, unpack_of_finite hb, fpNumber_eq, fpNumber_eq]
  exact addNum_correct hf

theorem fpSub_correct (hf : f = .s ∨ f = .d) (ha : expField f a < expTop f) (hb : expField f b < expTop f) :
    correctlyRounded f rm (fpNumber f a - fpNumber f b)
      (if signField f a ≠ signField f b then signField f a else rm == 3) (fpSub f rm a b) := by
  have hsign : (if signField f a ≠ signField f b then signField f a else rm == 3) =
      if signField f a = !signField f b then signField f a else rm == 3 :=
    if_congr (by cases signField f a <;> cases signField f b <;> decide) rfl rfl
  rw [hsign, fpSub, unpack_of_finite ha, unpack_of_finite hb, fpNumber_eq, fpNumber_eq, sub_eq_add_neg,
    ← signedNumber_not]
  exact addNum_correct hf

theorem fpMul_correct (hf : f = .s ∨ f = .d) (ha : expField f a < expTop f) (hb : expField f b < expTop f) :
    correctlyRounded f rm (fpNumber f a * fpNumber f b) (signField f a != signField f b) (fpMul f rm a b) := by
  rw [fpMul, unpack_of_finite ha, unpack_of_finite hb, fpNumber_eq, fpNumber_eq]
  have habs : |signedNumber (signField f a) (significand f a) (lastExp f a) *
      signedNumber (signField f b) (significand f b) (lastExp f b)| =
      ((significand f a * significand f b : ℕ) : ℝ) * (2 : ℝ) ^ (lastExp f a + lastExp f b) := by
    rw [abs_mul, abs_signedNumber, abs_signedNumber, zpow_add₀ two_ne_zero]
    push_cast
    ring
  obtain ⟨hstands, hprec⟩ := standsFor_exact (f := f) habs
  exact roundOrZero_correct hf (bne_iff_mul_neg signedNumber_neg_iff signedNumber_neg_iff) hstands hprec

theorem fpDiv_correct (hf : f = .s ∨ f = .d) (ha : expField f a < expTop f) (hb : expField f b < expTop f)
    (hne : fpNumber f b ≠ 0) :
    correctlyRounded f rm (fpNumber f a / fpNumber f b) (signField f a != signField f b) (fpDiv f rm a b) := by
  rw [fpNumber_eq f b] at hne
  have hbm : significand f b ≠ 0 := fun h => hne (signedNumber_eq_zero_iff.mpr h)
  rw [fpDiv, unpack_of_finite ha, unpack_of_finite hb, fpNumber_eq, fpNumber_eq]
  dsimp only
  rw [if_neg hbm]
  exact divNum_correct hf hbm (significand_lt f b)

theorem fpSqrt_correct (hf : f = .s ∨ f = .d) (ha : expField f a < expTop f) (hx : 0 ≤ fpNumber f a) :
    correctlyRounded f rm (Real.sqrt (fpNumber f a)) (signField f a) (fpSqrt f rm a) := by
  rw [fpNumber_eq] at hx ⊢
  rw [fpSqrt_of_num (unpack_of_finite ha)]
  by_cases ham : significand f a = 0
  · rw [if_pos ham, signedNumber_eq_zero_iff.mpr ham, Real.sqrt_zero]
    exact fpZero_correct hf _
  · have hne : signedNumber (signField f a) (significand f a) (lastExp f a) ≠ 0 :=
      fun h => ham (signedNumber_eq_zero_iff.mp h)
    have hsign : ¬signField f a = true := fun h => absurd ((signedNumber_neg_iff hne).mp h) (not_lt.mpr hx)
    rw [if_neg ham, if_neg hsign, signedNumber, if_neg hsign]
    exact sqrtNum_correct hf _ ham

theorem isFloat_iff (f : Fmt) : isFloat f = true ↔ f = .s ∨ f = .d := by
  cases f <;> decide

theorem fpCvt_toFloat_correct (hf : f = .s ∨ f = .d) (hg : g = .s ∨ g = .d) (ha : expField f a < expTop f) :
    correctlyRounded g rm (fpNumber f a) (signField f a) (fpCvt f g rm a) := by
  rw [fpCvt, if_pos ((isFloat_iff f).mpr hf), if_pos ((isFloat_iff g).mpr hg), fpToFp, unpack_of_finite ha, fpNumber_eq]
  obtain ⟨hstands, hprec⟩ := standsFor_signedNumber (f := g) (neg := signField f a) (mant := significand f a)
    (exp := lastExp f a)
  exact roundOrZero_correct hg signedNumber_neg_iff hstands hprec

theorem fpCvt_ofInteger_correct (hf : f = .s ∨ f = .d) (hg : g = .w ∨ g = .l) :
    correctlyRounded f rm (integerValue g a) false (fpCvt g f rm a) := by
  have hcvt : fpCvt g f rm a = intToFp g f rm a := by rcases hg with rfl | rfl <;> rfl
  have habs : |(integerValue g a : ℝ)| = ((integerValue g a).natAbs : ℝ) * (2 : ℝ) ^ (0 : ℤ) := by
    rw [zpow_zero, mul_one, Nat.cast_natAbs, Int.cast_abs]
  obtain ⟨hstands, hprec⟩ := standsFor_exact (f := f) habs
  have hround := roundOrZero_correct (rm := rm) (tinyFree := Config.tinyBeforeRounding .cvt f a 0)
    (neg := decide (integerValue g a < 0)) hf (fun _ => by rw [decide_eq_true_iff, Int.cast_lt_zero]) hstands hprec
  rw [hcvt, intToFp]
  by_cases hzero : integerValue g a = 0
  · rw [hzero] at hround ⊢
    exact hround
  · exact correctlyRounded_of_ne hround (Int.cast_ne_zero.mpr hzero)

/-! ## To an integer -/

/-- A finite operand's rounded magnitude is the one that FpopRoundsCorrectly speaks of. -/
theorem roundTo_eq_of_rounds {n : ℕ} (f : Fmt) (a : Dword)
    (h : roundsToMultiple rm (signField f a) (fpMagnitude f a) 1 n) :
    (roundTo rm (signField f a) (significand f a) (lastExp f a) 0).1 = n ∧
    ((roundTo rm (signField f a) (significand f a) (lastExp f a) 0).2 = true ↔ (n : ℝ) ≠ fpMagnitude f a) := by
  obtain ⟨hstands, hprec⟩ := standsFor_exact (f := f) (fpMagnitude_eq f a)
  obtain ⟨hrounds, hinexact⟩ := roundTo_rounds (rm := rm) (neg := signField f a) (q := 0) hstands (.inl (fpMagnitude_eq f a))
  rw [zpow_zero] at hrounds hinexact
  have hn := roundsToMultiple_unique one_pos hrounds h
  rw [hn, mul_one] at hinexact
  exact ⟨hn, hinexact⟩

/-- Every finite operand rounds to some integer. -/
theorem rounds_roundTo (rm : BitVec 2) (f : Fmt) (a : Dword) : roundsToMultiple rm (signField f a) (fpMagnitude f a) 1
    (roundTo rm (signField f a) (significand f a) (lastExp f a) 0).1 := by
  obtain ⟨hstands, hprec⟩ := standsFor_exact (f := f) (fpMagnitude_eq f a)
  obtain ⟨hrounds, -⟩ := roundTo_rounds (rm := rm) (neg := signField f a) (q := 0) hstands (.inl (fpMagnitude_eq f a))
  rwa [zpow_zero] at hrounds

theorem fpCvt_toInteger (hf : f = .s ∨ f = .d) (hg : g = .w ∨ g = .l) : fpCvt f g rm a = fpToInt f g rm a := by
  rw [fpCvt, if_pos ((isFloat_iff f).mpr hf)]
  rcases hg with rfl | rfl <;> rfl

theorem fitsInteger_iff (hg : g = .w ∨ g = .l) (i : ℤ) : fitsInteger g i = true ↔
    -(2 ^ ((if g = .w then 32 else 64) - 1)) ≤ i ∧ i < 2 ^ ((if g = .w then 32 else 64) - 1) := by
  unfold fitsInteger
  rw [Bool.and_eq_true, decide_eq_true_iff, decide_eq_true_iff, Int.le_sub_one_iff]
  rcases hg with rfl | rfl <;> exact Iff.rfl

theorem fpToInt_of_rounds {n : ℕ} (ha : expField f a < expTop f)
    (h : roundsToMultiple rm (signField f a) (fpMagnitude f a) 1 n) :
    fpToInt f g rm a = if fitsInteger g (if signField f a then -(n : ℤ) else n)
      then (integerBits g (if signField f a then -(n : ℤ) else n),
        if (roundTo rm (signField f a) (significand f a) (lastExp f a) 0).2 then flagI else 0)
      else (Config.invalidInteger f g a, flagV) := by
  rw [fpToInt, unpack_of_finite ha, ← (roundTo_eq_of_rounds f a h).1]
  rfl

/-- A value that is no number is invalid. -/
theorem fpToInt_of_not_finite (h : ¬expField f a < expTop f) : (fpToInt f g rm a).2 = 16 := by
  have he : expField f a = expTop f := le_antisymm (expField_le f a) (not_lt.mp h)
  unfold fpToInt unpack
  rw [if_pos he]
  split_ifs <;> rfl

/-! ## Flushing -/

/-- With FS set a denormal result is a zero with no flag but U and I; any other stays (R62, R573). -/
theorem fpopIeee_of_fs_set (hf : f = .s ∨ f = .d) (op : FpOp) :
    ((expField f (fpopIeee op g f rm false a b).1 = 0 ∧ fracField f (fpopIeee op g f rm false a b).1 ≠ 0) →
      (∃ neg, hasFields f (fpopIeee op g f rm true a b).1 neg 0 0) ∧ (fpopIeee op g f rm true a b).2.toNat < 4) ∧
    (¬(expField f (fpopIeee op g f rm false a b).1 = 0 ∧ fracField f (fpopIeee op g f rm false a b).1 ≠ 0) →
      fpopIeee op g f rm true a b = fpopIeee op g f rm false a b) := by
  have hdenormal (v : Dword) : denormalResult f v = true ↔ expField f v = 0 ∧ fracField f v ≠ 0 := by
    simp [denormalResult, isDenormal, (isFloat_iff f).mpr hf]
  have hflush : fpopIeee op g f rm true a b = if denormalResult f (fpopIeee op g f rm false a b).1
      then (fpZero f (Config.flushed op g f rm a b).1, (Config.flushed op g f rm a b).2.setWidth 5)
      else fpopIeee op g f rm false a b := rfl
  rw [hflush]
  refine ⟨fun h => ?_, fun h => if_neg fun hd => h ((hdenormal _).mp hd)⟩
  rw [if_pos ((hdenormal _).mpr h)]
  refine ⟨⟨_, packFields_hasFields hf _ (Nat.zero_le _) (Nat.two_pow_pos _)⟩, ?_⟩
  rw [BitVec.toNat_setWidth]
  exact lt_of_le_of_lt (Nat.mod_le ..) (Config.flushed op g f rm a b).2.isLt

end Operations

/-- Settles O37. -/
theorem fpopRoundsCorrectly : Obligations.FpopRoundsCorrectly := by
  intro f g rm a b hf finite x y an bn rounds integer width
  refine ⟨fun ha hb => ⟨fpAdd_correct hf ha hb, fpSub_correct hf ha hb, fpMul_correct hf ha hb,
    fpDiv_correct hf ha hb⟩, fun ha hx => fpSqrt_correct hf ha hx, fun hg ha => fpCvt_toFloat_correct hf hg ha,
    fun hg => ⟨?_, fun ha n hn => ?_, fun ha => ?_⟩, fun op => fpopIeee_of_fs_set hf op⟩
  · have hinteger : integer = integerValue g a := by rcases hg with rfl | rfl <;> rfl
    rw [hinteger]
    exact fpCvt_ofInteger_correct hf hg
  · intro i r
    have hr : r = if fitsInteger g i then (integerBits g i,
        if (roundTo rm an (significand f a) (lastExp f a) 0).2 then flagI else 0)
      else (Config.invalidInteger f g a, flagV) := (fpCvt_toInteger hf hg).trans (fpToInt_of_rounds ha hn)
    obtain ⟨-, hinexact⟩ := roundTo_eq_of_rounds f a hn
    rw [hr]
    refine ⟨fun hfits => ?_, fun hfits => ?_⟩
    · rw [if_pos ((fitsInteger_iff hg i).mpr hfits)]
      refine ⟨by rcases hg with rfl | rfl <;> rfl, fun heq => ?_, fun hne => ?_⟩
      · exact if_neg fun h => hinexact.mp h heq.symm
      · exact if_pos (hinexact.mpr fun heq => hne heq.symm)
    · rw [if_neg fun h => hfits ((fitsInteger_iff hg i).mp h)]
      rfl
  · have hcvt : fpopIeee .cvt f g rm false a b = fpToInt f g rm a := fpCvt_toInteger hf hg
    rw [hcvt]
    exact fpToInt_of_not_finite ha

end Sys2Proof.Machine
end

section
/-! PROOFS. The FPU's arithmetic and conversions (spec/45_fpu.md R571 to R575, R590 to R609). -/

namespace Sys2Proof.Machine

/-! ## What the default FPU_UNIMPL declines (R575) -/

section Unimplemented

variable {fin fout : Fmt} {rm : BitVec 2} {a : Dword}

/-- No integer format has a denormal. -/
theorem isDenormal_iff (f : Fmt) (v : Dword) :
    isDenormal f v = true ↔ (f = .s ∨ f = .d) ∧ expField f v = 0 ∧ fracField f v ≠ 0 := by
  cases f <;> simp [isDenormal, fracField, fracBits, Nat.mod_one]

theorem denormalResult_iff (f : Fmt) (v : Dword) :
    denormalResult f v = true ↔ (f = .s ∨ f = .d) ∧ expField f v = 0 ∧ fracField f v ≠ 0 := by
  rw [denormalResult, Bool.and_eq_true, isFloat_iff, isDenormal_iff, and_self_left]

/-- A rounded magnitude fits with its sign when it is below half the range, or at it and negative. -/
theorem fitsInteger_signed_iff (hout : fout = .w ∨ fout = .l) (neg : Bool) (n : ℕ) :
    fitsInteger fout (if neg then -(n : ℤ) else n) = true ↔
      if neg then n ≤ 2 ^ ((if fout = .w then 32 else 64) - 1) else n < 2 ^ ((if fout = .w then 32 else 64) - 1) := by
  rw [fitsInteger_iff hout]
  rcases hout with rfl | rfl <;> cases neg <;> simp <;> omega

/-- An operand has no integer: it is no number, or what it rounds to does not fit. -/
theorem unrepresentable_iff (hout : fout = .w ∨ fout = .l) : unrepresentable fin fout rm a = true ↔
    expField fin a = expTop fin ∨ ∀ n : ℕ, roundsToMultiple rm (signField fin a) (fpMagnitude fin a) 1 n →
      ¬(if signField fin a then n ≤ 2 ^ ((if fout = .w then 32 else 64) - 1)
        else n < 2 ^ ((if fout = .w then 32 else 64) - 1)) := by
  by_cases he : expField fin a = expTop fin
  · refine iff_of_true ?_ (.inl he)
    unfold unrepresentable unpack
    rw [if_pos he]
    split_ifs <;> rfl
  · have hnum := unpack_of_finite (lt_of_le_of_ne (expField_le fin a) he)
    have hunrep : unrepresentable fin fout rm a = !fitsInteger fout (if signField fin a
        then -((roundTo rm (signField fin a) (significand fin a) (lastExp fin a) 0).1 : ℤ)
        else (roundTo rm (signField fin a) (significand fin a) (lastExp fin a) 0).1) := by
      rw [unrepresentable, hnum]
      rfl
    rw [hunrep, Bool.not_eq_true', ← Bool.not_eq_true, fitsInteger_signed_iff hout]
    refine ⟨fun h => .inr fun n hn => ?_, fun h => (h.resolve_left he) _ (rounds_roundTo rm fin a)⟩
    rwa [← (roundTo_eq_of_rounds fin a hn).1]

/-- The conversions to an integer that are declined for their operand. -/
theorem toInteger_declined_iff : (isFloat fin && !isFloat fout && unrepresentable fin fout rm a) = true ↔
    (fin = .s ∨ fin = .d) ∧ ¬(fout = .s ∨ fout = .d) ∧
      (expField fin a = expTop fin ∨ ∀ n : ℕ, roundsToMultiple rm (signField fin a) (fpMagnitude fin a) 1 n →
        ¬(if signField fin a then n ≤ 2 ^ ((if fout = .w then 32 else 64) - 1)
          else n < 2 ^ ((if fout = .w then 32 else 64) - 1))) := by
  rw [Bool.and_eq_true, Bool.and_eq_true, isFloat_iff, Bool.not_eq_true', ← Bool.not_eq_true, isFloat_iff, and_assoc]
  refine and_congr_right fun _ => and_congr_right fun hout => unrepresentable_iff ?_
  cases fout <;> simp at hout ⊢

end Unimplemented

/-- Settles O34. -/
theorem fpuArithmeticAndConversions : Obligations.FpuArithmeticAndConversions := by
  intro fd fs ft s hcu1 rm two one converts
  have htwo {i : Instr} {op : FpOp} {f : Fmt} (h : exec i s = fpBinary op f fd fs ft s) : two i op f := by
    refine ⟨fun ⟨hfd, hfs, hft⟩ => fpEnds_of_exec (h.trans ?_) hfd, fun hbad => onFprs_stops hcu1 h (by simpa using hbad)⟩
    rw [fpBinary, onFprs_of_usable hcu1 (by simp [hfd, hfs, hft]), readFpr_eq_fprOperand, readFpr_eq_fprOperand]
    rfl
  have hone {i : Instr} {op : FpOp} {f : Fmt} (h : exec i s = fpUnary op f fd fs s) : one i op f := by
    refine ⟨fun ⟨hfd, hfs⟩ => fpEnds_of_exec (h.trans ?_) hfd, fun hbad => onFprs_stops hcu1 h (by simpa using hbad)⟩
    rw [fpUnary, onFprs_of_usable hcu1 (by simp [hfd, hfs]), readFpr_eq_fprOperand]
    rfl
  have hconverts {i : Instr} {fin fout : Fmt} {mode : BitVec 2} (h : exec i s = fpConvert fin fout mode fd fs s) :
      converts i fin fout mode := by
    refine ⟨fun ⟨hfd, hfs⟩ => fpEnds_of_exec (h.trans ?_) hfd, fun hbad => onFprs_stops hcu1 h (by simpa using hbad)⟩
    rw [fpConvert, onFprs_of_usable hcu1 (by simp [hfd, hfs]), readFpr_eq_fprOperand]
  refine ⟨htwo rfl, htwo rfl, htwo rfl, htwo rfl, hone rfl, hone rfl, hone rfl, htwo rfl, htwo rfl, htwo rfl, htwo rfl,
    hone rfl, hone rfl, hone rfl, hconverts rfl, hconverts rfl, hconverts rfl, hconverts rfl, hconverts rfl,
    hconverts rfl, hconverts rfl, hconverts rfl, hconverts rfl, hconverts rfl, hconverts rfl, hconverts rfl,
    hconverts rfl, hconverts rfl, hconverts rfl, hconverts rfl, hconverts rfl, hconverts rfl, hconverts rfl,
    hconverts rfl, hconverts rfl, hconverts rfl, hconverts rfl, hconverts rfl, hconverts rfl, hconverts rfl,
    fun h op fin fout mode a b => ?_, fun h op fin fout mode a b => ?_⟩
  · rw [fpop, h]
    rfl
  · intro isFp denormal width
    have hunimpl : fpuUnimpl s op fin fout mode a b =
        fpuUnimplDefault op fin fout mode (s.fpu.fcr31.getLsbD 24) a b := by
      rw [fpuUnimpl, h]
      rfl
    rw [hunimpl]
    have ha : denormal fin a ↔ isDenormal fin a = true := (isDenormal_iff fin a).symm
    have hb : denormal fin b ↔ isDenormal fin b = true := (isDenormal_iff fin b).symm
    have hr : denormal fout (fpopIeee op fin fout mode false a b).1 ↔
      denormalResult fout (fpExact op fin fout mode a b).1 = true := (denormalResult_iff ..).symm
    rw [ha, hb, hr, ← toInteger_declined_iff]
    have hfin : (isFloat fin && isDenormal fin a) = isDenormal fin a := by
      rw [Bool.and_eq_right_iff_imp, isFloat_iff, isDenormal_iff]
      exact And.left
    cases op with
    | cvt => simp [fpuUnimplDefault, hfin, or_assoc]
    | add | sub | mul | div | sqrt | abs | neg | compare => simp [fpuUnimplDefault, or_assoc]

end Sys2Proof.Machine
end
